-- ==== Sys2Proof/Word.lean ====
section
/-! DEFINITION. The words of the Jevaro JVR316: bytes, 16-bit fields, 32-bit counts and values, 64-bit
addresses and totals. -/

namespace Sys2Proof

/-- One byte of a record, a register or a telegram. -/
abbrev Byte := BitVec 8

/-- A 16-bit field of a record: `order_id`, `scale`, the telegram check. -/
abbrev Half := BitVec 16

/-- A 32-bit register, count, raw value or image value. -/
abbrev Word := BitVec 32

/-- A 64-bit host address or running total. -/
abbrev Quad := BitVec 64

end Sys2Proof
end

