-- ==== Sys2Proof/Config.lean ====
section
/-! DEFINITION. The fixed sizes and codes of the JVR316. The manual fixes every one of them and leaves no
value open, so no free value (no constant without a body) is declared here. -/

namespace Sys2Proof.Config

/-- "It holds at most 48 records" (R1). -/
def maxStations : Nat := 48

/-- "The Point Table holds 384 points, one per slot" (R24). -/
def slotCount : Nat := 384

/-- "The address range of the table is 1..125" (R1). -/
def maxStationAddress : Nat := 125

/-- Request address 126: all stations (R72). -/
def allStations : Nat := 126

/-- Request address 127: nobody (R72). -/
def nobody : Nat := 127

/-- "Each list holds 0 to 64 entries" (R50). -/
def scanListEntries : Nat := 64

/-- "The Order Cache holds at most 8 orders" (R133). -/
def orderCacheOrders : Nat := 8

/-- "The Bus Queue holds at most 4 entries" (R143). -/
def busQueueEntries : Nat := 4

/-- "It holds at most 5 results": the completion list (R135). -/
def completionResults : Nat := 5

/-- "Result Staging holds at most 6 results" (R165). -/
def stagingResults : Nat := 6

/-- "The arbiter grants an exchange only when Staging has at least three free places" (R102). -/
def grantPlaces : Nat := 3

/-- "two places in Staging are reserved for it" (R103). -/
def reservedPlaces : Nat := 2

/-- A receiver that has collected more than 38 bytes takes the telegram as damaged (R70). -/
def maxTelegramBytes : Nat := 38

/-- Family code of IDENT (R179). -/
def familyCode : Nat := 0x4A

/-- Revision of IDENT (R179). -/
def revision : Nat := 2

end Sys2Proof.Config
end

