-- ==== Sys2Proof/Syntax.lean ====
section
/-! DEFINITION. The commands of the JVR316: one constructor for each row of `spec/opcode_table.json`. A
command is a write of one of the six registers, a completion on the system interconnect, the expiry of a
timer, an event on a lane, or one internal step that the device takes when its conditions hold. The rows
give no operand bits; an operand below is what the event brings from outside (a value written, the data of
a completed read, the lane and what was heard on it). The order rows (ENROL to STATS, ROLE,
UNRECOGNISED_KIND, ORDER_ABANDONED_IN_DRAIN) have no operand: the order is the head of the Order Cache. -/

namespace Sys2Proof

/-- Lane A or Lane B of the Tandem Line. -/
inductive LaneId where
  | a
  | b
deriving DecidableEq, Repr

/-- The two host-memory paths of R162: the Exchange Port's reads and the Report Unit's writes. -/
inductive AccessPath where
  | read
  | write
deriving DecidableEq, Repr

/-- The registers whose writes can change nothing: IDENT, STATE, and RUN with an undefined value (R179). -/
inductive IgnoredTarget where
  | ident
  | state
  | run
deriving DecidableEq, Repr

/-- Whose start delimiter is reported (R69): one the device itself begins to send, or one heard, with the
length in ns of the hold that the receiver measured. -/
inductive Delimiter where
  | sent
  | heard (holdNs : Nat)
deriving DecidableEq, Repr

/-- The 64 operations and events of the opcode table. -/
inductive Instr where
  /-- POWER_ON (R188). -/
  | powerOn
  /-- RESET_PIN (R188). -/
  | resetPin
  /-- START: RUN written with 1 (R182). -/
  | start
  /-- HALT: RUN written with 2 (R184, R187). -/
  | halt
  /-- RESET: RUN written with 3 (R188). -/
  | reset
  /-- NUDGE: any value written to NUDGE (R161, R179). -/
  | nudge (value : Word)
  /-- AREA_LO_WRITE (R179). -/
  | areaLoWrite (value : Word)
  /-- AREA_HI_WRITE (R179). -/
  | areaHiWrite (value : Word)
  /-- REGISTER_WRITE_IGNORED: IDENT, STATE, or an undefined RUN value (R179). -/
  | registerWriteIgnored (target : IgnoredTarget) (value : Word)
  /-- DIRECTORY_READ_DONE, with the 64 bytes read (R182). -/
  | directoryReadDone (data : List Byte)
  /-- START_HOST_BLOCK_READ_DONE, with the 16 bytes read (R183). -/
  | startHostBlockReadDone (data : List Byte)
  /-- LOOK_TIMER_EXPIRY (R161). -/
  | lookTimerExpiry
  /-- HOST_BLOCK_READ_BEGIN (R162). -/
  | hostBlockReadBegin
  /-- HOST_BLOCK_READ_DONE, with the 16 bytes read (R163). -/
  | hostBlockReadDone (data : List Byte)
  /-- ORDER_FETCH_BEGIN (R164). -/
  | orderFetchBegin
  /-- ORDER_FETCH_DONE, with the 32 bytes of each order read (R164). -/
  | orderFetchDone (data : List Byte)
  /-- SUPPLY_ENTRY_READ_BEGIN (R167). -/
  | supplyEntryReadBegin
  /-- SUPPLY_ENTRY_READ_DONE, with the 16 bytes read (R167). -/
  | supplyEntryReadDone (data : List Byte)
  /-- BULK_WAIT_TIMER_EXPIRY (R168). -/
  | bulkWaitTimerExpiry
  /-- ACCESS_ERROR on one of the two paths (R171). -/
  | accessError (path : AccessPath)
  /-- RESULT_WRITE_BEGIN (R169). -/
  | resultWriteBegin
  /-- BULK_WRITE_DONE (R169). -/
  | bulkWriteDone
  /-- RECORD_WRITE_DONE (R169). -/
  | recordWriteDone
  /-- REPORT_BLOCK_WRITE_BEGIN (R172). -/
  | reportBlockWriteBegin
  /-- REPORT_BLOCK_WRITE_DONE (R175). -/
  | reportBlockWriteDone
  /-- HOLD_TIMER_EXPIRY (R173). -/
  | holdTimerExpiry
  /-- ATTENTION_TIMER_EXPIRY (R178). -/
  | attentionTimerExpiry
  /-- ORDER_ABANDONED_IN_DRAIN (R155). -/
  | orderAbandonedInDrain
  /-- UNRECOGNISED_KIND (R136). -/
  | unrecognisedKind
  /-- ENROL (R5, R6). -/
  | enrol
  /-- RETIRE (R7). -/
  | retire
  /-- SHAPE (R44). -/
  | shape
  /-- SCAN_BEGIN (R51). -/
  | scanBegin
  /-- SCAN_ADD (R52). -/
  | scanAdd
  /-- SCAN_COMMIT (R53). -/
  | scanCommit
  /-- READ (R147). -/
  | read
  /-- WRITE (R150). -/
  | write
  /-- LATCH (R151). -/
  | latch
  /-- SNAP (R47). -/
  | snap
  /-- TAKE_TOTALS (R48). -/
  | takeTotals
  /-- CLAIM (R113). -/
  | claim
  /-- YIELD (R114). -/
  | yield
  /-- MARKER (R153). -/
  | marker
  /-- STATS (R154). -/
  | stats
  /-- HOLD_SATISFIED (R142). -/
  | holdSatisfied
  /-- ORDER_RESULT_STAGE (R135). -/
  | orderResultStage
  /-- BUS_GRANT (R104). -/
  | busGrant
  /-- START_DELIMITER, heard or sent on a lane (R69). -/
  | startDelimiter (lane : LaneId) (delimiter : Delimiter)
  /-- TELEGRAM_SENT (R80). -/
  | telegramSent (lane : LaneId)
  /-- TELEGRAM_RECEIVED, with the intervals in ns between the cell-level transitions that follow the
  delimiter, the end of the last bit cell closing the last interval (R69, R70). -/
  | telegramReceived (lane : LaneId) (intervals : List Nat)
  /-- REPLY_WINDOW_EXPIRY (R80). -/
  | replyWindowExpiry (lane : LaneId)
  /-- OVERHEARD_WINDOW_EXPIRY (R86). -/
  | overheardWindowExpiry (lane : LaneId)
  /-- TAKEOVER_TIMER_EXPIRY (R111). -/
  | takeoverTimerExpiry
  /-- MARK_TIMER_EXPIRY (R119). -/
  | markTimerExpiry
  /-- ROLE_RESULT_STAGE (R125). -/
  | roleResultStage
  /-- PERIOD_TIMER_EXPIRY (R57). -/
  | periodTimerExpiry
  /-- SWEEP_START (R56). -/
  | sweepStart
  /-- SWEEP_CLAIM (R59). -/
  | sweepClaim
  /-- SWEEP_RESULT_STAGE (R61). -/
  | sweepResultStage
  /-- DRAIN_TIMER_EXPIRY (R185). -/
  | drainTimerExpiry
  /-- DRAIN_END (R185). -/
  | drainEnd
  /-- ROLE: a ROLE order that names neither CLAIM nor YIELD (R137). -/
  | role
  /-- NO_DELIMITER, with the length in ns of the hold (R69). -/
  | noDelimiter (lane : LaneId) (holdNs : Nat)
  /-- LANE_QUIET (R69). -/
  | laneQuiet (lane : LaneId)
deriving DecidableEq, Repr

end Sys2Proof
end

