-- ==== Sys2Proof/WellFormed.lean ====
section
/-! DEFINITION. Which commands are well formed: the data of a completed read has the length of its access
(R162, R182, R183), and a write listed as ignored is one that no other row covers (R179). A command that is
not well formed is no event of the device; `exec` refuses it by the name `illFormed`. -/

namespace Sys2Proof

/-- The values of RUN that are commands: 1 START, 2 HALT, 3 RESET (R179). -/
def runCommand (value : Word) : Bool := value == 1 || value == 2 || value == 3

/-- Bytes of one order record (R162). -/
def orderBytes : Nat := 32

/-- The check of a command's operands. -/
def Instr.wellFormed : Instr → Bool
  | .registerWriteIgnored .run value => !runCommand value
  | .directoryReadDone data => data.length == 64
  | .startHostBlockReadDone data => data.length == 16
  | .hostBlockReadDone data => data.length == 16
  | .supplyEntryReadDone data => data.length == 16
  | .orderFetchDone data =>
    data.length % orderBytes == 0 && orderBytes ≤ data.length &&
      data.length ≤ Config.orderCacheOrders * orderBytes
  | _ => true

end Sys2Proof
end

