-- ==== Sys2Proof/Decode.lean ====
section
/-! DEFINITION. The commands that a word spells. No row of `spec/opcode_table.json` gives bits: the JVR316
takes register writes, completions, timer expiries and lane events, and has no instruction words. -/

namespace Sys2Proof

/-- The command that the word `w` of `nbits` bits spells by the opcode table: none, since no row of the
table has bits. -/
def decodeTableWord (_nbits _w : Nat) : Option Instr := none

end Sys2Proof
end

