-- ==== Sys2Proof/Machine/State.lean ====
section
/-! DEFINITION. Everything the manual gives the JVR316 to hold, as plain data, block by block (00_scope.md,
"Block overview"), and the state right after power-on or the reset pin (R188). Timers are held as running or
stopped: their expiries are commands. INT_N is not stored: R177 makes it a function of the exchange state
and the tags (`State.intN` in Machine/Flags.lean). -/

namespace Sys2Proof.Machine

/-- The exchange state (R181). -/
inductive ExchangeState where
  | halted
  | running
  | draining
  | faulted
deriving DecidableEq, Repr

/-- The role (R109). -/
inductive Role where
  | off
  | listen
  | active
deriving DecidableEq, Repr

/-- The fault cause that STATE shows (R180). -/
inductive FaultCause where
  | none
  | accessError
  | countError
  | directoryError
deriving DecidableEq, Repr

/-- Station health (R4). -/
inductive Health where
  | unknown
  | online
  | suspect
  | offline
  | mismatch
deriving DecidableEq, Repr

/-- Conditioning mode of a point (R26). -/
inductive Mode where
  | instant
  | total
  | flag
deriving DecidableEq, Repr

/-- Quality of a point (R27). -/
inductive Quality where
  | never
  | fresh
  | stale
  | bad
deriving DecidableEq, Repr

/-- Request verb (R72). -/
inductive Verb where
  | fetch
  | store
  | query
  | latch
  | mark
deriving DecidableEq, Repr

/-- Reply class (R73). -/
inductive ReplyClass where
  | good
  | busy
  | refused
deriving DecidableEq, Repr

/-- Bit rate of the line (R68). -/
inductive BitRate where
  | kbit125
  | kbit250
  | kbit500
deriving DecidableEq, Repr

/-- Lane mode (R88). -/
inductive LaneMode where
  | mirror
  | alternate
  | singleA
  | singleB
deriving DecidableEq, Repr

/-- The settings that START takes from the Directory (R159). `startRole` is LISTEN or ACTIVE. -/
structure Directory where
  orderRing : Quad
  resultRing : Quad
  supplyRing : Quad
  orderSize : Nat
  resultSize : Nat
  supplySize : Nat
  lookInterval : Nat
  sweepPeriod : Nat
  replyWindow : Nat
  takeoverBase : Nat
  markInterval : Nat
  attentionTime : Nat
  drainTime : Nat
  reportCount : Nat
  reportHold : Nat
  bulkWait : Nat
  refillThreshold : Nat
  laneFaultLimit : Nat
  bitRate : BitRate
  laneMode : LaneMode
  masterTag : BitVec 1
  startRole : Role
  listenLearn : Bool
  sweepResults : Bool
deriving DecidableEq, Repr

/-- The four fields of the Host Block (R160, section 8.2). -/
structure HostBlock where
  ordersPosted : Word
  resultsReleased : Word
  bulkPosted : Word
  tagSeen : Byte
deriving DecidableEq, Repr

/-- A station record: the fields that ENROL sets (R3) and the running fields (R4). -/
structure StationRecord where
  address : Nat
  kind : Byte
  firstSlot : Nat
  slotCount : Nat
  readChunk : Nat
  missLimit : Nat
  revisitEvery : Nat
  lanePref : LaneId
  retryLimit : Nat
  health : Health
  verified : Bool
  missCount : Nat
  readCursor : Nat
  lastCondition : Option Byte
  held : Bool
deriving DecidableEq, Repr

/-- The conversion record of a point (R26): `scale` signed 16-bit, `shift` signed 8-bit, `offset` signed
32-bit (the mask of a FLAG point). -/
structure Conversion where
  mode : Mode
  scale : Half
  shift : Byte
  offset : Word
  jumpLimit : Word
  notify : Bool
deriving DecidableEq, Repr

/-- The image of a point (R27). -/
structure Image where
  value : Word
  total : Quad
  lastRaw : Option Word
  clipCount : Nat
  rebaseCount : Nat
  quality : Quality
  age : Word
deriving DecidableEq, Repr

/-- A point: a conversion record and an image (section 2.2). -/
structure Point where
  conv : Conversion
  image : Image
deriving DecidableEq, Repr

/-- The default image (R25). -/
def Image.default : Image :=
  { value := 0, total := 0, lastRaw := none, clipCount := 0, rebaseCount := 0, quality := .never, age := 0 }

/-- The default point (R25). -/
def Point.default : Point :=
  { conv := { mode := .instant, scale := 1, shift := 0, offset := 0, jumpLimit := 0, notify := false }
    image := Image.default }

/-- An order as the Order Cache holds it (R129): `body` is the 20 body bytes. -/
structure Order where
  kind : Byte
  urgent : Bool
  reportNow : Bool
  orderId : Half
  repeats : Nat
  station : Nat
  first : Nat
  count : Nat
  body : List Byte
deriving DecidableEq, Repr

/-- Outcome codes of an ORDER result (R139). -/
inductive OrderOutcome where
  | done
  | partialReads
  | noReply
  | busy
  | refused
  | mismatch
  | notFound
  | alreadyExists
  | overlap
  | tableFull
  | listFull
  | badOrder
  | notActive
  | abandoned
deriving DecidableEq, Repr

/-- A value entry (section 10.4). -/
structure ValueEntry where
  value : Word
  channel : Nat
  quality : Quality
  clipped : Bool
  rebased : Bool
  instanceNo : Nat
deriving DecidableEq, Repr

/-- A total entry (section 10.4). -/
structure TotalEntry where
  total : Quad
  age : Word
  clipCount : Nat
  channel : Nat
  quality : Quality
  mode : Mode
deriving DecidableEq, Repr

/-- What an ORDER result carries as entries (R139): value entries, total entries, or the six lane counters. -/
inductive Entries where
  | values (list : List ValueEntry)
  | totals (list : List TotalEntry)
  | counters (list : List Word)
deriving DecidableEq, Repr

/-- The content of an ORDER result (R139). -/
structure OrderResult where
  kind : Byte
  orderId : Half
  outcome : OrderOutcome
  urgent : Bool
  reportNow : Bool
  repeatIgnored : Bool
  station : Nat
  detail : Nat
  entries : Entries
deriving DecidableEq, Repr

/-- The content of a STATION result (R18). -/
structure StationResult where
  station : Nat
  health : Health
  previous : Health
  verified : Bool
  missCount : Nat
  condition : Option Byte
  identity : Option (Byte × Nat)
  learned : Bool
deriving DecidableEq, Repr

/-- The content of a CHANGE result (R42). -/
structure ChangeResult where
  station : Nat
  causeFlag : Bool
  causeJump : Bool
  changedCount : Nat
  firstChannel : Nat
  learned : Bool
  sweepCount : Word
  oldValue : Option Word
  entries : List ValueEntry
deriving DecidableEq, Repr

/-- The content of a SWEEP result (R62). -/
structure SweepResult where
  number : Word
  polls : Nat
  skipped : Nat
  misses : Nat
  late : Bool
  abandoned : Bool
deriving DecidableEq, Repr

/-- The reasons of a ROLE result (R125). -/
inductive RoleReason where
  | takeover
  | claimed
  | yielded
  | hostSilent
  | contest
deriving DecidableEq, Repr

/-- The content of a ROLE result (R125). -/
structure RoleResult where
  role : Role
  previous : Role
  reason : RoleReason
  shift : Nat
  contestCount : Word
  foreignTag : Option (BitVec 1)
deriving DecidableEq, Repr

/-- A staged result (R165). -/
inductive Result where
  | order (r : OrderResult)
  | station (r : StationResult)
  | change (r : ChangeResult)
  | sweep (r : SweepResult)
  | role (r : RoleResult)
deriving DecidableEq, Repr

/-- A START in progress: the area base it took, and the Directory once read and passed (R182, R183). -/
structure StartProgress where
  base : Quad
  directory : Option Directory
deriving DecidableEq, Repr

/-- Control (CTL): the register window, the exchange state, the fault cause and the drain (R179 to R188).
`drainExpired`: the drain timer has expired and an access is being let complete. `drainEnded`: the drain has
ended and its final Report Block is due or being written (R185). -/
structure Control where
  areaLo : Word
  areaHi : Word
  exchangeState : ExchangeState
  faultCause : FaultCause
  startRefused : Bool
  start : Option StartProgress
  areaBase : Quad
  drainTimer : Bool
  drainExpired : Bool
  drainEnded : Bool
  dropped : Word
deriving DecidableEq, Repr

/-- The access in progress on the Exchange Port's read path (R162), with its host address. -/
inductive ReadAccess where
  | directory (address : Quad)
  | startHostBlock (address : Quad)
  | hostBlock (address : Quad)
  | supplyEntry (address : Quad)
  | orderFetch (address : Quad) (orders : Nat)
deriving DecidableEq, Repr

/-- The Exchange Port (XPT): R158 to R164. `directory` is the device's Directory copy; the bit rate in
force is its bit rate, so none is in force before the first START taken (R68). -/
structure ExchangePort where
  directory : Option Directory
  ordersTaken : Word
  bulkTaken : Word
  hostBlock : HostBlock
  lookTimer : Bool
  readWanted : Bool
  readPath : Option ReadAccess
deriving DecidableEq, Repr

/-- The access in progress on the Report Unit's write path (R162), with its host address and bytes. -/
inductive WriteAccess where
  | bulk (address : Quad) (data : List Byte)
  | record (address : Quad) (data : List Byte)
  | report (address : Quad) (data : List Byte) (tag : Byte)
deriving DecidableEq, Repr

/-- How the bulk buffer of the Staging head stands (R167 to R170). -/
inductive HeadSettlement where
  | unsettled
  | buffer (address : Quad) (length : Nat) (supplyCount : Word)
  | inlineOnly (supplyBad : Bool)
deriving DecidableEq, Repr

/-- The attention timer; `expired` until its condition has ended (R178). -/
inductive AttentionTimer where
  | stopped
  | running
  | expired
deriving DecidableEq, Repr

/-- The event summary (R176). -/
structure EventSummary where
  station : Bool
  lane : Bool
  role : Bool
  truncate : Bool
  overrun : Bool
  orderErr : Bool
deriving DecidableEq, Repr

/-- The event summary with every event clear. -/
def EventSummary.clear : EventSummary :=
  { station := false, lane := false, role := false, truncate := false, overrun := false, orderErr := false }

/-- The Report Unit (RPU): R165 to R178. `changed`: a change worth reporting has happened since the last
Report Block write began (R173, R174). -/
structure ReportUnit where
  staging : List Result
  head : HeadSettlement
  resultsWritten : Word
  writePath : Option WriteAccess
  recordsSinceReport : Nat
  reportDue : Bool
  changed : Bool
  holdTimer : Bool
  bulkWaitTimer : Bool
  attention : AttentionTimer
  lastTag : Byte
  events : EventSummary
deriving DecidableEq, Repr

/-- The Sweep Engine's states (section 3.2). -/
inductive SweepState where
  | stopped
  | idle
  | sweeping
deriving DecidableEq, Repr

/-- The Sweep Engine (SWE): section 3.2. `claim` is the station of the raised claim; `firstPoll` is the mark
that the sweep's next claim carries (R59); `endWait`: the sweep has ended and its SWEEP result waits for a
place (R61); `abandoning`: the sweep is abandoned and its poll is open or its SWEEP result waits (R64);
`sweepNumber` is sweep_count while the sweep runs (R62). -/
structure SweepEngine where
  state : SweepState
  active : List Nat
  pendingList : List Nat
  pendingReady : Bool
  cursor : Nat
  sweepCount : Word
  overrunCount : Word
  periodTimer : Bool
  startDue : Bool
  polls : Nat
  skipped : Nat
  misses : Nat
  late : Bool
  sweepNumber : Word
  claim : Option Nat
  firstPoll : Bool
  endWait : Bool
  abandoning : Bool
deriving DecidableEq, Repr

/-- A request telegram's fields (R72). -/
structure Request where
  address : Nat
  tag : BitVec 1
  verb : Verb
  seq : BitVec 3
  first : Nat
  count : Nat
  values : List Word
deriving DecidableEq, Repr

/-- A reply telegram's fields (R73); `identity` is the kind code and channel count. -/
structure Reply where
  address : Nat
  verb : Verb
  cls : ReplyClass
  seq : BitVec 3
  count : Nat
  condition : Byte
  values : List Word
  identity : Option (Byte × Nat)
deriving DecidableEq, Repr

/-- A lane's outcome in an attempt (R80). -/
inductive LaneOutcome where
  | silent
  | damaged
  | goodReply (reply : Reply)
deriving DecidableEq, Repr

/-- A lane's part in the attempt in progress: not used; its request being sent; its reply window running;
the first telegram of the window being received; ended with an outcome; ended without one (LATCH, MARK). -/
inductive LanePart where
  | unused
  | sending
  | waiting
  | receiving
  | ended (outcome : LaneOutcome)
  | closed
deriving DecidableEq, Repr

/-- Who asked for the open exchange (R78). -/
inductive Claimant where
  | busEntry
  | sweep
  | mark
deriving DecidableEq, Repr

/-- The open exchange (R78). `lanePref` is lane_pref as read at the grant (R3); `failedA`, `failedB`: an
earlier attempt of the exchange failed on that lane (R97). -/
structure Exchange where
  claimant : Claimant
  address : Nat
  verb : Verb
  first : Nat
  count : Nat
  values : List Word
  seq : BitVec 3
  attempts : Nat
  attempt : Nat
  noRetry : Bool
  lanePref : LaneId
  partA : LanePart
  partB : LanePart
  failedA : Bool
  failedB : Bool
deriving DecidableEq, Repr

/-- A lane's result in the overheard exchange (R86). -/
inductive OverResult where
  | waiting
  | silent
  | spoiled
  | recorded (reply : Reply)
deriving DecidableEq, Repr

/-- A lane of the overheard exchange (R86): `receiving` once a delimiter has fallen within its window,
`windowExpired` once the window has run out. -/
structure OverLane where
  result : OverResult
  receiving : Bool
  windowExpired : Bool
deriving DecidableEq, Repr

/-- The overheard exchange (R86). `lateA`, `lateB`: the telegram being received on that lane began after the
first lane's window had expired. -/
structure Overheard where
  request : Request
  firstLane : LaneId
  laneA : Option OverLane
  laneB : Option OverLane
  lateA : Bool
  lateB : Bool
deriving DecidableEq, Repr

/-- The Exchange Unit (EXU): R77, R78, R86. -/
structure ExchangeUnit where
  seqCounter : BitVec 3
  exchange : Option Exchange
  overheard : Option Overheard
deriving DecidableEq, Repr

/-- A lane's receiver (R68, R69): `off` until a bit rate is in force; `quiet`, ready for a hold;
`receiving` a telegram; `discarding` transitions until quiet. -/
inductive Receiver where
  | off
  | quiet
  | receiving
  | discarding
deriving DecidableEq, Repr

/-- A lane's transmitter (R68, R79): idle; a telegram whose delimiter is about to be reported; a telegram
whose delimiter has been sent. The bytes are those of the telegram, check included. -/
inductive Transmitter where
  | idle
  | starting (telegram : List Byte)
  | sending (telegram : List Byte)
deriving DecidableEq, Repr

/-- A Lane Controller (R89, R100): lane state, consecutive_faults, counters, receiver and transmitter. -/
structure LaneController where
  up : Bool
  faults : Nat
  sent : Word
  damaged : Word
  rx : Receiver
  tx : Transmitter
deriving DecidableEq, Repr

/-- The two Lane Controllers and the counters of both lanes together (R100). -/
structure Lanes where
  a : LaneController
  b : LaneController
  silentWindows : Word
  disagreements : Word
deriving DecidableEq, Repr

/-- The turn token (R101). -/
inductive TurnToken where
  | sweepEngine
  | busQueue
deriving DecidableEq, Repr

/-- The Bus Arbiter (BAR): the turn token and the Staging places reserved for the open exchange (R103). -/
structure Arbiter where
  token : TurnToken
  reserved : Nat
deriving DecidableEq, Repr

/-- A wind-down in progress (R121): whether it waits for the order that was in hand in QUEUE_WAIT or
HOLD_WAIT when the role left ACTIVE. -/
structure WindDown where
  awaitHand : Bool
deriving DecidableEq, Repr

/-- A ROLE result that is due (R125); its contest count is taken when it is staged. -/
structure RoleChange where
  role : Role
  previous : Role
  reason : RoleReason
  shift : Nat
  foreignTag : Option (BitVec 1)
deriving DecidableEq, Repr

/-- The Mastership Unit (MSU): R109 to R125. `offAtClose`: a drain has begun with an exchange open, so the
role becomes OFF when it closes (R123). -/
structure Mastership where
  role : Role
  shift : Nat
  contestCount : Word
  takeoverTimer : Bool
  markTimer : Bool
  markClaim : Bool
  windDown : Option WindDown
  roleDue : List RoleChange
  offAtClose : Bool
deriving DecidableEq, Repr

/-- The hand of the Order Unit (R134). ROLE_WAIT is `claimDeferred` (a CLAIM that waits for a wind-down),
`claimStaging` (a CLAIM whose ROLE result waits) and `yieldStaging` (R152). -/
inductive Hand where
  | empty
  | queueWait (order : Order)
  | holdWait (order : Order)
  | markerWait (order : Order)
  | claimDeferred (order : Order)
  | claimStaging (order : Order)
  | yieldStaging (order : Order)
  | stageWait (order : Order)
deriving DecidableEq, Repr

/-- A Bus Queue entry (R144); its URGENT mark is its order's flag. -/
structure BusEntry where
  order : Order
  exchangeOpen : Bool
  nextInstance : Nat
  gathered : List ValueEntry
  good : Nat
  busy : Nat
  refused : Nat
  miss : Nat
deriving DecidableEq, Repr

/-- A result of the completion list (R135), and whether it is that of the order in hand. -/
structure Completed where
  fromHand : Bool
  result : OrderResult
deriving DecidableEq, Repr

/-- The Order Unit (ORU): section 7.2. -/
structure OrderUnit where
  cache : List Order
  hand : Hand
  busQueue : List BusEntry
  completion : List Completed
deriving DecidableEq, Repr

/-- The state of the JVR316: its blocks, and the commands that wait, first in, first out. -/
structure State where
  ctl : Control
  xpt : ExchangePort
  rpu : ReportUnit
  /-- The Station Table, in rising order of address (R1). -/
  stations : List StationRecord
  /-- The Point Table, one point for each slot (R24). -/
  points : Vector Point Config.slotCount
  swe : SweepEngine
  exu : ExchangeUnit
  lanes : Lanes
  bar : Arbiter
  msu : Mastership
  oru : OrderUnit
  pending : List Instr
deriving DecidableEq, Repr

/-- Why the machine stops with a fault: never. Every error the manual describes is a state of the device
(FAULTED, START_REFUSED, BAD_ORDER, MISMATCH), so no step ends in a fault. -/
inductive Fault where
deriving DecidableEq, Repr

/-- Why a command is refused. -/
inductive Refusal where
  /-- Raised by `exec` for a command without a meaning; no arm of this model raises it. Safe. -/
  | notModelled (mnemonic : String)
  /-- Raised by the completions of reads and by REGISTER_WRITE_IGNORED when the operand is not that of such
  an event: the data has not the length of the access in progress, or the write is a START, HALT or RESET.
  No event of the device carries such an operand. Safe. -/
  | illFormed
deriving DecidableEq, Repr

/-- Control at power-on (R181, R188). -/
def Control.reset : Control :=
  { areaLo := 0, areaHi := 0, exchangeState := .halted, faultCause := .none, startRefused := false
    start := none, areaBase := 0, drainTimer := false, drainExpired := false, drainEnded := false, dropped := 0 }

/-- The Exchange Port at power-on (R160, R161, R188). -/
def ExchangePort.reset : ExchangePort :=
  { directory := none, ordersTaken := 0, bulkTaken := 0
    hostBlock := { ordersPosted := 0, resultsReleased := 0, bulkPosted := 0, tagSeen := 0 }
    lookTimer := false, readWanted := false, readPath := none }

/-- The Report Unit at power-on (R160, R165, R173, R175, R176, R178). For the record count since the last report R173
gives only its value at START; 0 here is the model's choice (log entry 11). -/
def ReportUnit.reset : ReportUnit :=
  { staging := [], head := .unsettled, resultsWritten := 0, writePath := none, recordsSinceReport := 0
    reportDue := false, changed := false, holdTimer := false, bulkWaitTimer := false, attention := .stopped
    lastTag := 0, events := EventSummary.clear }

/-- The Sweep Engine at power-on (R50, R55, R66). -/
def SweepEngine.reset : SweepEngine :=
  { state := .stopped, active := [], pendingList := [], pendingReady := false, cursor := 0, sweepCount := 0
    overrunCount := 0, periodTimer := false, startDue := false, polls := 0, skipped := 0, misses := 0
    late := false, sweepNumber := 0, claim := none, firstPoll := false, endWait := false, abandoning := false }

/-- A Lane Controller at power-on (R68, R89, R100). -/
def LaneController.reset : LaneController :=
  { up := true, faults := 0, sent := 0, damaged := 0, rx := .off, tx := .idle }

/-- The Mastership Unit at power-on (R124). -/
def Mastership.reset : Mastership :=
  { role := .off, shift := 0, contestCount := 0, takeoverTimer := false, markTimer := false, markClaim := false
    windDown := none, roleDue := [], offAtClose := false }

/-- The machine right after power-on or the reset pin (R188): every table empty, every point the default
point, every count, tag and timer at its reset value, and no command waiting. -/
def State.reset : State :=
  { ctl := Control.reset
    xpt := ExchangePort.reset
    rpu := ReportUnit.reset
    stations := []
    points := Vector.replicate Config.slotCount Point.default
    swe := SweepEngine.reset
    exu := { seqCounter := 0, exchange := none, overheard := none }
    lanes := { a := LaneController.reset, b := LaneController.reset, silentWindows := 0, disagreements := 0 }
    bar := { token := .sweepEngine, reserved := 0 }
    msu := Mastership.reset
    oru := { cache := [], hand := .empty, busQueue := [], completion := [] }
    pending := [] }

end Sys2Proof.Machine
end

