-- ==== Sys2Proof/Machine/Bytes.lean ====
section
/-! DEFINITION. Byte order. Records in host memory are little-endian; multi-byte fields of telegrams go most
significant byte first (00_scope.md, "Byte order"; section 10). Decided here once. -/

namespace Sys2Proof.Machine

/-- Byte `offset` of a record. -/
def byteAt (data : List Byte) (offset : Nat) : Byte := data.getD offset 0

/-- The unsigned number of `n` bytes from `offset`, least significant byte first. -/
def leNat (data : List Byte) (offset : Nat) : Nat → Nat
  | 0 => 0
  | n + 1 => (byteAt data offset).toNat + 256 * leNat data (offset + 1) n

/-- A 16-bit little-endian field. -/
def leHalf (data : List Byte) (offset : Nat) : Half := BitVec.ofNat 16 (leNat data offset 2)

/-- A 32-bit little-endian field. -/
def leWord (data : List Byte) (offset : Nat) : Word := BitVec.ofNat 32 (leNat data offset 4)

/-- A 64-bit little-endian field. -/
def leQuad (data : List Byte) (offset : Nat) : Quad := BitVec.ofNat 64 (leNat data offset 8)

/-- The `n` bytes of a number, least significant byte first. -/
def leBytes (value : Nat) : Nat → List Byte
  | 0 => []
  | n + 1 => BitVec.ofNat 8 value :: leBytes (value / 256) n

/-- A 16-bit field as bytes, most significant first. -/
def beHalf (value : Half) : List Byte := [value.extractLsb' 8 8, value.extractLsb' 0 8]

/-- A 32-bit field as bytes, most significant first. -/
def beWord (value : Word) : List Byte :=
  [value.extractLsb' 24 8, value.extractLsb' 16 8, value.extractLsb' 8 8, value.extractLsb' 0 8]

/-- 32-bit values from bytes, most significant byte first; none if the bytes are no whole number of values. -/
def beWords : List Byte → Option (List Word)
  | [] => some []
  | b3 :: b2 :: b1 :: b0 :: rest => (beWords rest).map (fun ws => (b3 ++ b2 ++ b1 ++ b0) :: ws)
  | _ => none

/-- A record filled up with zero bytes to `n` bytes: "Every byte … that the tables above do not name for its
type is written 0" (R190). -/
def zeroFilled (n : Nat) (data : List Byte) : List Byte := data ++ List.replicate (n - data.length) 0

/-- A bit mask built from flags, the first flag in bit 0. -/
def flagByte : List Bool → Nat
  | [] => 0
  | f :: rest => (if f then 1 else 0) + 2 * flagByte rest

end Sys2Proof.Machine
end

