-- ==== Sys2Proof/Machine/Operands.lean ====
section
/-! DEFINITION. How the device reads the host's records: Directory, Host Block, order and supply entry
(sections 10.2 and 10.3, R189), with the range tests of START (R182) and the kinds of order (R130). -/

namespace Sys2Proof.Machine

/-- A setting within its range. -/
def within (low high n : Nat) : Bool := low ≤ n && n ≤ high

/-- Directory byte 49 (R159). -/
def bitRateOf (code : Nat) : Option BitRate :=
  match code with
  | 0 => some .kbit125
  | 1 => some .kbit250
  | 2 => some .kbit500
  | _ => none

/-- Directory byte 50 (R159). -/
def laneModeOf (code : Nat) : Option LaneMode :=
  match code with
  | 0 => some .mirror
  | 1 => some .alternate
  | 2 => some .singleA
  | 3 => some .singleB
  | _ => none

/-- Directory byte 52 (R159). -/
def startRoleOf (code : Nat) : Option Role :=
  match code with
  | 0 => some .listen
  | 1 => some .active
  | _ => none

/-- An on/off byte of the Directory (R159). -/
def onOff (code : Nat) : Option Bool :=
  match code with
  | 0 => some false
  | 1 => some true
  | _ => none

/-- A ring size: a power of two in its range (R159). -/
def ringSize (n : Nat) : Bool := [16, 32, 64, 128, 256, 512, 1024].contains n

/-- A supply ring size: 0, or a power of two in 8..256 (R159). -/
def supplySizeOk (n : Nat) : Bool := [0, 8, 16, 32, 64, 128, 256].contains n

/-- The ranges and alignments of R159 that are not codes, tested by START (R182). -/
def Directory.inRange (d : Directory) : Bool :=
  d.orderRing.toNat % 32 == 0 && d.resultRing.toNat % 32 == 0 && d.supplyRing.toNat % 16 == 0 &&
  ringSize d.orderSize && ringSize d.resultSize && supplySizeOk d.supplySize &&
  within 0 1000 d.lookInterval && within 0 60000 d.sweepPeriod && within 20 2000 d.replyWindow &&
  within 10 5000 d.takeoverBase && within 2 1250 d.markInterval && d.markInterval * 4 ≤ d.takeoverBase &&
  (d.attentionTime == 0 || within 10 10000 d.attentionTime) && within 1 1000 d.drainTime &&
  within 1 64 d.reportCount && within 0 100 d.reportHold && within 0 100 d.bulkWait &&
  within 1 8 d.refillThreshold && within 1 15 d.laneFaultLimit

/-- The Directory read as section 10.2 lays it out and tested as R182 states; none is DIRECTORY_ERROR. -/
def parseDirectory (data : List Byte) : Option Directory :=
  match bitRateOf (leNat data 49 1), laneModeOf (leNat data 50 1), onOff (leNat data 51 1),
    startRoleOf (leNat data 52 1), onOff (leNat data 53 1), onOff (leNat data 54 1) with
  | some rate, some mode, some tag, some startRole, some learn, some sweepResults =>
    let d : Directory :=
      { orderRing := leQuad data 0, resultRing := leQuad data 8, supplyRing := leQuad data 16
        orderSize := leNat data 24 2, resultSize := leNat data 26 2, supplySize := leNat data 28 2
        lookInterval := leNat data 30 2, sweepPeriod := leNat data 32 2, replyWindow := leNat data 34 2
        takeoverBase := leNat data 36 2, markInterval := leNat data 38 2, attentionTime := leNat data 40 2
        drainTime := leNat data 42 2, reportCount := leNat data 44 1, reportHold := leNat data 45 1
        bulkWait := leNat data 46 1, refillThreshold := leNat data 47 1, laneFaultLimit := leNat data 48 1
        bitRate := rate, laneMode := mode, masterTag := BitVec.ofBool tag, startRole := startRole
        listenLearn := learn, sweepResults := sweepResults }
    if d.inRange then some d else none
  | _, _, _, _, _, _ => none

/-- The Host Block (section 10.2). -/
def parseHostBlock (data : List Byte) : HostBlock :=
  { ordersPosted := leWord data 0, resultsReleased := leWord data 4, bulkPosted := leWord data 8
    tagSeen := byteAt data 12 }

/-- An order record (section 10.3): bits 7..2 of the flags and bits 7..4 of repeat are ignored (R189). -/
def parseOrder (data : List Byte) : Order :=
  { kind := byteAt data 0
    urgent := (byteAt data 1).getLsbD 0
    reportNow := (byteAt data 1).getLsbD 1
    orderId := leHalf data 2
    repeats := ((byteAt data 4).extractLsb' 0 4).toNat
    station := (byteAt data 5).toNat
    first := (byteAt data 6).toNat
    count := (byteAt data 7).toNat
    body := (data.drop 12).take 20 }

/-- The orders of a completed fetch of `k` records, in ring order (R164). -/
def parseOrders (data : List Byte) : Nat → List Order
  | 0 => []
  | k + 1 => parseOrder (data.take orderBytes) :: parseOrders (data.drop orderBytes) k

/-- The fourteen kinds of order (R130). -/
inductive OrderKind where
  | enrol
  | retire
  | shape
  | scanBegin
  | scanAdd
  | scanCommit
  | read
  | write
  | latch
  | snap
  | takeTotals
  | role
  | marker
  | stats
deriving DecidableEq, Repr

/-- Kind codes (section 10.3); none for 00h and 0Fh to FFh. -/
def Order.kind? (o : Order) : Option OrderKind :=
  match o.kind.toNat with
  | 0x01 => some .enrol
  | 0x02 => some .retire
  | 0x03 => some .shape
  | 0x04 => some .scanBegin
  | 0x05 => some .scanAdd
  | 0x06 => some .scanCommit
  | 0x07 => some .read
  | 0x08 => some .write
  | 0x09 => some .latch
  | 0x0A => some .snap
  | 0x0B => some .takeTotals
  | 0x0C => some .role
  | 0x0D => some .marker
  | 0x0E => some .stats
  | _ => none

/-- The kinds that use the station field (R130). -/
def OrderKind.usesStation : OrderKind → Bool
  | .enrol | .retire | .shape | .read | .write | .latch | .snap | .takeTotals => true
  | .scanBegin | .scanAdd | .scanCommit | .role | .marker | .stats => false

/-- The repeatable kinds (R130, R132). -/
def OrderKind.repeatable : OrderKind → Bool
  | .read | .shape => true
  | .enrol | .retire | .scanBegin | .scanAdd | .scanCommit | .write | .latch | .snap | .takeTotals | .role
  | .marker | .stats => false

/-- The request of a ROLE order (section 10.3). -/
inductive RoleRequest where
  | claim
  | yield
  | other
deriving DecidableEq, Repr

/-- Body byte 0 of a ROLE order: 1 CLAIM, 2 YIELD; any other value is refused. -/
def Order.roleRequest (o : Order) : RoleRequest :=
  if byteAt o.body 0 = 1 then .claim else if byteAt o.body 0 = 2 then .yield else .other

/-- The addresses that a SCAN_ADD carries: the first `count` of its body (R52). -/
def Order.scanAddresses (o : Order) : List Nat := (o.body.take o.count).map BitVec.toNat

/-- The raw values that a WRITE carries: the first `count` of its body (R150). -/
def Order.writeValues (o : Order) : List Word := (List.range o.count).map (fun i => leWord o.body (4 * i))

/-- Mode code of a SHAPE body (section 10.3). -/
def modeOf (code : Nat) : Option Mode :=
  match code with
  | 0 => some .instant
  | 1 => some .total
  | 2 => some .flag
  | _ => none

/-- Shift −31..+15 is in range (R26). -/
def shiftInRange (shift : Byte) : Bool := -31 ≤ shift.toInt && shift.toInt ≤ 15

/-- The conversion record of a SHAPE order (section 10.3), if its mode and shift are in range (R26). -/
def Order.conversion? (o : Order) : Option Conversion :=
  match modeOf (byteAt o.body 0).toNat with
  | none => none
  | some mode =>
    if shiftInRange (byteAt o.body 4) then
      some { mode := mode, scale := leHalf o.body 2, shift := byteAt o.body 4, offset := leWord o.body 8
             jumpLimit := leWord o.body 12, notify := (byteAt o.body 1).getLsbD 0 }
    else none

/-- lane_pref code of an ENROL body: 0 A, 1 B (section 10.3). -/
def laneOf (code : Nat) : Option LaneId :=
  match code with
  | 0 => some .a
  | 1 => some .b
  | _ => none

/-- Steps 1 of R5: the record that an ENROL describes, with the initial running values of R4, if the address
and every body field lie in their ranges and the window ends by slot 383. -/
def Order.enrolRecord? (o : Order) : Option StationRecord :=
  match laneOf (byteAt o.body 7).toNat with
  | none => none
  | some lane =>
    let r : StationRecord :=
      { address := o.station, kind := byteAt o.body 0, firstSlot := leNat o.body 2 2
        slotCount := (byteAt o.body 1).toNat, readChunk := (byteAt o.body 4).toNat
        missLimit := (byteAt o.body 5).toNat, revisitEvery := (byteAt o.body 6).toNat, lanePref := lane
        retryLimit := (byteAt o.body 8).toNat, health := .unknown, verified := false, missCount := 0
        readCursor := 0, lastCondition := none, held := false }
    if within 1 Config.maxStationAddress r.address && within 0 383 r.firstSlot && within 1 32 r.slotCount &&
        within 1 8 r.readChunk && within 1 15 r.missLimit && within 1 255 r.revisitEvery &&
        within 0 3 r.retryLimit && r.firstSlot + r.slotCount - 1 ≤ 383 then some r else none

/-- A supply entry's address and length (section 10.2). -/
def supplyAddress (data : List Byte) : Quad := leQuad data 0

/-- The whole 32-bit length of a supply entry (section 10.2). -/
def supplyLength (data : List Byte) : Nat := leNat data 8 4

/-- "It is valid when its address is a multiple of 8 and its length lies in 64..4096 and is a multiple of
64" (R167). -/
def supplyValid (data : List Byte) : Bool :=
  (supplyAddress data).toNat % 8 == 0 && within 64 4096 (supplyLength data) && supplyLength data % 64 == 0

end Sys2Proof.Machine
end

