-- ==== Sys2Proof/Machine/Records.lean ====
section
/-! DEFINITION. The records that the device writes, byte for byte (sections 10.2 and 10.4, R190): results with
their inline entries or bulk reference (R166, R170), and the codes that fill them. -/

namespace Sys2Proof.Machine

/-- Exchange state codes (section 10.1). -/
def ExchangeState.code : ExchangeState → Nat
  | .halted => 0
  | .running => 1
  | .draining => 2
  | .faulted => 3

/-- Role codes (section 10.1). -/
def Role.code : Role → Nat
  | .off => 0
  | .listen => 1
  | .active => 2

/-- Fault cause codes (section 10.1). -/
def FaultCause.code : FaultCause → Nat
  | .none => 0
  | .accessError => 1
  | .countError => 2
  | .directoryError => 3

/-- Health codes (section 10.4). -/
def Health.code : Health → Nat
  | .unknown => 0
  | .online => 1
  | .suspect => 2
  | .offline => 3
  | .mismatch => 4

/-- Quality codes (section 10.4). -/
def Quality.code : Quality → Nat
  | .never => 0
  | .fresh => 1
  | .stale => 2
  | .bad => 3

/-- Mode codes (section 10.3). -/
def Mode.code : Mode → Nat
  | .instant => 0
  | .total => 1
  | .flag => 2

/-- Outcome codes (section 10.4). -/
def OrderOutcome.code : OrderOutcome → Nat
  | .done => 1
  | .partialReads => 2
  | .noReply => 3
  | .busy => 4
  | .refused => 5
  | .mismatch => 6
  | .notFound => 7
  | .alreadyExists => 8
  | .overlap => 9
  | .tableFull => 10
  | .listFull => 11
  | .badOrder => 12
  | .notActive => 13
  | .abandoned => 14

/-- Reason codes of a ROLE result (section 10.4). -/
def RoleReason.code : RoleReason → Nat
  | .takeover => 1
  | .claimed => 2
  | .yielded => 3
  | .hostSilent => 4
  | .contest => 5

/-- The event summary byte (section 10.2). -/
def EventSummary.byte (e : EventSummary) : Nat :=
  flagByte [e.station, e.lane, e.role, e.truncate, e.overrun, e.orderErr]

/-- A value entry, 8 bytes (section 10.4). -/
def ValueEntry.bytes (e : ValueEntry) : List Byte :=
  leBytes e.value.toNat 4 ++
    [BitVec.ofNat 8 e.channel, BitVec.ofNat 8 e.quality.code, BitVec.ofNat 8 (flagByte [e.clipped, e.rebased]),
      BitVec.ofNat 8 e.instanceNo]

/-- A total entry, 16 bytes (section 10.4). -/
def TotalEntry.bytes (e : TotalEntry) : List Byte :=
  leBytes e.total.toNat 8 ++ leBytes e.age.toNat 4 ++ leBytes e.clipCount 2 ++
    [BitVec.ofNat 8 e.channel, BitVec.ofNat 8 (e.quality.code + 4 * e.mode.code)]

/-- The bytes of each entry, in the result's own entry order. -/
def Entries.each : Entries → List (List Byte)
  | .values l => l.map ValueEntry.bytes
  | .totals l => l.map TotalEntry.bytes
  | .counters l => l.map (fun c => leBytes c.toNat 4)

/-- Bytes of one entry (R166): 8 for a value entry, 16 for a total entry, 4 for a lane counter. -/
def Entries.size : Entries → Nat
  | .values _ => 8
  | .totals _ => 16
  | .counters _ => 4

/-- How many entries fit inline in an ORDER record (R166): 24 bytes. -/
def Entries.orderRoom : Entries → Nat
  | .values _ => 3
  | .totals _ => 1
  | .counters _ => 6

/-- The entries of a result (R166). -/
def Result.entries : Result → Entries
  | .order r => r.entries
  | .change r => .values r.entries
  | .station _ => .values []
  | .sweep _ => .values []
  | .role _ => .values []

/-- How many entries the record has room for inline (R166). -/
def Result.room : Result → Nat
  | .order r => r.entries.orderRoom
  | .change _ => 2
  | .station _ => 0
  | .sweep _ => 0
  | .role _ => 0

/-- "A result with more entries than fit inline needs a bulk buffer" (R166). -/
def Result.needsBuffer (r : Result) : Bool := r.room < r.entries.each.length

/-- Whether the result carries REPORT_NOW: as the order had it; always for STATION and ROLE; with LATE for
SWEEP; never for CHANGE (R18, R42, R62, R125, R131). -/
def Result.reportNow : Result → Bool
  | .order r => r.reportNow
  | .station _ => true
  | .change _ => false
  | .sweep r => r.late
  | .role _ => true

/-- The number of entries the result carries when written (R170). -/
def Result.carried (r : Result) : HeadSettlement → Nat
  | .unsettled => r.entries.each.length
  | .buffer _ length _ => min r.entries.each.length (length / r.entries.size)
  | .inlineOnly _ => min r.entries.each.length r.room

/-- TRUNCATED is set when the entries carried are not all (R170). -/
def Result.truncated (r : Result) (h : HeadSettlement) : Bool := r.carried h < r.entries.each.length

/-- The bytes of the entries carried, back to back (section 10.4). -/
def Result.entryBytes (r : Result) (h : HeadSettlement) : List Byte :=
  (r.entries.each.take (r.carried h)).flatten

/-- The entry area: inline entries, or the bulk reference in its first 14 bytes (section 10.4). -/
def Result.entryArea (r : Result) (h : HeadSettlement) : List Byte :=
  match h with
  | .buffer address _ supplyCount =>
    leBytes address.toNat 8 ++ leBytes supplyCount.toNat 4 ++ leBytes (r.entryBytes h).length 2
  | .unsettled => r.entryBytes h
  | .inlineOnly _ => r.entryBytes h

/-- SUPPLY_BAD (R170). -/
def HeadSettlement.supplyBad : HeadSettlement → Bool
  | .inlineOnly bad => bad
  | .unsettled => false
  | .buffer _ _ _ => false

/-- BULK: the record carries a bulk reference (section 10.4). -/
def HeadSettlement.isBuffer : HeadSettlement → Bool
  | .buffer _ _ _ => true
  | .unsettled => false
  | .inlineOnly _ => false

/-- Type codes of a result (section 10.4). -/
def Result.typeCode : Result → Nat
  | .order _ => 1
  | .station _ => 2
  | .change _ => 3
  | .sweep _ => 4
  | .role _ => 5

/-- Byte 0: type, and the outcome of an ORDER result (section 10.4). -/
def Result.byte0 : Result → Nat
  | .order r => 1 + 16 * r.outcome.code
  | .station _ => 2
  | .change _ => 3
  | .sweep _ => 4
  | .role _ => 5

/-- The URGENT, REPEAT_IGNORED, LATE and ABANDONED flags of a result's own content. -/
def Result.ownFlags : Result → Bool × Bool × Bool × Bool
  | .order r => (r.urgent, r.repeatIgnored, false, false)
  | .station _ => (false, false, false, false)
  | .change _ => (false, false, false, false)
  | .sweep r => (false, false, r.late, r.abandoned)
  | .role _ => (false, false, false, false)

/-- Byte 1: the flags, bit 0 URGENT to bit 7 BULK (section 10.4). -/
def Result.flagsByte (r : Result) (h : HeadSettlement) : Nat :=
  let (urgent, repeatIgnored, late, abandoned) := r.ownFlags
  flagByte [urgent, r.reportNow, repeatIgnored, r.truncated h, h.supplyBad, late, abandoned, h.isBuffer]

/-- A byte field that may be absent: absent is written 0 (R190). -/
def optByte : Option Byte → Byte
  | some b => b
  | none => 0

/-- The bytes of a record from byte 2 on (section 10.4), unfilled. -/
def Result.fields (r : Result) (h : HeadSettlement) : List Byte :=
  match r with
  | .order o =>
    [o.kind, BitVec.ofNat 8 (r.carried h)] ++ leBytes o.orderId.toNat 2 ++
      [BitVec.ofNat 8 o.station, BitVec.ofNat 8 o.detail] ++ r.entryArea h
  | .station s =>
    [BitVec.ofNat 8 s.station, BitVec.ofNat 8 s.health.code, BitVec.ofNat 8 s.previous.code,
      BitVec.ofNat 8 (flagByte [s.verified, s.learned, s.condition.isSome, s.identity.isSome]),
      BitVec.ofNat 8 s.missCount, optByte s.condition, optByte (s.identity.map (·.1)),
      BitVec.ofNat 8 ((s.identity.map (·.2)).getD 0)]
  | .change c =>
    [BitVec.ofNat 8 c.station, BitVec.ofNat 8 (r.carried h), BitVec.ofNat 8 (flagByte [c.causeFlag, c.causeJump]),
      BitVec.ofNat 8 c.changedCount, BitVec.ofNat 8 c.firstChannel,
      BitVec.ofNat 8 (flagByte [c.learned, c.oldValue.isSome])] ++
      leBytes c.sweepCount.toNat 4 ++ leBytes (c.oldValue.getD 0).toNat 4 ++ r.entryArea h
  | .sweep w =>
    [0, 0] ++ leBytes w.number.toNat 4 ++ leBytes w.polls 4 ++ leBytes w.skipped 4 ++ leBytes w.misses 4
  | .role m =>
    [BitVec.ofNat 8 m.role.code, BitVec.ofNat 8 m.previous.code, BitVec.ofNat 8 m.reason.code,
      BitVec.ofNat 8 m.shift,
      BitVec.ofNat 8 ((m.foreignTag.map BitVec.toNat).getD 0 + (if m.foreignTag.isSome then 128 else 0)), 0] ++
      leBytes m.contestCount.toNat 4

/-- The 32 bytes of a result record (section 10.4, R190). -/
def Result.record (r : Result) (h : HeadSettlement) : List Byte :=
  zeroFilled 32 ([BitVec.ofNat 8 r.byte0, BitVec.ofNat 8 (r.flagsByte h)] ++ r.fields h)

/-- Byte 29 or 30 of the Report Block: bit 7 when DOWN, bits 3..0 consecutive_faults (section 10.2). -/
def LaneController.reportByte (l : LaneController) : Byte :=
  BitVec.ofNat 8 ((if l.up then 0 else 128) + l.faults)

end Sys2Proof.Machine
end

