-- ==== Sys2Proof/Machine/Flags.lean ====
section
/-! DEFINITION. The flags, events and levels that the device computes: the event summary and its hold timer
(R173, R176), Staging places (R103), INT_N (R177), the attention condition (R178), the bulk-wait timer (R168),
and `State.settle`, which brings the timers and marks that follow a level up to date after a step. -/

namespace Sys2Proof.Machine

/-- The settings in force; before the first START taken none is, and no rule reads one then. -/
def Directory.blank : Directory :=
  { orderRing := 0, resultRing := 0, supplyRing := 0, orderSize := 0, resultSize := 0, supplySize := 0
    lookInterval := 0, sweepPeriod := 0, replyWindow := 0, takeoverBase := 0, markInterval := 0
    attentionTime := 0, drainTime := 0, reportCount := 0, reportHold := 0, bulkWait := 0, refillThreshold := 0
    laneFaultLimit := 0, bitRate := .kbit125, laneMode := .mirror, masterTag := 0, startRole := .listen
    listenLearn := false, sweepResults := false }

/-- The device's Directory copy (R159). -/
def State.dir (s : State) : Directory := s.xpt.directory.getD Directory.blank

/-- The exchange state is RUNNING. -/
def State.running (s : State) : Bool := s.ctl.exchangeState = .running

/-- The exchange state is DRAINING. -/
def State.draining (s : State) : Bool := s.ctl.exchangeState = .draining

/-- The exchange state is RUNNING or DRAINING: the device accesses host memory and stages results (R162, R165). -/
def State.hosting (s : State) : Bool := s.running || s.draining

/-- "Free places are therefore six, less the results held, less the places reserved" (R103). -/
def State.freePlaces (s : State) : Nat := Config.stagingResults - (s.rpu.staging.length + s.bar.reserved)

/-- INT_N is asserted "exactly when the exchange state is FAULTED, or when the state is RUNNING or DRAINING and
the last written tag differs from the tag_seen last read" (R177). -/
def State.intN (s : State) : Bool :=
  s.ctl.exchangeState = .faulted || (s.hosting && s.rpu.lastTag ≠ s.xpt.hostBlock.tagSeen)

/-- The first condition of R169: the Result Ring has room. -/
def State.ringRoom (s : State) : Bool :=
  (s.rpu.resultsWritten - s.xpt.hostBlock.resultsReleased).toNat < s.dir.resultSize

/-- The attention condition (R178). -/
def State.attentionCondition (s : State) : Bool :=
  (s.running && s.intN) || (s.hosting && !s.rpu.staging.isEmpty && !s.ringRoom)

/-- The six events of the summary (R176). -/
inductive Event where
  | station
  | lane
  | role
  | truncate
  | overrun
  | orderErr
deriving DecidableEq, Repr

/-- Whether an event is set. -/
def EventSummary.has (e : EventSummary) : Event → Bool
  | .station => e.station
  | .lane => e.lane
  | .role => e.role
  | .truncate => e.truncate
  | .overrun => e.overrun
  | .orderErr => e.orderErr

/-- The summary with an event set. -/
def EventSummary.with (e : EventSummary) : Event → EventSummary
  | .station => { e with station := true }
  | .lane => { e with lane := true }
  | .role => { e with role := true }
  | .truncate => { e with truncate := true }
  | .overrun => { e with overrun := true }
  | .orderErr => { e with orderErr := true }

/-- A change worth reporting: the first since the last Report Block write began starts the hold timer, if
report_hold is 1..100 (R173). The hold timer does not run in HALTED or FAULTED. -/
def State.noteChange (s : State) : State :=
  if s.hosting && !s.rpu.changed then
    { s with rpu.changed := true, rpu.holdTimer := 0 < s.dir.reportHold }
  else s

/-- Set an event of the summary; "Setting an event that was clear is a change that starts the hold timer" (R176). -/
def State.setEvent (e : Event) (s : State) : State :=
  if s.rpu.events.has e then s else { s with rpu.events := s.rpu.events.with e }.noteChange

/-- The event that staging a result sets (R176). -/
def Result.event? : Result → Option Event
  | .order r => if r.outcome = .badOrder then some .orderErr else none
  | .station _ => some .station
  | .change _ => none
  | .sweep _ => none
  | .role _ => some .role

/-- Set an event if there is one. -/
def State.setEvent? (e : Option Event) (s : State) : State :=
  match e with
  | some e => s.setEvent e
  | none => s

/-- Stage a result: it joins at the tail of Result Staging and sets its event (R165, R176). -/
def State.stage (r : Result) (s : State) : State :=
  { s with rpu.staging := s.rpu.staging ++ [r] }.setEvent? r.event?

/-- The head of Staging needs a bulk buffer, holds none and has not been settled (R167, R168). -/
def State.headNeedsBuffer (s : State) : Bool :=
  match s.rpu.staging.head? with
  | some r => r.needsBuffer && s.rpu.head = .unsettled
  | none => false

/-- A supply ring exists and holds an entry not yet taken (R167). -/
def State.supplyAvailable (s : State) : Bool :=
  s.dir.supplySize ≠ 0 && s.xpt.bulkTaken ≠ s.xpt.hostBlock.bulkPosted

/-- The bulk-wait timer and the settlement at once of R168: a head that needs a buffer and finds no entry
available starts the timer, or, with bulk_wait 0 or no supply ring, is settled inline-only. -/
def State.settleHead (s : State) : State :=
  if s.headNeedsBuffer && !s.supplyAvailable then
    if s.dir.supplySize = 0 || s.dir.bulkWait = 0 then
      { s with rpu.head := .inlineOnly false, rpu.bulkWaitTimer := false }
    else { s with rpu.bulkWaitTimer := true }
  else { s with rpu.bulkWaitTimer := false }

/-- R174: with report_hold 0, a Report Block write falls due when there has been a change since the last
Report Block, Staging is empty, and no write of the Report Unit is in progress. -/
def State.settleReport (s : State) : State :=
  if s.hosting && s.dir.reportHold = 0 && s.rpu.changed && s.rpu.staging.isEmpty && s.rpu.writePath.isNone then
    { s with rpu.reportDue := true }
  else s

/-- R178: the attention timer starts when its condition begins, runs while it holds, and after an expiry does
not run again until the condition has ended. -/
def State.settleAttention (s : State) : State :=
  if s.attentionCondition && s.dir.attentionTime ≠ 0 then
    if s.rpu.attention = .stopped then { s with rpu.attention := .running } else s
  else { s with rpu.attention := .stopped }

/-- What follows at once from the levels that a step has changed: R168, R174 and R178. -/
def State.settle (s : State) : State := s.settleHead.settleReport.settleAttention

/-- REPEAT_IGNORED: a repeat of 1..15 on an order of a recognised kind that is not repeatable (R132). -/
def Order.repeatIgnored (o : Order) : Bool :=
  match o.kind? with
  | some k => !k.repeatable && o.repeats ≠ 0
  | none => false

/-- The station of an ORDER result: the order's, for a kind that uses it; 0 otherwise (R139). -/
def Order.resultStation (o : Order) : Nat :=
  match o.kind? with
  | some k => if k.usesStation then o.station else 0
  | none => 0

/-- The ORDER result of an order (R139). -/
def Order.result (o : Order) (outcome : OrderOutcome) (detail : Nat) (entries : Entries) : OrderResult :=
  { kind := o.kind, orderId := o.orderId, outcome := outcome, urgent := o.urgent, reportNow := o.reportNow
    repeatIgnored := o.repeatIgnored, station := o.resultStation, detail := detail, entries := entries }

/-- A step that came about: the next state, with the levels brought up to date. -/
def done (s : State) : Host.Outcome State Fault Refusal := .next s.settle

end Sys2Proof.Machine
end

