-- ==== Sys2Proof/Machine/Line.lean ====
section
/-! DEFINITION. The line: bi-phase cells (R68 to R70), the check (R71), telegram layouts (section 10.5) and
the tests of a received telegram (R74, R191). Durations are whole nanoseconds. -/

namespace Sys2Proof.Machine

/-- The bit-time in ns: 8, 4 or 2 µs (R68). -/
def BitRate.bitTime : BitRate → Nat
  | .kbit125 => 8000
  | .kbit250 => 4000
  | .kbit500 => 2000

/-- What an interval between two transitions is (R70): a half, a whole, a coding error, or, beyond 2.5
bit-times, quiet (R69). -/
inductive Interval where
  | half
  | whole
  | error
  | quiet
deriving DecidableEq, Repr

/-- The classification of R70 and R69, with the bit-time in ns. -/
def classify (bitTime ns : Nat) : Interval :=
  if 4 * ns < bitTime then .error
  else if 4 * ns < 3 * bitTime then .half
  else if 4 * ns ≤ 5 * bitTime then .whole
  else if 2 * ns ≤ 5 * bitTime then .error
  else .quiet

/-- Bits from classified intervals: one whole is a 1, two halves in succession a 0; anything else is a coding
error (R70). `pendingHalf`: the first half of a cell has been seen. Quiet ends the telegram. -/
def cellBits (bitTime : Nat) : Bool → List Nat → Option (List Bool)
  | pendingHalf, [] => if pendingHalf then none else some []
  | pendingHalf, ns :: rest =>
    match classify bitTime ns, pendingHalf with
    | .half, false => cellBits bitTime true rest
    | .half, true => (cellBits bitTime false rest).map (false :: ·)
    | .whole, false => (cellBits bitTime false rest).map (true :: ·)
    | .whole, true => none
    | .error, _ => none
    | .quiet, pending => if pending then none else some []

/-- A byte from its eight bits, most significant first (R68). -/
def byteOfBits (b7 b6 b5 b4 b3 b2 b1 b0 : Bool) : Byte :=
  BitVec.ofBool b7 ++ BitVec.ofBool b6 ++ BitVec.ofBool b5 ++ BitVec.ofBool b4 ++
    BitVec.ofBool b3 ++ BitVec.ofBool b2 ++ BitVec.ofBool b1 ++ BitVec.ofBool b0

/-- Bytes from bits; none if the number of bits is not a multiple of 8, a coding error (R70). -/
def bytesOfBits : List Bool → Option (List Byte)
  | [] => some []
  | b7 :: b6 :: b5 :: b4 :: b3 :: b2 :: b1 :: b0 :: rest =>
    (bytesOfBits rest).map (byteOfBits b7 b6 b5 b4 b3 b2 b1 b0 :: ·)
  | _ => none

/-- The eight bits of a byte, most significant first (R68). -/
def bitsOfByte (b : Byte) : List Bool :=
  [b.getLsbD 7, b.getLsbD 6, b.getLsbD 5, b.getLsbD 4, b.getLsbD 3, b.getLsbD 2, b.getLsbD 1, b.getLsbD 0]

/-- The bits of a run of bytes in the order sent. -/
def bitsOfBytes (bytes : List Byte) : List Bool := bytes.flatMap bitsOfByte

/-- The bytes of a received telegram, or none if it holds a coding error (R70). -/
def telegramBytes (bitTime : Nat) (intervals : List Nat) : Option (List Byte) :=
  (cellBits bitTime false intervals).bind bytesOfBits

/-- One bit cell as sent (R68): a 1 has no transition in its cell, a 0 has one at the middle. -/
def cellOfBit (bitTime : Nat) (b : Bool) : List Nat := if b then [bitTime] else [bitTime / 2, bitTime / 2]

/-- The intervals that the transmitter puts on a lane for a telegram, after the two bit-times of the start
delimiter (R68, R69). -/
def waveform (bitTime : Nat) (bytes : List Byte) : List Nat := (bitsOfBytes bytes).flatMap (cellOfBit bitTime)

/-- The hold of a start delimiter as sent: two bit-times (R69). -/
def delimiterHold (bitTime : Nat) : Nat := 2 * bitTime

/-- A hold of 1.5 to 2.5 bit-times is a start delimiter (R69). -/
def isDelimiter (bitTime holdNs : Nat) : Bool := 3 * bitTime ≤ 2 * holdNs && 2 * holdNs ≤ 5 * bitTime

/-- A hold of less than 1.5 bit-times is no delimiter (R69). -/
def isNoDelimiter (bitTime holdNs : Nat) : Bool := 2 * holdNs < 3 * bitTime

/-- One data bit of the check (R71): shift left, and combine with 8005h when the top bit differed from the
data bit. -/
def checkStep (register : Half) (bit : Bool) : Half :=
  if register.msb != bit then (register <<< 1) ^^^ 0x8005#16 else register <<< 1

/-- The check of R71: a register from FFFFh over every bit in the order sent. -/
def check (bytes : List Byte) : Half := (bitsOfBytes bytes).foldl checkStep 0xFFFF#16

/-- Field bytes followed by their check, high byte first (R71). -/
def withCheck (bytes : List Byte) : List Byte := bytes ++ beHalf (check bytes)

/-- Verb codes (section 10.5). -/
def Verb.code : Verb → Nat
  | .fetch => 1
  | .store => 2
  | .query => 3
  | .latch => 4
  | .mark => 5

/-- Verb of a code; 0, 6 and 7 are undefined (R191). -/
def verbOf (code : Nat) : Option Verb :=
  match code with
  | 1 => some .fetch
  | 2 => some .store
  | 3 => some .query
  | 4 => some .latch
  | 5 => some .mark
  | _ => none

/-- Class codes (section 10.5). -/
def ReplyClass.code : ReplyClass → Nat
  | .good => 1
  | .busy => 2
  | .refused => 3

/-- Class of a code; 0 is undefined (R191). -/
def classOf (code : Nat) : Option ReplyClass :=
  match code with
  | 1 => some .good
  | 2 => some .busy
  | 3 => some .refused
  | _ => none

/-- A request telegram, check included (section 10.5, R72). -/
def Request.telegram (q : Request) : List Byte :=
  withCheck
    ([0#1 ++ BitVec.ofNat 7 q.address, q.tag ++ BitVec.ofNat 3 q.verb.code ++ BitVec.ofNat 4 q.count,
      q.seq ++ BitVec.ofNat 5 q.first] ++ q.values.flatMap beWord)

/-- The body of a reply (R73): the values, or the kind code and channel count, or nothing. -/
def Reply.body (r : Reply) : List Byte :=
  r.values.flatMap beWord ++
    match r.identity with
    | some (kind, channels) => [kind, BitVec.ofNat 8 channels]
    | none => []

/-- A reply telegram, check included, as a station sends it (section 10.5, R73). -/
def Reply.telegram (r : Reply) : List Byte :=
  withCheck
    ([1#1 ++ BitVec.ofNat 7 r.address,
      BitVec.ofNat 3 r.verb.code ++ BitVec.ofNat 2 r.cls.code ++ r.seq, BitVec.ofNat 8 r.count, r.condition] ++
      r.body)

/-- An undamaged telegram. -/
inductive Telegram where
  | request (q : Request)
  | reply (r : Reply)
deriving DecidableEq, Repr

/-- Address and verb of a request go together (R74): 126 with LATCH alone, 127 with MARK alone, and MARK with
127 alone; 0 is outside the defined set. -/
def pairingOk (address : Nat) (verb : Verb) : Bool :=
  if address = 0 then false
  else if address = Config.allStations then verb = .latch
  else if address = Config.nobody then verb = .mark
  else verb ≠ .mark

/-- The count of a FETCH or STORE request lies in 1..8; other verbs' counts are not examined (R191). -/
def requestCountOk (verb : Verb) (count : Nat) : Bool :=
  if verb = .fetch ∨ verb = .store then 1 ≤ count && count ≤ 8 else true

/-- The values of a request: `count` of them in a STORE, none in any other (R72). -/
def valuesFit (verb : Verb) (count : Nat) (values : List Word) : Bool :=
  if verb = .store then values.length = count else values.isEmpty

/-- A request from its field bytes (section 10.5), with the tests of R74 and R191. -/
def parseRequest : List Byte → Option Request
  | b0 :: b1 :: b2 :: rest =>
    match verbOf (b1.extractLsb' 4 3).toNat, beWords rest with
    | some verb, some values =>
      let q : Request :=
        { address := (b0.extractLsb' 0 7).toNat, tag := b1.extractLsb' 7 1, verb := verb
          seq := b2.extractLsb' 5 3, first := (b2.extractLsb' 0 5).toNat
          count := (b1.extractLsb' 0 4).toNat, values := values }
      if pairingOk q.address verb && requestCountOk verb q.count && valuesFit verb q.count values then some q
      else none
    | _, _ => none
  | _ => none

/-- The body of a reply, fixed by its verb echo and class (R73): the values of a GOOD reply to FETCH, the
identity of a GOOD reply to QUERY with a channel count in 1..32, and nothing in any other. -/
def parseReplyBody (verb : Verb) (cls : ReplyClass) (count : Nat) (body : List Byte) :
    Option (List Word × Option (Byte × Nat)) :=
  if cls = .good ∧ verb = .fetch then
    match beWords body with
    | some values => if values.length = count then some (values, none) else none
    | none => none
  else if cls = .good ∧ verb = .query then
    match body with
    | [kind, channels] => if 1 ≤ channels.toNat ∧ channels.toNat ≤ 32 then some ([], some (kind, channels.toNat)) else none
    | _ => none
  else if body.isEmpty then some ([], none) else none

/-- A reply from its field bytes (section 10.5), with the tests of R74 and R191. -/
def parseReply : List Byte → Option Reply
  | b0 :: b1 :: b2 :: b3 :: body =>
    match verbOf (b1.extractLsb' 5 3).toNat, classOf (b1.extractLsb' 3 2).toNat with
    | some verb, some cls =>
      let address := (b0.extractLsb' 0 7).toNat
      let count := b2.toNat
      if 1 ≤ address && address ≤ Config.maxStationAddress && verb ≠ .latch && verb ≠ .mark && 1 ≤ count &&
          count ≤ 8 then
        (parseReplyBody verb cls count body).map fun (values, identity) =>
          { address := address, verb := verb, cls := cls, seq := b1.extractLsb' 0 3, count := count
            condition := b3, values := values, identity := identity }
      else none
    | _, _ => none
  | _ => none

/-- A telegram from its field bytes: bit 7 of the first is the direction (section 10.5). -/
def parseFields : List Byte → Option Telegram
  | b0 :: rest =>
    if b0.msb then (parseReply (b0 :: rest)).map .reply else (parseRequest (b0 :: rest)).map .request
  | [] => none

/-- A telegram from its bytes (R74): at most 38 of them, the check agreeing, and the fields sound. None is
damaged. -/
def parseTelegram (bytes : List Byte) : Option Telegram :=
  if bytes.length ≤ Config.maxTelegramBytes ∧ 2 ≤ bytes.length ∧
      bytes.drop (bytes.length - 2) = beHalf (check (bytes.take (bytes.length - 2))) then
    parseFields (bytes.take (bytes.length - 2))
  else none

/-- A received telegram as its Lane Controller hands it on (R74): none is damaged. -/
def receive (rate : BitRate) (intervals : List Nat) : Option Telegram :=
  (telegramBytes rate.bitTime intervals).bind parseTelegram

end Sys2Proof.Machine
end

