-- ==== Sys2Proof/Machine/Ops.lean ====
section
/-! DEFINITION. The named operations over the tables and registers that every block shares: the Station Table
(R1), the Point Table (R24), the lanes, the register window as read (R179, R180) and the Report Block (R172). -/

namespace Sys2Proof.Machine

/-! ### Station Table -/

/-- The record of a station (R1). -/
def State.station? (s : State) (address : Nat) : Option StationRecord :=
  s.stations.find? (fun r => r.address = address)

/-- A record put into the table, which stays in rising order of address. -/
def insertRecord (r : StationRecord) : List StationRecord → List StationRecord
  | [] => [r]
  | q :: rest => if r.address < q.address then r :: q :: rest else q :: insertRecord r rest

/-- Change the record of a station. -/
def State.updateStation (address : Nat) (f : StationRecord → StationRecord) (s : State) : State :=
  { s with stations := s.stations.map (fun r => if r.address = address then f r else r) }

/-- Clear a station's held mark (R8). -/
def State.clearHeld (address : Nat) (s : State) : State :=
  s.updateStation address (fun r => { r with held := false })

/-- Two windows share a slot (R1, R5). -/
def StationRecord.overlaps (r q : StationRecord) : Bool :=
  r.firstSlot < q.firstSlot + q.slotCount && q.firstSlot < r.firstSlot + r.slotCount

/-! ### Point Table -/

/-- The point of a slot; slots run 0..383 (R24). -/
def State.point (s : State) (slot : Nat) : Point := (s.points[slot]?).getD Point.default

/-- Change the point of one slot. -/
def updatePoint (f : Point → Point) (v : Vector Point Config.slotCount) (slot : Nat) :
    Vector Point Config.slotCount :=
  v.setIfInBounds slot (f ((v[slot]?).getD Point.default))

/-- Change the points of `count` slots from `first`, in one step (R29). -/
def updateWindow (f : Point → Point) (first count : Nat) (v : Vector Point Config.slotCount) :
    Vector Point Config.slotCount :=
  (List.range' first count).foldl (updatePoint f) v

/-- Change every point of a station's window. -/
def State.updateStationWindow (f : Point → Point) (r : StationRecord) (s : State) : State :=
  { s with points := updateWindow f r.firstSlot r.slotCount s.points }

/-- The window reset of ENROL and RETIRE (R6, R7, R25). -/
def State.resetWindow (r : StationRecord) (s : State) : State :=
  s.updateStationWindow (fun _ => Point.default) r

/-- FRESH becomes STALE; NEVER and BAD stay (R14). -/
def Point.markStale (p : Point) : Point :=
  if p.image.quality = .fresh then { p with image.quality := .stale } else p

/-- Quality becomes BAD; every other field stays (R10, R39). -/
def Point.markBad (p : Point) : Point := { p with image.quality := .bad }

/-! ### Lanes -/

/-- The other lane. -/
def otherLane : LaneId → LaneId
  | .a => .b
  | .b => .a

/-- A lane's controller. -/
def Lanes.get (l : Lanes) : LaneId → LaneController
  | .a => l.a
  | .b => l.b

/-- Change a lane's controller. -/
def State.updateLane (lane : LaneId) (f : LaneController → LaneController) (s : State) : State :=
  match lane with
  | .a => { s with lanes.a := f s.lanes.a }
  | .b => { s with lanes.b := f s.lanes.b }

/-- A lane's part in the attempt. -/
def Exchange.part (x : Exchange) : LaneId → LanePart
  | .a => x.partA
  | .b => x.partB

/-- Set a lane's part in the attempt. -/
def Exchange.setPart (x : Exchange) (lane : LaneId) (p : LanePart) : Exchange :=
  match lane with
  | .a => { x with partA := p }
  | .b => { x with partB := p }

/-- A lane's entry in the overheard exchange. -/
def Overheard.lane (o : Overheard) : LaneId → Option OverLane
  | .a => o.laneA
  | .b => o.laneB

/-- Set a lane's entry in the overheard exchange. -/
def Overheard.setLane (o : Overheard) (lane : LaneId) (l : OverLane) : Overheard :=
  match lane with
  | .a => { o with laneA := some l }
  | .b => { o with laneB := some l }

/-- Whether the telegram being received on a lane began after the first lane's window had expired. -/
def Overheard.late (o : Overheard) : LaneId → Bool
  | .a => o.lateA
  | .b => o.lateB

/-- Set a lane's late mark. -/
def Overheard.setLate (o : Overheard) (lane : LaneId) (late : Bool) : Overheard :=
  match lane with
  | .a => { o with lateA := late }
  | .b => { o with lateB := late }

/-- The bit-time in force, if any (R68). -/
def State.bitTime? (s : State) : Option Nat := s.xpt.directory.map (fun d => d.bitRate.bitTime)

/-- The transmitter stopped and, where it was sending, the lane taken as quiet (R69, R84). -/
def LaneController.cutOff (l : LaneController) : LaneController :=
  match l.tx with
  | .idle => l
  | .starting _ => { l with tx := .idle, rx := .quiet }
  | .sending _ => { l with tx := .idle, rx := .quiet }

/-! ### The exchange -/

/-- The Exchange Unit's states (R78). CLOSING lasts for no step: an exchange closes within the step that ends
its last attempt. -/
inductive ExchangeUnitState where
  | free
  | sending
  | waiting
deriving DecidableEq, Repr

/-- The Exchange Unit's state (R78). -/
def State.exchangeUnitState (s : State) : ExchangeUnitState :=
  match s.exu.exchange with
  | none => .free
  | some x => if x.partA = .sending ∨ x.partB = .sending then .sending else .waiting

/-- A poll of the sweep is open. -/
def State.sweepPollOpen (s : State) : Bool := s.exu.exchange.any (fun x => x.claimant = .sweep)

/-- The open exchange addresses a station. -/
def State.exchangeAddresses (s : State) (address : Nat) : Bool :=
  s.exu.exchange.any (fun x => x.address = address)

/-- Set the no-retry mark of the open exchange, if any (R84). -/
def State.forbidRetry (s : State) : State :=
  { s with exu.exchange := s.exu.exchange.map (fun x => { x with noRetry := true }) }

/-- The open exchange ended as RESET ends one: the transmitters stop and no outcome is delivered (R84, R185,
R187). The role becomes OFF and the overheard exchange is discarded (R123, R187). -/
def State.cutExchange (s : State) : State :=
  { s with
    exu.exchange := none, exu.overheard := none, bar.reserved := 0, msu.role := .off, msu.offAtClose := false
    lanes.a := s.lanes.a.cutOff, lanes.b := s.lanes.b.cutOff }

/-! ### Host memory -/

/-- The slot of a ring that belongs to a count (R158). -/
def slotAddress (ring : Quad) (size : Nat) (slotBytes : Nat) (count : Word) : Quad :=
  ring + BitVec.ofNat 64 (count.toNat % size * slotBytes)

/-- The device may begin a host memory access: RUNNING or DRAINING, and no drain has expired or ended (R162, R185).
Once a drain has ended no access but the final Report Block begins, a Host Block read included (log entry 34). -/
def State.mayAccess (s : State) : Bool := s.hosting && !s.ctl.drainExpired && !s.ctl.drainEnded

/-- No access is in progress on either path (R185). -/
def State.pathsFree (s : State) : Bool := s.xpt.readPath.isNone && s.rpu.writePath.isNone

/-- A supply entry read is wanted (R167). -/
def State.supplyWanted (s : State) : Bool := s.headNeedsBuffer && s.supplyAvailable

/-- The orders of the next fetch: the smallest of the free cache places, the orders that wait, and the slots to
the end of the ring (R164). -/
def State.fetchCount (s : State) : Nat :=
  min (Config.orderCacheOrders - s.oru.cache.length)
    (min (s.xpt.hostBlock.ordersPosted - s.xpt.ordersTaken).toNat
      (s.dir.orderSize - s.xpt.ordersTaken.toNat % s.dir.orderSize))

/-- An order fetch is wanted (R164). -/
def State.fetchWanted (s : State) : Bool :=
  s.running && s.oru.cache.length < s.dir.refillThreshold && s.xpt.ordersTaken ≠ s.xpt.hostBlock.ordersPosted

/-! ### The register window as read -/

/-- The six registers (R179). -/
inductive Register where
  | ident
  | areaLo
  | areaHi
  | run
  | nudge
  | state
deriving DecidableEq, Repr

/-- Byte offsets of the registers (section 10.1). -/
def Register.offset : Register → Nat
  | .ident => 0x00
  | .areaLo => 0x04
  | .areaHi => 0x08
  | .run => 0x0C
  | .nudge => 0x10
  | .state => 0x14

/-- STATE (R180, section 10.1). -/
def State.stateRegister (s : State) : Word :=
  BitVec.ofNat 32
    (s.ctl.exchangeState.code + 4 * s.msu.role.code + 16 * s.ctl.faultCause.code +
      (if s.intN then 256 else 0) + (if s.ctl.startRefused then 512 else 0))

/-- A read of a register: it changes nothing in the device (R179). -/
def State.readRegister (s : State) : Register → Word
  | .ident => BitVec.ofNat 32 (Config.familyCode * 256 + Config.revision)
  | .areaLo => s.ctl.areaLo
  | .areaHi => s.ctl.areaHi
  | .run => 0
  | .nudge => 0
  | .state => s.stateRegister

/-- The area base of AREA_HI and AREA_LO together (R158, R179). -/
def Control.areaRegisters (c : Control) : Quad := c.areaHi ++ c.areaLo

/-! ### The Report Block -/

/-- The online station count: records in ONLINE or SUSPECT (R20). -/
def State.onlineCount (s : State) : Nat :=
  (s.stations.filter (fun r => r.health = .online ∨ r.health = .suspect)).length

/-- The offline station count: records in OFFLINE (R20). -/
def State.offlineCount (s : State) : Nat := (s.stations.filter (fun r => r.health = .offline)).length

/-- The tag after the last written one: plus 1, except that 255 is followed by 1 (R175). -/
def nextTag (tag : Byte) : Byte := if tag = 255 then 1 else tag + 1

/-- The exchange state that a Report Block shows: HALTED in the final one of a drain (R172). -/
def State.reportedExchangeState (s : State) : ExchangeState :=
  if s.ctl.drainEnded then .halted else s.ctl.exchangeState

/-- The 32 bytes of a Report Block that begins now (R172, section 10.2). -/
def State.reportBlock (s : State) : List Byte :=
  leBytes s.xpt.ordersTaken.toNat 4 ++ leBytes s.rpu.resultsWritten.toNat 4 ++ leBytes s.xpt.bulkTaken.toNat 4 ++
    leBytes s.swe.sweepCount.toNat 4 ++ leBytes s.swe.overrunCount.toNat 4 ++ leBytes s.ctl.dropped.toNat 4 ++
    [nextTag s.rpu.lastTag,
      BitVec.ofNat 8 (s.msu.role.code + 4 * s.reportedExchangeState.code + 16 * s.msu.shift),
      BitVec.ofNat 8 s.rpu.events.byte, BitVec.ofNat 8 s.onlineCount, BitVec.ofNat 8 s.offlineCount,
      s.lanes.a.reportByte, s.lanes.b.reportByte, 0]

end Sys2Proof.Machine
end

