-- ==== Sys2Proof/Machine/Conditioning.lean ====
section
/-! DEFINITION. Conditioning (PCU): INSTANT, TOTAL and FLAG readings (R30 to R38), the readings and changes of one
reply (R28, R41 to R43), and SHAPE, SNAP and TAKE_TOTALS as they act on points (R44 to R49). -/

namespace Sys2Proof.Machine

/-- The exact shift of R31: a positive shift multiplies by 2^shift, a negative one divides by 2^(−shift) and
rounds toward minus infinity. -/
def shiftExact (x : Int) (shift : Int) : Int :=
  if 0 ≤ shift then x * (2 : Int) ^ shift.toNat else Int.fdiv x ((2 : Int) ^ (-shift).toNat)

/-- Saturation to the signed range of `w` bits: it stops at the largest or smallest value. -/
def saturate (w : Nat) (x : Int) : Int :=
  if x < -((2 : Int) ^ (w - 1)) then -((2 : Int) ^ (w - 1))
  else if (2 : Int) ^ (w - 1) - 1 < x then (2 : Int) ^ (w - 1) - 1 else x

/-- clip_count after one more clipped reading: "at 65535 the count stays at 65535" (R32). -/
def clipMore (n : Nat) : Nat := min 65535 (n + 1)

/-- rebase_count after one more jump: it stops at 255 (R34). -/
def rebaseMore (n : Nat) : Nat := min 255 (n + 1)

/-- The causes of a change (R41). -/
inductive ChangeCause where
  | flag
  | jump
deriving DecidableEq, Repr

/-- What one reading did to a point: the point after it, its reading flags (R30), and the change it is, if any,
with the old value (R41, R42). -/
structure Reading where
  point : Point
  clipped : Bool
  rebased : Bool
  change : Option (ChangeCause × Word)
deriving DecidableEq, Repr

/-- "Every accepted reading sets the point's quality to FRESH and its age to the sweep count" (R30). -/
def Image.accept (i : Image) (sweepCount : Word) : Image := { i with quality := .fresh, age := sweepCount }

/-- An INSTANT reading before quality and age: exact arithmetic, saturated at the end (R31, R32). -/
def conditionInstant (p : Point) (raw : Word) : Reading :=
  let sum := shiftExact (raw.toInt * p.conv.scale.toInt) p.conv.shift.toInt + p.conv.offset.toInt
  let clipped : Bool := saturate 32 sum ≠ sum
  { point :=
      { p with
        image.value := BitVec.ofInt 32 (saturate 32 sum)
        image.clipCount := if clipped then clipMore p.image.clipCount else p.image.clipCount }
    clipped := clipped, rebased := false, change := none }

/-- The delta of R34: the raw value minus last_raw, modulo 2^32. -/
def counterDelta (raw last : Word) : Word := raw - last

/-- A jump: jump_limit is not 0 and the delta is greater (R34). -/
def isJump (limit delta : Word) : Bool := limit ≠ 0 && limit.toNat < delta.toNat

/-- The scaled delta of R35. -/
def scaledDelta (c : Conversion) (delta : Word) : Int :=
  shiftExact ((delta.toNat : Int) * c.scale.toInt) c.shift.toInt

/-- A TOTAL reading before quality and age: a rebase without counting (R33), a jump (R34), or accumulated
(R35). -/
def conditionTotal (p : Point) (raw : Word) : Reading :=
  match p.image.lastRaw with
  | none => { point := { p with image.lastRaw := some raw }, clipped := false, rebased := false, change := none }
  | some last =>
    if isJump p.conv.jumpLimit (counterDelta raw last) then
      { point := { p with image.lastRaw := some raw, image.rebaseCount := rebaseMore p.image.rebaseCount }
        clipped := false, rebased := true
        change := if p.conv.notify then some (.jump, last) else none }
    else
      let sum := p.image.total.toInt + scaledDelta p.conv (counterDelta raw last)
      let clipped : Bool := saturate 64 sum ≠ sum
      let total := BitVec.ofInt 64 (saturate 64 sum)
      { point :=
          { p with
            image.total := total, image.value := total.setWidth 32, image.lastRaw := some raw
            image.clipCount := if clipped then clipMore p.image.clipCount else p.image.clipCount }
        clipped := clipped, rebased := false, change := none }

/-- A FLAG reading before quality and age: the raw value under the mask; a change if the quality was not NEVER
and the bits differ (R38), on a point whose notify is on (R41). -/
def conditionFlag (p : Point) (raw : Word) : Reading :=
  let value := raw &&& p.conv.offset
  { point := { p with image.value := value }
    clipped := false, rebased := false
    change :=
      if p.image.quality ≠ .never ∧ value ≠ p.image.value ∧ p.conv.notify then some (.flag, p.image.value)
      else none }

/-- One reading of a point (R30 to R38). -/
def conditionPoint (sweepCount : Word) (p : Point) (raw : Word) : Reading :=
  let r :=
    match p.conv.mode with
    | .instant => conditionInstant p raw
    | .total => conditionTotal p raw
    | .flag => conditionFlag p raw
  { r with point.image := r.point.image.accept sweepCount }

/-- One collected change, with the value entry it puts into the CHANGE result (R42). -/
structure Change where
  cause : ChangeCause
  old : Word
  entry : ValueEntry
deriving DecidableEq, Repr

/-- The conditioning of one reply in progress (R29): the points, the reading reports as value entries, and the
changes collected, each in ascending channel order. -/
structure Conditioned where
  points : Vector Point Config.slotCount
  reports : List ValueEntry
  changes : List Change

/-- The reading report of a reading as a value entry (R30, R147). -/
def Reading.report (r : Reading) (channel : Nat) : ValueEntry :=
  { value := r.point.image.value, channel := channel, quality := .fresh, clipped := r.clipped
    rebased := r.rebased, instanceNo := 0 }

/-- The collected change of a reading (R42): a FLAG entry holds the new masked bits, a JUMP entry the raw
reading and the flag REBASED. -/
def Reading.collected (r : Reading) (channel : Nat) (raw : Word) : List Change :=
  match r.change with
  | none => []
  | some (.flag, old) =>
    [{ cause := .flag, old := old
       entry := { value := r.point.image.value, channel := channel, quality := .fresh, clipped := false
                  rebased := false, instanceNo := 0 } }]
  | some (.jump, old) =>
    [{ cause := .jump, old := old
       entry := { value := raw, channel := channel, quality := .fresh, clipped := false, rebased := true
                  instanceNo := 0 } }]

/-- Condition one reading into the point of slot first_slot + channel; a channel at or above slot_count is not
mapped and gives no reading (R28). -/
def Conditioned.step (sweepCount : Word) (rec : StationRecord) (c : Conditioned) (reading : Nat × Word) :
    Conditioned :=
  if reading.1 < rec.slotCount then
    let slot := rec.firstSlot + reading.1
    let r := conditionPoint sweepCount ((c.points[slot]?).getD Point.default) reading.2
    { points := updatePoint (fun _ => r.point) c.points slot
      reports := c.reports ++ [r.report reading.1]
      changes := c.changes ++ r.collected reading.1 reading.2 }
  else c

/-- The readings of one reply: one for each channel named, first channel upward (R28). -/
def readingsOf (first : Nat) (values : List Word) : List (Nat × Word) :=
  (List.range' first values.length).zip values

/-- The CHANGE result of the changes collected in one reply (R42). -/
def changeResult (station : Nat) (learned : Bool) (sweepCount : Word) (changes : List Change) : ChangeResult :=
  { station := station
    causeFlag := changes.any (fun c => c.cause = .flag)
    causeJump := changes.any (fun c => c.cause = .jump)
    changedCount := changes.length
    firstChannel := (changes.head?.map (fun c => c.entry.channel)).getD 0
    learned := learned
    sweepCount := sweepCount
    oldValue := match changes with
      | [c] => some c.old
      | _ => none
    entries := changes.map (fun c => c.entry) }

/-- Stage a STATION or CHANGE result of the open exchange: it takes a reserved place (R103). -/
def State.stageReserved (r : Result) (s : State) : State :=
  { s.stage r with bar.reserved := s.bar.reserved - 1 }

/-- Stage the CHANGE result of a reply, if it collected changes and the exchange state is RUNNING or DRAINING
(R43). That of an own exchange takes a reserved place; that of a learned reply is staged if a place is free. -/
def State.stageChanges (station : Nat) (learned : Bool) (changes : List Change) (s : State) : State :=
  if changes.isEmpty || !s.hosting then s
  else
    let r := Result.change (changeResult station learned s.swe.sweepCount changes)
    if learned then (if 0 < s.freePlaces then s.stage r else s) else s.stageReserved r

/-- Condition the readings of one reply or learned reply as one step (R29), and stage its CHANGE result. The
value entries are the reading reports (R30). -/
def State.conditionReply (rec : StationRecord) (learned : Bool) (readings : List (Nat × Word)) (s : State) :
    State × List ValueEntry :=
  let c := readings.foldl (Conditioned.step s.swe.sweepCount rec) { points := s.points, reports := [], changes := [] }
  ({ s with points := c.points }.stageChanges rec.address learned c.changes, c.reports)

/-- A FETCH reply of class REFUSED marks every point the request named as BAD (R39). -/
def State.markRefused (rec : StationRecord) (first count : Nat) (s : State) : State :=
  { s with points := updateWindow Point.markBad (rec.firstSlot + first) (min count (rec.slotCount - first)) s.points }

/-! ### SHAPE, SNAP and TAKE_TOTALS -/

/-- A SHAPE on one point: the new conversion record; the image is reset if the mode changes and kept if not
(R45). -/
def Point.shape (c : Conversion) (p : Point) : Point :=
  { conv := c, image := if p.conv.mode = c.mode then p.image else Image.default }

/-- The standing value entry that SNAP returns (R47). -/
def Point.snapEntry (p : Point) (channel : Nat) : ValueEntry :=
  { value := p.image.value, channel := channel, quality := p.image.quality
    clipped := 0 < p.image.clipCount, rebased := 0 < p.image.rebaseCount, instanceNo := 0 }

/-- The total entry that TAKE_TOTALS forms (R48). -/
def Point.totalEntry (p : Point) (channel : Nat) : TotalEntry :=
  { total := p.image.total, age := p.image.age, clipCount := p.image.clipCount, channel := channel
    quality := p.image.quality, mode := p.conv.mode }

/-- The clearing of TAKE_TOTALS: total, value and clip_count of a TOTAL point become 0 (R48). -/
def Point.takeTotal (p : Point) : Point :=
  if p.conv.mode = .total then { p with image.total := 0, image.value := 0, image.clipCount := 0 } else p

end Sys2Proof.Machine
end

