-- ==== Sys2Proof/Machine/SweepEngine.lean ====
section
/-! DEFINITION. The shared operations of the Sweep Engine (SWE): the swap, the walk of the list, the end of a
sweep and its abandonment, and the removal of a retired station (R50 to R67). -/

namespace Sys2Proof.Machine

/-- The Sweep Engine is SWEEPING. -/
def State.sweeping (s : State) : Bool := s.swe.state = .sweeping

/-- The swap: the Active Scan List takes the content of the Pending Scan List, which empties; pending_ready
clears (R54). -/
def SweepEngine.swap (e : SweepEngine) : SweepEngine :=
  { e with active := e.pendingList, pendingList := [], pendingReady := false }

/-- The entry of a station is skipped (R58): MISMATCH, held, or OFFLINE and not due. An entry without a record,
which R50 rules out, has nothing to poll. -/
def State.skips (s : State) (address : Nat) : Bool :=
  match s.station? address with
  | none => true
  | some r =>
    r.health = .mismatch || r.held || (r.health = .offline && s.swe.sweepCount.toNat % r.revisitEvery ≠ 0)

/-- The SWEEP result of the sweep in progress (R62). -/
def SweepEngine.result (e : SweepEngine) (abandoned : Bool) : SweepResult :=
  { number := e.sweepNumber, polls := e.polls, skipped := e.skipped, misses := e.misses, late := e.late
    abandoned := abandoned }

/-- Enter IDLE at the end of a sweep, the cursor at the first entry; with sweep_period 0 a start is due (R56,
R61). -/
def State.finishSweep (s : State) : State :=
  { s with
    swe.state := .idle, swe.cursor := 0, swe.endWait := false
    swe.startDue := s.swe.startDue || s.dir.sweepPeriod = 0 }

/-- The end of a sweep: sweep_count goes up by 1, and the SWEEP result is staged or waits for a place (R61). -/
def State.endSweep (s : State) : State :=
  let s : State := { s with swe.sweepCount := s.swe.sweepCount + 1 }
  if s.dir.sweepResults then
    if 0 < s.freePlaces then (s.stage (.sweep (s.swe.result false))).finishSweep
    else { s with swe.endWait := true }
  else s.finishSweep

/-- The walk from the cursor: entries that are not due are skipped at once, and past the last entry the sweep
ends (R58, R61). At an entry to be polled the engine holds until it raises its claim (R59). -/
def State.walk (s : State) : State :=
  let skipped := ((s.swe.active.drop s.swe.cursor).takeWhile s.skips).length
  let s : State := { s with swe.cursor := s.swe.cursor + skipped, swe.skipped := s.swe.skipped + skipped }
  if s.swe.active.length ≤ s.swe.cursor then s.endSweep else s

/-- The raised claim ends without an exchange, its entry counts as skipped, and the walk goes on. The first-poll
mark stays with the sweep's next claim (R59). -/
def State.skipClaim (s : State) : State :=
  { s with swe.claim := none, swe.cursor := s.swe.cursor + 1, swe.skipped := s.swe.skipped + 1 }.walk

/-- Clear what an ended or abandoned sweep leaves: cursor at the start, marks clear, timer stopped (R64, R65). -/
def SweepEngine.rest (e : SweepEngine) : SweepEngine :=
  { e with
    state := .stopped, cursor := 0, periodTimer := false, startDue := false, late := false, claim := none
    firstPoll := false, endWait := false, abandoning := false }

/-- An abandoned sweep is finished once no poll of it is open: its SWEEP result is staged, or waits for a place,
and the marks are cleared (R64). -/
def State.finishAbandon (s : State) : State :=
  if s.swe.abandoning && !s.sweepPollOpen then
    if s.dir.sweepResults then
      if 0 < s.freePlaces then { s.stage (.sweep (s.swe.result true)) with swe := s.swe.rest } else s
    else { s with swe := s.swe.rest }
  else s

/-- Entry to STOPPED while RUNNING or DRAINING: a claim is withdrawn, the period timer stops, and a sweep in
progress is abandoned (R55, R64). -/
def State.stopSweep (s : State) : State :=
  match s.swe.state with
  | .stopped => s
  | .idle => { s with swe.state := .stopped, swe.periodTimer := false, swe.startDue := false }
  | .sweeping =>
    { s with
      swe.state := .stopped, swe.periodTimer := false, swe.claim := none, swe.endWait := false
      swe.abandoning := true }.finishAbandon

/-- Entry to IDLE from STOPPED, with a start due (R55). -/
def State.readySweep (s : State) : State := { s with swe.state := .idle, swe.startDue := true }

/-- A sweep poll is reported closed (R60): it is counted, and the walk or the abandonment goes on. A poll of a
sweep that a fault ended is not counted (R65). -/
def State.sweepPollClosed (miss : Bool) (s : State) : State :=
  let counted : State :=
    { s with
      swe.polls := s.swe.polls + 1, swe.misses := s.swe.misses + (if miss then 1 else 0)
      swe.cursor := s.swe.cursor + 1 }
  if s.sweeping then counted.walk
  else if s.swe.abandoning then counted.finishAbandon
  else s

/-- A station becomes held (R8): a sweep claim raised for it is withdrawn and its entry counts as skipped (R59). -/
def State.holdStation (address : Nat) (s : State) : State :=
  let s := s.updateStation address (fun r => { r with held := true })
  if s.swe.claim = some address then s.skipClaim else s

/-- The entry under the cursor of a sweep in progress names the station. -/
def State.cursorNames (s : State) (address : Nat) : Bool := s.swe.active[s.swe.cursor]? = some address

/-- RETIRE applied (R7, R63): the station's entries leave both lists, the cursor moves back by the entries
removed below it, the window is reset and the record is removed. If the entry under the cursor was one of them,
the walk decides the entry that follows. -/
def State.retireStation (address : Nat) (s : State) : State :=
  match s.station? address with
  | none => s
  | some r =>
    let below := ((s.swe.active.take s.swe.cursor).filter (fun a => a = address)).length
    let t : State :=
      { s.resetWindow r with
        stations := s.stations.filter (fun q => q.address ≠ address)
        swe.active := s.swe.active.filter (fun a => a ≠ address)
        swe.pendingList := s.swe.pendingList.filter (fun a => a ≠ address)
        swe.cursor := if s.sweeping then s.swe.cursor - below else s.swe.cursor }
    if s.sweeping && s.cursorNames address then t.walk else t

end Sys2Proof.Machine
end

