-- ==== Sys2Proof/Machine/OrderUnit.lean ====
section
/-! DEFINITION. The shared operations of the Order Unit (ORU): taking an order, completing it, the Bus Queue and
what an entry's leaving brings about, holds, and the ends of bus orders (R133 to R157). -/

namespace Sys2Proof.Machine

/-- The Order Unit may take an order: the hand is EMPTY and the completion list is empty (R133). -/
def State.handFree (s : State) : Bool := s.oru.hand = .empty && s.oru.completion.isEmpty

/-- The order that the Order Unit takes in hand in RUNNING, if the head of the cache is one of those asked for
(R133). -/
def State.taken? (p : Order → Bool) (s : State) : Option Order :=
  if s.running && s.handFree then s.oru.cache.head?.filter p else none

/-- The order of a kind that is taken in hand in RUNNING. -/
def State.takes (k : OrderKind) (s : State) : Option Order := s.taken? (fun o => o.kind? = some k)

/-- The head of the cache removed (R133). -/
def State.popOrder (s : State) : State := { s with oru.cache := s.oru.cache.tail }

/-- The order in hand completes: its result joins the tail of the completion list, and the hand is in STAGE_WAIT
until it is staged (R134, R135). -/
def State.completeHand (o : Order) (outcome : OrderOutcome) (detail : Nat) (entries : Entries) (s : State) :
    State :=
  { s with
    oru.completion := s.oru.completion ++ [{ fromHand := true, result := o.result outcome detail entries }]
    oru.hand := .stageWait o }

/-- The order in hand completes without entries. -/
def State.answer (o : Order) (outcome : OrderOutcome) (s : State) : State :=
  s.completeHand o outcome 0 (.values [])

/-- A new Bus Queue entry (R144). -/
def BusEntry.new (o : Order) : BusEntry :=
  { order := o, exchangeOpen := false, nextInstance := 0, gathered := [], good := 0, busy := 0, refused := 0
    miss := 0 }

/-- The result of an entry that ends (R139, R148, R149): a READ carries its gathered entries, and its detail is
the number of instances made. -/
def BusEntry.result (e : BusEntry) (outcome : OrderOutcome) : OrderResult :=
  match e.order.kind? with
  | some .read => e.order.result outcome e.nextInstance (.values e.gathered)
  | _ => e.order.result outcome 0 (.values [])

/-- The outcome of a MARKER that completes: ABANDONED in a drain, DONE otherwise (R153, R155). -/
def State.markerOutcome (s : State) : OrderOutcome := if s.draining then .abandoned else .done

/-- A MARKER in MARKER_WAIT completes in the step in which the Bus Queue becomes empty (R153). -/
def State.markerCheck (s : State) : State :=
  match s.oru.hand with
  | .markerWait o => if s.oru.busQueue.isEmpty then s.answer o s.markerOutcome else s
  | _ => s

/-- An entry has left the Bus Queue: an order in QUEUE_WAIT joins in the same step (R143), and a MARKER completes
if the queue is empty (R153). -/
def State.entryLeft (s : State) : State :=
  match s.oru.hand with
  | .queueWait o => { s with oru.busQueue := s.oru.busQueue ++ [BusEntry.new o], oru.hand := .empty }
  | _ => s.markerCheck

/-- The entry at a position ends: it leaves the queue and its result joins the completion list (R144). -/
def State.endEntry (i : Nat) (e : BusEntry) (outcome : OrderOutcome) (s : State) : State :=
  let t : State :=
    { s with
      oru.busQueue := s.oru.busQueue.eraseIdx i
      oru.completion := s.oru.completion ++ [{ fromHand := false, result := e.result outcome }] }
  t.entryLeft

/-- An entry that would go on: in a drain it ends ABANDONED, outside ACTIVE it ends NOT_ACTIVE, and otherwise it
claims again (R120, R145, R149, R155). That an entry whose exchange was open as the role left ACTIVE in RUNNING, and closes
only after a HALT, ends ABANDONED is the model's choice (log entry 37). -/
def State.continueEntry (i : Nat) (e : BusEntry) (s : State) : State :=
  if s.draining then s.endEntry i e .abandoned
  else if s.msu.role ≠ .active then s.endEntry i e .notActive
  else { s with oru.busQueue := s.oru.busQueue.set i { e with exchangeOpen := false } }

/-- The outcome of a READ whose instances have all been made (R148). -/
def BusEntry.readOutcome (e : BusEntry) : OrderOutcome :=
  if 0 < e.good then (if e.busy = 0 ∧ e.refused = 0 ∧ e.miss = 0 then .done else .partialReads)
  else if 0 < e.refused then .refused
  else if 0 < e.busy then .busy
  else .noReply

/-- Every entry with no open exchange ends with one outcome, in queue order (R120, R155). -/
def State.endClosedEntries (outcome : OrderOutcome) (s : State) : State :=
  { s with
    oru.busQueue := s.oru.busQueue.filter (fun e => e.exchangeOpen)
    oru.completion := s.oru.completion ++
      (s.oru.busQueue.filter (fun e => !e.exchangeOpen)).map
        (fun e => Completed.mk false (e.result outcome)) }

/-- The role has left ACTIVE in RUNNING (R120): the entries without an open exchange end NOT_ACTIVE, and so does
a bus order in QUEUE_WAIT; a MARKER completes if the queue is then empty. -/
def State.endNotActive (s : State) : State :=
  let s := s.endClosedEntries .notActive
  match s.oru.hand with
  | .queueWait o => s.answer o .notActive
  | _ => s.markerCheck

/-- A drain begins (R155): the entries without an open exchange end ABANDONED, then the order in hand if it is in
QUEUE_WAIT, HOLD_WAIT, or a CLAIM that waits for a wind-down; a MARKER ends once the queue is empty. -/
def State.abandonOrders (s : State) : State :=
  let s := s.endClosedEntries .abandoned
  match s.oru.hand with
  | .queueWait o => s.answer o .abandoned
  | .holdWait o => (s.clearHeld o.station).answer o .abandoned
  | .claimDeferred o => s.answer o .abandoned
  | _ => s.markerCheck

/-- The hold is satisfied: no Bus Queue entry names the station and no open exchange addresses it (R141). -/
def State.holdSatisfied (s : State) (address : Nat) : Bool :=
  s.oru.busQueue.all (fun e => e.order.station ≠ address) && !s.exchangeAddresses address

/-- The points that a SHAPE names: channels c to c + repeat of its station (R44). -/
def State.applyShape (o : Order) (c : Conversion) (s : State) : State :=
  match s.station? o.station with
  | none => s
  | some r =>
    { s with points := updateWindow (Point.shape c) (r.firstSlot + o.first) (o.repeats + 1) s.points }

/-- A RETIRE or SHAPE applied with its hold satisfied: the held mark clears, and the order completes DONE (R142). -/
def State.applyHeld (o : Order) (s : State) : State :=
  match o.kind? with
  | some .retire => (s.retireStation o.station).answer o .done
  | _ =>
    match o.conversion? with
    | some c => ((s.applyShape o c).clearHeld o.station).answer o .done
    | none => (s.clearHeld o.station).answer o .done

/-- A validated RETIRE or SHAPE: its station becomes held, and the order is applied at once or enters HOLD_WAIT
(R138, R141). -/
def State.holdOrApply (o : Order) (s : State) : State :=
  let s := s.holdStation o.station
  if s.holdSatisfied o.station then s.applyHeld o else { s with oru.hand := .holdWait o }

/-- A validated bus order joins the tail of the Bus Queue, or waits in QUEUE_WAIT (R143). -/
def State.joinQueue (o : Order) (s : State) : State :=
  if s.oru.busQueue.length < Config.busQueueEntries then
    { s with oru.busQueue := s.oru.busQueue ++ [BusEntry.new o] }
  else { s with oru.hand := .queueWait o }

/-- A station address in 1..125 (R137). -/
def Order.stationInRange (o : Order) : Bool := within 1 Config.maxStationAddress o.station

/-- A first channel in 0..31 (R137). -/
def Order.firstInRange (o : Order) : Bool := within 0 31 o.first

/-- The channels named lie within the window: first + count − 1 ≤ slot_count − 1 (R137). -/
def Order.fitsWindow (o : Order) (r : StationRecord) : Bool := o.first + o.count ≤ r.slotCount

/-- The points of the channels that an order names. -/
def State.namedPoints (o : Order) (r : StationRecord) (s : State) : List Point :=
  (List.range' (r.firstSlot + o.first) o.count).map s.point

/-- Validation of a READ (R136, R137): the outcome of the first step that fails, or none. -/
def State.refuseRead (o : Order) (s : State) : Option OrderOutcome :=
  if !(o.stationInRange && o.firstInRange && within 1 8 o.count) then some .badOrder
  else match s.station? o.station with
  | none => some .notFound
  | some r =>
    if r.health = .mismatch then some .mismatch
    else if !o.fitsWindow r then some .badOrder
    else if s.msu.role ≠ .active then some .notActive
    else none

/-- Validation of a WRITE (R136, R137): no named point has mode TOTAL. -/
def State.refuseWrite (o : Order) (s : State) : Option OrderOutcome :=
  if !(o.stationInRange && o.firstInRange && within 1 4 o.count) then some .badOrder
  else match s.station? o.station with
  | none => some .notFound
  | some r =>
    if r.health = .mismatch then some .mismatch
    else if !o.fitsWindow r || (s.namedPoints o r).any (fun p => p.conv.mode = .total) then some .badOrder
    else if s.msu.role ≠ .active then some .notActive
    else none

/-- Validation of a LATCH (R136, R137): 126 names no station and passes steps 2 and 3. -/
def State.refuseLatch (o : Order) (s : State) : Option OrderOutcome :=
  if !within 1 Config.allStations o.station then some .badOrder
  else if o.station = Config.allStations then (if s.msu.role ≠ .active then some .notActive else none)
  else match s.station? o.station with
  | none => some .notFound
  | some r =>
    if r.health = .mismatch then some .mismatch else if s.msu.role ≠ .active then some .notActive else none

/-- Validation of a SNAP or TAKE_TOTALS (R136, R137): the outcome of the first step that fails, or the station's
record. -/
def State.checkWindow (o : Order) (s : State) : Except OrderOutcome StationRecord :=
  if !(o.stationInRange && o.firstInRange && within 1 32 o.count) then .error .badOrder
  else match s.station? o.station with
  | none => .error .notFound
  | some r => if o.fitsWindow r then .ok r else .error .badOrder

/-- Validation of a RETIRE (R136, R137). -/
def State.refuseRetire (o : Order) (s : State) : Option OrderOutcome :=
  if !o.stationInRange then some .badOrder
  else if (s.station? o.station).isNone then some .notFound
  else none

/-- Validation of a SHAPE (R136, R137): c + repeat ≤ slot_count − 1. -/
def State.refuseShape (o : Order) (s : State) : Option OrderOutcome :=
  if !(o.stationInRange && o.firstInRange && o.conversion?.isSome) then some .badOrder
  else match s.station? o.station with
  | none => some .notFound
  | some r => if o.first + o.repeats < r.slotCount then none else some .badOrder

/-- The four steps of ENROL (R5): the outcome of the first that fails, or the record to insert. -/
def State.checkEnrol (o : Order) (s : State) : Except OrderOutcome StationRecord :=
  match o.enrolRecord? with
  | none => .error .badOrder
  | some r =>
    if (s.station? r.address).isSome then .error .alreadyExists
    else if s.stations.any r.overlaps then .error .overlap
    else if Config.maxStations ≤ s.stations.length then .error .tableFull
    else .ok r

/-- The steps of SCAN_ADD (R52): the outcome of the first that fails with its detail, or none. -/
def State.refuseScanAdd (o : Order) (s : State) : Option (OrderOutcome × Nat) :=
  if !(within 1 16 o.count && o.scanAddresses.all (within 1 Config.maxStationAddress)) then some (.badOrder, 0)
  else match o.scanAddresses.findIdx? (fun a => (s.station? a).isNone) with
  | some i => some (.notFound, i)
  | none =>
    if Config.scanListEntries < s.swe.pendingList.length + o.count then some (.listFull, 0) else none

end Sys2Proof.Machine
end

