-- ==== Sys2Proof/Machine/Mastership.lean ====
section
/-! DEFINITION. The shared operations of the Mastership Unit (MSU): entering and leaving ACTIVE, the wind-down,
contests, the host-attention signal and line activity (R109 to R126). -/

namespace Sys2Proof.Machine

/-- The takeover time in ms: takeover_base × 2^takeover_shift (R111). -/
def State.takeoverTime (s : State) : Nat := s.dir.takeoverBase * 2 ^ s.msu.shift

/-- takeover_shift goes up by 1, stopping at 3 (R115). -/
def shiftMore (shift : Nat) : Nat := min 3 (shift + 1)

/-- The ROLE result of a role change, with the contest count as it stands when it is staged (R125). -/
def RoleChange.result (d : RoleChange) (contestCount : Word) : RoleResult :=
  { role := d.role, previous := d.previous, reason := d.reason, shift := d.shift, contestCount := contestCount
    foreignTag := d.foreignTag }

/-- Stage the ROLE result of a role change (R125). -/
def State.stageRole (d : RoleChange) (s : State) : State := s.stage (.role (d.result s.msu.contestCount))

/-- Entry to ACTIVE from LISTEN (R112): the overheard exchange is discarded, the takeover timer stops, the mark
timer starts, the Sweep Engine becomes IDLE with a start due, and the ROLE result is staged, or is due if no
place is free. -/
def State.enterActive (reason : RoleReason) (s : State) : State :=
  let d : RoleChange :=
    { role := .active, previous := .listen, reason := reason, shift := s.msu.shift, foreignTag := none }
  let t : State :=
    { s.readySweep with
      msu.role := .active, msu.takeoverTimer := false, msu.markTimer := true, exu.overheard := none }
  if 0 < t.freePlaces ∧ t.msu.roleDue = [] then t.stageRole d
  else { t with msu.roleDue := t.msu.roleDue ++ [d] }

/-- The order in hand is one that a wind-down waits for: in QUEUE_WAIT or HOLD_WAIT (R121). -/
def Hand.windDownWaits : Hand → Bool
  | .queueWait _ => true
  | .holdWait _ => true
  | .empty => false
  | .markerWait _ => false
  | .claimDeferred _ => false
  | .claimStaging _ => false
  | .yieldStaging _ => false
  | .stageWait _ => false

/-- The role leaves ACTIVE for LISTEN (R120, R121): no attempt is retried, the mark timer stops and a mark claim
is withdrawn, the sweep stops, in RUNNING the bus orders end NOT_ACTIVE, and a wind-down begins at whose end the
ROLE result is staged. No ROLE result is due in FAULTED (R125). -/
def State.leaveActive (reason : RoleReason) (foreignTag : Option (BitVec 1)) (s : State) : State :=
  let d : RoleChange :=
    { role := .listen, previous := .active, reason := reason, shift := s.msu.shift, foreignTag := foreignTag }
  let t : State :=
    { s with
      msu.role := .listen, msu.markTimer := false, msu.markClaim := false
      msu.windDown := some { awaitHand := s.oru.hand.windDownWaits }
      msu.roleDue := if s.hosting then s.msu.roleDue ++ [d] else s.msu.roleDue }
  let t := t.forbidRetry.stopSweep
  if t.running then t.endNotActive else t

/-- The first four conditions of R121: no exchange is open; the Bus Queue is empty and each entry that left it has
staged its result; the order that was in hand has staged its result; and no SWEEP result waits. -/
def State.windDownReady (s : State) : Bool :=
  s.exu.exchange.isNone && s.oru.busQueue.isEmpty && s.oru.completion.all (fun c => c.fromHand) &&
    !(s.msu.windDown.any (fun w => w.awaitHand)) && !s.swe.abandoning

/-- A CLAIM carried out in LISTEN (R113): takeover_shift becomes 0, the role becomes ACTIVE, and the order
completes DONE behind its ROLE result. -/
def State.carryOutClaim (o : Order) (s : State) : State :=
  let t := { s with msu.shift := 0 }.enterActive .claimed
  if t.msu.roleDue = [] then t.answer o .done else { t with oru.hand := .claimStaging o }

/-- The wind-down ends (R121): in LISTEN and RUNNING the takeover timer starts, and a CLAIM that waited is carried
out. -/
def State.endWindDown (s : State) : State :=
  let t : State := { s with msu.windDown := none }
  if t.running && t.msu.role = .listen then
    let t : State := { t with msu.takeoverTimer := true }
    match t.oru.hand with
    | .claimDeferred o => t.carryOutClaim o
    | _ => t
  else t

/-- The order in hand that a ROLE result releases: a CLAIM at reason CLAIMED, a YIELD at reason YIELDED (R152). -/
def State.roleStaged (reason : RoleReason) (s : State) : State :=
  match s.oru.hand, reason with
  | .claimStaging o, .claimed => s.answer o .done
  | .yieldStaging o, .yielded => s.answer o .done
  | _, _ => s

/-- A ROLE result may be staged now: that of a change to LISTEN once the wind-down's other conditions hold (R125). -/
def State.roleStageable (d : RoleChange) (s : State) : Bool := d.role = .active || s.windDownReady

/-- The host-attention signal (R115). -/
def State.hostAttention (s : State) : State :=
  match s.msu.role with
  | .off => s
  | .listen => { s with msu.shift := shiftMore s.msu.shift }.setEvent .role
  | .active => ({ s with msu.shift := shiftMore s.msu.shift }.setEvent .role).leaveActive .hostSilent none

/-- A foreign request heard in ACTIVE (R117): it raises the contest count and sets the ROLE event (R176), and a device
with tag 1 yields to tag 0. Each lane's copy of a mirrored foreign request is a contest or tag clash of its own (log
entry 32). -/
def State.contest (foreignTag : BitVec 1) (s : State) : State :=
  let t : State := { s with msu.contestCount := s.msu.contestCount + 1 }.setEvent .role
  if s.dir.masterTag = 1#1 ∧ foreignTag = 0#1 then t.leaveActive .contest (some foreignTag) else t

/-- A start delimiter reported on either lane (R69): in ACTIVE and RUNNING the mark timer restarts and a waiting
mark claim is withdrawn (R119); in LISTEN and RUNNING with no wind-down the takeover timer restarts (R111). -/
def State.lineActivity (s : State) : State :=
  if s.running then
    match s.msu.role with
    | .active => { s with msu.markTimer := true, msu.markClaim := false }
    | .listen => { s with msu.takeoverTimer := s.msu.windDown.isNone }
    | .off => s
  else s

end Sys2Proof.Machine
end

