-- ==== Sys2Proof/Machine/Exchange.lean ====
section
/-! DEFINITION. The shared operations of an exchange: the lanes of an attempt (R88, R94 to R98), its verdict and
fault attribution (R90 to R93), the close and what it does to the station, the points and the claimant (R10 to R22,
R82 to R85, R145 to R151), and the arbiter's choice (R101 to R106). -/

namespace Sys2Proof.Machine

/-! ### Station records -/

/-- A miss (R13): miss_count goes up by 1, stopping at 15; at the limit the station becomes OFFLINE, and below it
an ONLINE station becomes SUSPECT. -/
def StationRecord.missed (r : StationRecord) : StationRecord :=
  let misses := min 15 (r.missCount + 1)
  let health :=
    match r.health with
    | .unknown => if r.missLimit ≤ misses then .offline else .unknown
    | .online => if r.missLimit ≤ misses then .offline else .suspect
    | .suspect => if r.missLimit ≤ misses then .offline else .suspect
    | .offline => .offline
    | .mismatch => .mismatch
  { r with missCount := misses, health := health }

/-- A reply of any class to a verified station (R15), and a learned reply (R16): miss_count 0, the condition byte
taken, and a SUSPECT or OFFLINE station ONLINE. -/
def StationRecord.answered (condition : Byte) (r : StationRecord) : StationRecord :=
  let health :=
    match r.health with
    | .suspect => .online
    | .offline => .online
    | .unknown => .unknown
    | .online => .online
    | .mismatch => .mismatch
  { r with missCount := 0, lastCondition := some condition, health := health }

/-- The identity of a GOOD QUERY reply matches the record (R10). -/
def StationRecord.identityMatches (r : StationRecord) (q : Reply) : Bool :=
  match q.identity with
  | some (kind, channels) => kind = r.kind && r.slotCount ≤ channels
  | none => false

/-- A QUERY reply (R10, R11): verified and ONLINE on a match, MISMATCH on a GOOD reply without one and on REFUSED,
unchanged health on BUSY. -/
def StationRecord.queried (q : Reply) (r : StationRecord) : StationRecord :=
  let t : StationRecord := { r with missCount := 0, lastCondition := some q.condition }
  match q.cls with
  | .good => if r.identityMatches q then { t with verified := true, health := .online } else { t with health := .mismatch }
  | .busy => t
  | .refused => { t with health := .mismatch }

/-- The read cursor after a reply to a sweep FETCH (R22): GOOD and REFUSED move it by the channels asked for, modulo
slot_count; BUSY leaves it, and so do replies to other claimants. -/
def StationRecord.advance (x : Exchange) (q : Reply) (r : StationRecord) : StationRecord :=
  if x.claimant = .sweep ∧ q.cls ≠ .busy then { r with readCursor := (r.readCursor + x.count) % r.slotCount } else r

/-- A change of health that produces a STATION result (R18). -/
def producesStationResult (old new : Health) : Bool :=
  match new with
  | .online => old = .unknown || old = .offline
  | .offline => old ≠ .offline
  | .mismatch => old ≠ .mismatch
  | .unknown => false
  | .suspect => false

/-- The STATION result of a change of health (R18). -/
def stationResult (old new : StationRecord) (identity : Option (Byte × Nat)) (learned : Bool) : StationResult :=
  { station := new.address, health := new.health, previous := old.health, verified := new.verified
    missCount := new.missCount, condition := new.lastCondition, identity := identity, learned := learned }

/-- The quality changes that a change of health orders: STALE on entry to OFFLINE (R14), BAD on entry to MISMATCH
(R10). -/
def State.markHealth (old new : StationRecord) (s : State) : State :=
  if producesStationResult old.health new.health then
    match new.health with
    | .offline => s.updateStationWindow Point.markStale new
    | .mismatch => s.updateStationWindow Point.markBad new
    | .unknown => s
    | .online => s
    | .suspect => s
  else s

/-- The Station Table applies an outcome: the record changes, the window's qualities follow, and a STATION result is
staged when the exchange state is RUNNING or DRAINING (R12, R19). That of an own exchange takes a reserved place. -/
def State.changeRecord (old new : StationRecord) (identity : Option (Byte × Nat)) (learned : Bool) (s : State) :
    State :=
  let s := (s.updateStation old.address (fun _ => new)).markHealth old new
  if producesStationResult old.health new.health && s.hosting then
    let r := Result.station (stationResult old new identity learned)
    if learned then s.stage r else s.stageReserved r
  else s

/-! ### Attempts -/

/-- The lane of the first attempt of an ALTERNATE exchange (R94, R96): a probe goes on the DOWN lane when exactly one
lane is DOWN; otherwise lane_pref's lane if it is UP, else the other. -/
def State.alternateLane (s : State) (pref : LaneId) (probe : Bool) : LaneId :=
  if probe && (s.lanes.a.up != s.lanes.b.up) then (if s.lanes.a.up then .b else .a)
  else if (s.lanes.get pref).up then pref else otherLane pref

/-- One lane as a choice of lanes. -/
def onLane : LaneId → Bool × Bool
  | .a => (true, false)
  | .b => (false, true)

/-- The lanes (A, B) of the first attempt (R88, R94, R96, R98). `probe`: the exchange is the sweep's first poll. -/
def State.firstLanes (s : State) (verb : Verb) (address : Nat) (pref : LaneId) (probe : Bool) : Bool × Bool :=
  if verb = .mark then (true, true)
  else
    match s.dir.laneMode with
    | .mirror => (true, true)
    | .singleA => (true, false)
    | .singleB => (false, true)
    | .alternate =>
      if address = Config.allStations then (true, true) else onLane (s.alternateLane pref probe)

/-- The lanes of a later attempt: in ALTERNATE the lane not used by the attempt before it (R95), otherwise the same
lanes again (R92, R98). -/
def State.retryLanes (s : State) (x : Exchange) : Bool × Bool :=
  if s.dir.laneMode = .alternate then (x.partA = .unused, x.partB = .unused)
  else (x.partA ≠ .unused, x.partB ≠ .unused)

/-- The request of every attempt of an exchange (R72, R79). -/
def State.request (s : State) (x : Exchange) : Request :=
  { address := x.address, tag := s.dir.masterTag, verb := x.verb, seq := x.seq, first := x.first, count := x.count
    values := x.values }

/-- A lane begins to send a telegram (R68, R79): while it transmits it does not receive. -/
def LaneController.send (telegram : List Byte) (l : LaneController) : LaneController :=
  { l with tx := .starting telegram, rx := .quiet }

/-- An attempt begins on its lanes, the copies together and identical (R79). -/
def State.beginAttempt (x : Exchange) (lanes : Bool × Bool) (s : State) : State :=
  let telegram := (s.request x).telegram
  { s with
    exu.exchange := some
      { x with
        partA := if lanes.1 then .sending else .unused
        partB := if lanes.2 then .sending else .unused }
    lanes.a := if lanes.1 then s.lanes.a.send telegram else s.lanes.a
    lanes.b := if lanes.2 then s.lanes.b.send telegram else s.lanes.b }

/-- A grant opens an exchange (R77, R78, R103): it takes the sequence counter's value, the counter goes up, two
Staging places are reserved, and the first attempt begins. -/
def State.openExchange (x : Exchange) (probe : Bool) (s : State) : State :=
  let x : Exchange := { x with seq := s.exu.seqCounter }
  let lanes := s.firstLanes x.verb x.address x.lanePref probe
  { s with exu.seqCounter := s.exu.seqCounter + 1, bar.reserved := Config.reservedPlaces }.beginAttempt x lanes

/-- A lane's part of the attempt has ended, or the lane was not used. -/
def LanePart.finished : LanePart → Bool
  | .unused => true
  | .ended _ => true
  | .closed => true
  | .sending => false
  | .waiting => false
  | .receiving => false

/-- The outcome with which a lane's part ended (R80). -/
def LanePart.outcome? : LanePart → Option LaneOutcome
  | .ended o => some o
  | .unused => none
  | .closed => none
  | .sending => none
  | .waiting => none
  | .receiving => none

/-- "The attempt ends when every lane it used has ended its part" (R80). -/
def Exchange.attemptOver (x : Exchange) : Bool := x.partA.finished && x.partB.finished

/-- An attempt's verdict (R80, R92). -/
inductive Verdict where
  | accepted (reply : Reply) (lane : LaneId)
  | failed (disagree : Bool)
deriving DecidableEq, Repr

/-- The verdict from the outcomes of Lane A and Lane B (R80, R92). -/
def verdict : Option LaneOutcome → Option LaneOutcome → Verdict
  | some (.goodReply r), some (.goodReply q) => if r = q then .accepted r .a else .failed true
  | some (.goodReply r), none => .accepted r .a
  | some (.goodReply r), some .silent => .accepted r .a
  | some (.goodReply r), some .damaged => .accepted r .a
  | none, some (.goodReply r) => .accepted r .b
  | some .silent, some (.goodReply r) => .accepted r .b
  | some .damaged, some (.goodReply r) => .accepted r .b
  | none, none => .failed false
  | none, some .silent => .failed false
  | none, some .damaged => .failed false
  | some .silent, none => .failed false
  | some .damaged, none => .failed false
  | some .silent, some .silent => .failed false
  | some .silent, some .damaged => .failed false
  | some .damaged, some .silent => .failed false
  | some .damaged, some .damaged => .failed false

/-- A fault attributed to a lane (R90): its count goes up by 1, stopping at 15; at lane_fault_limit an UP lane becomes
DOWN and sets the LANE event. -/
def State.blame (lane : LaneId) (s : State) : State :=
  let faults := min 15 ((s.lanes.get lane).faults + 1)
  if (s.lanes.get lane).up ∧ s.dir.laneFaultLimit ≤ faults then
    (s.updateLane lane (fun l => { l with faults := faults, up := false })).setEvent .lane
  else s.updateLane lane (fun l => { l with faults := faults })

/-- A GOOD-REPLY on a lane (R91): its count becomes 0, and a DOWN lane becomes UP and sets the LANE event. -/
def State.credit (lane : LaneId) (s : State) : State :=
  if (s.lanes.get lane).up then s.updateLane lane (fun l => { l with faults := 0 })
  else (s.updateLane lane (fun l => { l with faults := 0, up := true })).setEvent .lane

/-- A lane outcome handed to the lane logic at the end of the attempt (R85, R91, R100). -/
def State.laneOutcome (lane : LaneId) (o : Option LaneOutcome) (s : State) : State :=
  match o with
  | some .silent => { s with lanes.silentWindows := s.lanes.silentWindows + 1 }
  | some (.goodReply _) => s.credit lane
  | some .damaged => s
  | none => s

/-- An earlier attempt of the exchange failed on the lane. -/
def Exchange.failedOn (x : Exchange) : LaneId → Bool
  | .a => x.failedA
  | .b => x.failedB

/-- The outcome of a lane is SILENT or DAMAGED. -/
def failure : Option LaneOutcome → Bool
  | some .silent => true
  | some .damaged => true
  | some (.goodReply _) => false
  | none => false

/-- The faults of an attempt and the flip of lane_pref, by the lane mode in force (R92, R97, R98). -/
def State.attribute (x : Exchange) (v : Verdict) (s : State) : State :=
  match s.dir.laneMode with
  | .mirror =>
    match v with
    | .accepted _ lane => if failure (x.part (otherLane lane)).outcome? then s.blame (otherLane lane) else s
    | .failed disagree =>
      if disagree then { s with lanes.disagreements := s.lanes.disagreements + 1 } else s
  | .alternate =>
    match v with
    | .accepted _ lane =>
      if x.failedOn (otherLane lane) then
        let s := s.blame (otherLane lane)
        if x.lanePref = otherLane lane then s.updateStation x.address (fun r => { r with lanePref := lane }) else s
      else s
    | .failed _ => s
  | .singleA => if x.partA.outcome? = some .damaged then s.blame .a else s
  | .singleB => if x.partB.outcome? = some .damaged then s.blame .b else s

/-! ### The close -/

/-- How an exchange closes (R82, R83). -/
inductive ExchangeOutcome where
  | reply (q : Reply)
  | miss
  | quiet
  | complete
deriving DecidableEq, Repr

/-- The outcome handed to the Station Table and then to the Point Table (R12, R85); the reading reports go to the
claimant (R30). -/
def State.deliver (x : Exchange) (o : ExchangeOutcome) (s : State) : State × List ValueEntry :=
  match s.station? x.address, o with
  | none, _ => (s, [])
  | some _, .quiet => (s, [])
  | some _, .complete => (s, [])
  | some r, .miss => (s.changeRecord r r.missed none false, [])
  | some r, .reply q =>
    match x.verb with
    | .query => (s.changeRecord r (r.queried q) (if q.cls = .good then q.identity else none) false, [])
    | .fetch =>
      let t := s.changeRecord r ((r.answered q.condition).advance x q) none false
      match q.cls with
      | .good => t.conditionReply r false (readingsOf x.first q.values)
      | .refused => (t.markRefused r x.first x.count, [])
      | .busy => (t, [])
    | .store =>
      let t := s.changeRecord r (r.answered q.condition) none false
      match q.cls with
      | .good => t.conditionReply r false (readingsOf x.first x.values)
      | .refused => (t, [])
      | .busy => (t, [])
    | .latch => (s, [])
    | .mark => (s, [])

/-- A READ instance closes: its tally goes up, its entries are gathered if it was GOOD, and next instance advances
(R147). -/
def BusEntry.tally (o : ExchangeOutcome) (reports : List ValueEntry) (e : BusEntry) : BusEntry :=
  let t : BusEntry := { e with nextInstance := e.nextInstance + 1 }
  match o with
  | .reply q =>
    match q.cls with
    | .good =>
      { t with
        good := e.good + 1
        gathered := e.gathered ++ reports.map (fun v => { v with instanceNo := e.nextInstance }) }
    | .busy => { t with busy := e.busy + 1 }
    | .refused => { t with refused := e.refused + 1 }
  | .miss => { t with miss := e.miss + 1 }
  | .quiet => t
  | .complete => t

/-- The outcome of a WRITE from its STORE exchange (R150), and of a reply's class in general. -/
def ExchangeOutcome.storeOutcome : ExchangeOutcome → OrderOutcome
  | .reply q =>
    match q.cls with
    | .good => .done
    | .busy => .busy
    | .refused => .refused
  | .miss => .noReply
  | .quiet => .done
  | .complete => .done

/-- The verification exchange of an entry closes (R145): it goes on if the station is now verified, and ends MISMATCH,
BUSY or NO_REPLY otherwise. -/
def State.settleQuery (i : Nat) (e : BusEntry) (address : Nat) (o : ExchangeOutcome) (s : State) : State :=
  match o with
  | .reply q =>
    match q.cls with
    | .good =>
      if (s.station? address).any (fun r => r.verified) then s.continueEntry i e else s.endEntry i e .mismatch
    | .busy => s.endEntry i e .busy
    | .refused => s.endEntry i e .mismatch
  | .miss => s.endEntry i e .noReply
  | .quiet => s.endEntry i e .noReply
  | .complete => s.endEntry i e .noReply

/-- The Order Unit settles the entry whose exchange has closed (R144 to R151). After a fault the entry no longer
exists and nothing is handed on (R156). -/
def State.settleEntry (x : Exchange) (o : ExchangeOutcome) (reports : List ValueEntry) (s : State) : State :=
  match s.oru.busQueue.findIdx? (fun e => e.exchangeOpen) with
  | none => s
  | some i =>
    match s.oru.busQueue[i]? with
    | none => s
    | some e =>
      match x.verb with
      | .query => s.settleQuery i e x.address o
      | .fetch =>
        let t := e.tally o reports
        if t.order.repeats < t.nextInstance then s.endEntry i t t.readOutcome else s.continueEntry i t
      | .store => s.endEntry i e o.storeOutcome
      | .latch => s.endEntry i e .done
      | .mark => s

/-- The outcome is MISS. -/
def ExchangeOutcome.isMiss : ExchangeOutcome → Bool
  | .miss => true
  | .reply _ => false
  | .quiet => false
  | .complete => false

/-- What the close of the exchange ends: a role that waited for it becomes OFF (R123), and in FAULTED a wind-down is
over (R121). -/
def State.afterClose (s : State) : State :=
  let s : State :=
    if s.msu.offAtClose then { s with msu.role := .off, msu.offAtClose := false, exu.overheard := none } else s
  if s.ctl.exchangeState = .faulted then { s with msu.windDown := none } else s

/-- An exchange closes (R12, R85): the outcome goes to the Station Table, the Point Table and the claimant, the
reservation is released as the claimant is told (R103), and the Exchange Unit is FREE. -/
def State.closeExchange (x : Exchange) (o : ExchangeOutcome) (s : State) : State :=
  let (t, reports) := s.deliver x o
  let t : State := { t with exu.exchange := none, bar.reserved := 0 }
  let t :=
    match x.claimant with
    | .busEntry => t.settleEntry x o reports
    | .sweep => t.sweepPollClosed o.isMiss
    | .mark => t
  t.afterClose

/-- A further attempt may begin: the role is ACTIVE, the no-retry mark is clear, and attempts remain (R79). -/
def State.mayRetry (x : Exchange) (s : State) : Bool :=
  s.msu.role = .active && !x.noRetry && x.attempt < x.attempts

/-- The next attempt of an exchange begins (R79). -/
def State.retry (x : Exchange) (s : State) : State :=
  let lanes := s.retryLanes x
  s.beginAttempt
    { x with
      attempt := x.attempt + 1
      failedA := x.failedA || x.partA ≠ .unused
      failedB := x.failedB || x.partB ≠ .unused } lanes

/-- An attempt of a FETCH, STORE or QUERY is weighed (R80, R82, R85, R92): the lane outcomes go to the lane logic, and
an accepted attempt closes the exchange REPLY; a failed one is retried or closes MISS. -/
def State.weighAttempt (x : Exchange) (s : State) : State :=
  let v := verdict x.partA.outcome? x.partB.outcome?
  let t := ((s.laneOutcome .a x.partA.outcome?).laneOutcome .b x.partB.outcome?).attribute x v
  match v with
  | .accepted q _ => t.closeExchange x (.reply q)
  | .failed _ => if t.mayRetry x then t.retry x else t.closeExchange x .miss

/-- An attempt has ended on every lane it used (R80, R82, R83, R92): LATCH closes QUIET and MARK complete, and any other
attempt is weighed. -/
def State.attemptEnd (x : Exchange) (s : State) : State :=
  match x.verb with
  | .latch => s.closeExchange x .quiet
  | .mark => s.closeExchange x .complete
  | .fetch => s.weighAttempt x
  | .store => s.weighAttempt x
  | .query => s.weighAttempt x

/-- Set a lane's part of the open exchange. -/
def State.setPart (lane : LaneId) (p : LanePart) (s : State) : State :=
  { s with exu.exchange := s.exu.exchange.map (fun x => x.setPart lane p) }

/-- The attempt in progress ends if every lane it used has ended its part (R80). -/
def State.checkAttempt (s : State) : State :=
  match s.exu.exchange with
  | none => s
  | some x => if x.attemptOver then s.attemptEnd x else s

/-! ### The arbiter -/

/-- A chosen claim: a Bus Queue entry by position, the sweep's poll of a station, or a mark (R101). -/
inductive Grant where
  | entry (i : Nat)
  | sweep (address : Nat)
  | mark
deriving DecidableEq, Repr

/-- The conditions of R102 other than a claim being raised. While a ROLE result waits to be staged the arbiter grants
nothing, so that the result of an entry to ACTIVE precedes, in Staging, those of every exchange of the new mastership
(R112; log entry 30). -/
def State.grantOpen (s : State) : Bool :=
  s.msu.role = .active && s.running && s.exu.exchange.isNone && Config.grantPlaces ≤ s.freePlaces &&
    s.msu.roleDue.isEmpty

/-- The arbiter's choice among the raised claims (R104): the oldest URGENT entry; else, of the oldest normal entry and
the sweep's poll, the one the turn token names if both claim; else a mark. -/
def State.chooseClaim (s : State) : Option Grant :=
  match s.oru.busQueue.findIdx? (fun e => e.order.urgent && !e.exchangeOpen) with
  | some i => some (.entry i)
  | none =>
    match s.oru.busQueue.findIdx? (fun e => !e.exchangeOpen), s.swe.claim with
    | some i, some a => if s.bar.token = .sweepEngine then some (.sweep a) else some (.entry i)
    | some i, none => some (.entry i)
    | none, some a => some (.sweep a)
    | none, none => if s.msu.markClaim then some .mark else none

/-- A new exchange record; the sequence and the lanes' parts are set as it opens. -/
def Exchange.new (claimant : Claimant) (address : Nat) (verb : Verb) (first count : Nat) (values : List Word)
    (attempts : Nat) (lanePref : LaneId) : Exchange :=
  { claimant := claimant, address := address, verb := verb, first := first, count := count, values := values
    seq := 0, attempts := attempts, attempt := 1, noRetry := false, lanePref := lanePref, partA := .unused
    partB := .unused, failedA := false, failedB := false }

/-- The QUERY exchange of an unverified station (R9, R72, R78). -/
def queryExchange (claimant : Claimant) (r : StationRecord) : Exchange :=
  Exchange.new claimant r.address .query 0 1 [] (1 + r.retryLimit) r.lanePref

/-- The exchange of a sweep poll (R9, R21): a QUERY if the station is unverified, otherwise a FETCH of the smaller of
read_chunk and slot_count − read_cursor channels from read_cursor. -/
def sweepExchange (r : StationRecord) : Exchange :=
  if r.verified then
    Exchange.new .sweep r.address .fetch r.readCursor (min r.readChunk (r.slotCount - r.readCursor)) []
      (1 + r.retryLimit) r.lanePref
  else queryExchange .sweep r

/-- The claimant's own exchange of a Bus Queue entry to a verified station (R9, R147, R150, R151). -/
def entryExchange (o : Order) (r : StationRecord) : Exchange :=
  match o.kind? with
  | some .write =>
    Exchange.new .busEntry r.address .store o.first o.count o.writeValues (1 + r.retryLimit) r.lanePref
  | some .latch => Exchange.new .busEntry r.address .latch 0 1 [] 1 r.lanePref
  | _ => Exchange.new .busEntry r.address .fetch o.first o.count [] (1 + r.retryLimit) r.lanePref

/-- The LATCH exchange addressed to 126, always sent as LATCH (R9). -/
def latchAllExchange : Exchange := Exchange.new .busEntry Config.allStations .latch 0 1 [] 1 .a

/-- The MARK exchange (R78, R119). -/
def markExchange : Exchange := Exchange.new .mark Config.nobody .mark 0 1 [] 1 .a

/-- An exchange opens for a Bus Queue entry; the turn token then names the Sweep Engine (R105). -/
def State.openEntry (i : Nat) (e : BusEntry) (x : Exchange) (s : State) : State :=
  { s with
    oru.busQueue := s.oru.busQueue.set i { e with exchangeOpen := true }
    bar.token := .sweepEngine }.openExchange x false

/-- A Bus Queue entry's claim is granted (R9, R146): MISMATCH ends the entry, an unverified station receives a QUERY,
and otherwise the entry's own exchange opens. -/
def State.grantEntry (i : Nat) (s : State) : State :=
  match s.oru.busQueue[i]? with
  | none => s
  | some e =>
    if e.order.station = Config.allStations then s.openEntry i e latchAllExchange
    else
      match s.station? e.order.station with
      | none => s
      | some r =>
        if r.health = .mismatch then s.endEntry i e .mismatch
        else if r.verified then s.openEntry i e (entryExchange e.order r)
        else s.openEntry i e (queryExchange .busEntry r)

/-- The sweep's claim is granted (R9, R59, R96, R105): MISMATCH skips the entry; otherwise the poll opens, as the
sweep's first poll if it carries that mark, and the turn token names the Bus Queue. -/
def State.grantSweep (address : Nat) (s : State) : State :=
  match s.station? address with
  | none => s.skipClaim
  | some r =>
    if r.health = .mismatch then s.skipClaim
    else
      { s with swe.claim := none, swe.firstPoll := false, bar.token := .busQueue }.openExchange (sweepExchange r)
        s.swe.firstPoll

/-- A mark is granted: the token stays as it was (R105, R119). -/
def State.grantMark (s : State) : State := { s with msu.markClaim := false }.openExchange markExchange false

/-- The chosen claim is granted (R104). -/
def State.grant (g : Grant) (s : State) : State :=
  match g with
  | .entry i => s.grantEntry i
  | .sweep a => s.grantSweep a
  | .mark => s.grantMark

end Sys2Proof.Machine
end

