-- ==== Sys2Proof/Machine/Overhear.lean ====
section
/-! DEFINITION. Overhearing and learning while the role is LISTEN (R86, R87, R127, R128), and what a received
telegram is to the open exchange (R80). -/

namespace Sys2Proof.Machine

/-- An undamaged reply matches a request: address, sequence echo, verb echo and count are equal (R80, R86). -/
def replyMatches (address : Nat) (seq : BitVec 3) (verb : Verb) (count : Nat) (q : Reply) : Bool :=
  q.address = address && q.seq = seq && q.verb = verb && q.count = count

/-- The outcome of a lane whose first telegram of the window has ended (R80): GOOD-REPLY for a matching undamaged
reply, DAMAGED for anything else, a request included (R74). -/
def Exchange.judge (x : Exchange) : Option Telegram → LaneOutcome
  | some (.reply q) => if replyMatches x.address x.seq x.verb x.count q then .goodReply q else .damaged
  | some (.request _) => .damaged
  | none => .damaged

/-- The learning gate of R127: listen_learn, a FETCH with a GOOD reply, an enrolled and verified station not in
MISMATCH, and room in Staging while the exchange state is RUNNING or DRAINING. -/
def State.learns (s : State) (q : Request) (r : Reply) (rec : StationRecord) : Bool :=
  s.dir.listenLearn && q.verb = .fetch && r.cls = .good && rec.verified && rec.health ≠ .mismatch &&
    (!s.hosting || 0 < s.freePlaces)

/-- An overheard pair handed to the Mastership Unit (R87, R127): a learned reply is applied to the Station Table as a
GOOD reply (R16) and its readings are conditioned as one step (R28); any other pair is discarded. -/
def State.overheardPair (q : Request) (r : Reply) (s : State) : State :=
  match s.station? q.address with
  | none => s
  | some rec =>
    if s.learns q r rec then
      ((s.changeRecord rec (rec.answered r.condition) none true).conditionReply rec true
        (readingsOf q.first r.values)).1
    else s

/-- The reply recorded on a lane of the overheard exchange. -/
def OverLane.recorded? (l : OverLane) : Option Reply :=
  match l.result with
  | .recorded r => some r
  | .waiting => none
  | .silent => none
  | .spoiled => none

/-- The one pair that a closing overheard exchange hands on (R87): one reply, or two with identical content. -/
def Overheard.pair? (o : Overheard) : Option Reply :=
  match o.laneA.bind OverLane.recorded?, o.laneB.bind OverLane.recorded? with
  | some r, some q => if r = q then some r else none
  | some r, none => some r
  | none, some r => some r
  | none, none => none

/-- The overheard exchange closes (R87). -/
def State.closeOverheard (o : Overheard) (s : State) : State :=
  let t : State := { s with exu.overheard := none }
  match o.pair? with
  | some r => t.overheardPair o.request r
  | none => t

/-- A lane joins the overheard exchange, its window running (R86). -/
def OverLane.fresh : OverLane := { result := .waiting, receiving := false, windowExpired := false }

/-- A request opens an overheard exchange if its address lies in 1..125 (R86). -/
def State.openOverheard (lane : LaneId) (q : Request) (s : State) : State :=
  if within 1 Config.maxStationAddress q.address then
    let o : Overheard :=
      { request := q, firstLane := lane, laneA := none, laneB := none, lateA := false, lateB := false }
    { s with exu.overheard := some (o.setLane lane OverLane.fresh) }
  else s

/-- The request is the mirrored copy of the open one (R86): heard on a lane not yet in it, with equal content, its
delimiter before the first lane's window had expired. -/
def Overheard.isCopy (o : Overheard) (lane : LaneId) (q : Request) : Bool :=
  (o.lane lane).isNone && q = o.request && !o.late lane

/-- A request heard in LISTEN (R86): the mirrored copy joins; any other closes the open overheard exchange as it
stands and may open a new one. -/
def State.overhearRequest (lane : LaneId) (q : Request) (s : State) : State :=
  match s.exu.overheard with
  | none => s.openOverheard lane q
  | some o =>
    if o.isCopy lane q then { s with exu.overheard := some (o.setLane lane OverLane.fresh) }
    else (s.closeOverheard o).openOverheard lane q

/-- A lane of the overheard exchange still waits for a result. -/
def OverLane.isWaiting (l : OverLane) : Bool := l.result = .waiting

/-- Every lane in the overheard exchange has a result other than WAITING (R87). -/
def Overheard.settled (o : Overheard) : Bool :=
  !(o.laneA.any OverLane.isWaiting) && !(o.laneB.any OverLane.isWaiting)

/-- A lane of the overheard exchange takes a result, and the exchange closes if it was the last (R87). -/
def State.setOverResult (o : Overheard) (lane : LaneId) (l : OverLane) (s : State) : State :=
  let o := o.setLane lane l
  if o.settled then s.closeOverheard o else { s with exu.overheard := some o }

/-- A reply or damaged telegram heard in LISTEN: as the first in a lane's window it decides the lane's result (R86). -/
def State.overhearReply (lane : LaneId) (t : Option Reply) (s : State) : State :=
  match s.exu.overheard with
  | none => s
  | some o =>
    match o.lane lane with
    | none => s
    | some l =>
      if l.receiving && l.isWaiting then
        let q := o.request
        let result : OverResult :=
          match t with
          | some r => if replyMatches q.address q.seq q.verb q.count r then .recorded r else .spoiled
          | none => .spoiled
        s.setOverResult o lane { l with result := result, receiving := false }
      else s

/-- A telegram heard in LISTEN (R86). -/
def State.overhear (lane : LaneId) (t : Option Telegram) (s : State) : State :=
  match t with
  | some (.request q) => s.overhearRequest lane q
  | some (.reply r) => s.overhearReply lane (some r)
  | none => s.overhearReply lane none

/-- A delimiter heard on a lane bears on the overheard exchange (R86): within the lane's window it is that of the
lane's first telegram; on a lane not yet in it, it is late once the first lane's window has expired. -/
def Overheard.delimiter (o : Overheard) (lane : LaneId) : Overheard :=
  match o.lane lane with
  | some l => if l.isWaiting && !l.windowExpired then o.setLane lane { l with receiving := true } else o
  | none => o.setLate lane ((o.lane o.firstLane).any (fun l => l.windowExpired))

/-- A delimiter heard within a lane's reply window begins the lane's first telegram (R80); what arrives in a LATCH's
window is outside the attempt (R83). -/
def Exchange.delimiter (x : Exchange) (lane : LaneId) : Exchange :=
  if x.verb ≠ .latch ∧ x.part lane = .waiting then x.setPart lane .receiving else x

/-- The open exchange is receiving its first telegram on a lane. -/
def State.receivingReply (s : State) (lane : LaneId) : Bool :=
  s.exu.exchange.any (fun x => x.part lane = .receiving)

/-- A telegram counts as damaged received (R74, R100): it is damaged, or it is a request that is the first telegram
of an own reply window. -/
def countsDamaged (own : Bool) : Option Telegram → Bool
  | none => true
  | some (.request _) => own
  | some (.reply _) => false

/-- The Mastership Unit's part in a received telegram, by the role as it stands (R116): contests in ACTIVE,
overhearing in LISTEN, nothing in OFF. The second lane's copy of a mirrored request whose first copy made a tag-1 device
yield is by this rule heard in LISTEN, and opens an overheard exchange (R86): the model's choice, log entry 36. -/
def State.heard (lane : LaneId) (t : Option Telegram) (s : State) : State :=
  match s.msu.role with
  | .active =>
    match t with
    | some (.request q) => s.contest q.tag
    | some (.reply _) => s
    | none => s
  | .listen => s.overhear lane t
  | .off => s

/-- The lane's part of the open exchange ends with the telegram's outcome (R80). -/
def State.judgeReply (lane : LaneId) (t : Option Telegram) (s : State) : State :=
  { s with exu.exchange := s.exu.exchange.map (fun x => x.setPart lane (.ended (x.judge t))) }

/-- A telegram has ended on a lane and is handed on (R74): it is counted, it may end the lane's part of an attempt, the
Mastership Unit hears it, and an attempt that is over ends. -/
def State.telegram (lane : LaneId) (t : Option Telegram) (s : State) : State :=
  let own := s.receivingReply lane
  let damage : Word := if countsDamaged own t then 1 else 0
  let s := s.updateLane lane (fun l => { l with rx := .quiet, damaged := l.damaged + damage })
  if own then ((s.judgeReply lane t).heard lane t).checkAttempt else s.heard lane t

end Sys2Proof.Machine
end

