-- ==== Sys2Proof/Machine/Control.lean ====
section
/-! DEFINITION. Control (CTL): power-on, the reset pin, the register writes, START, faults, HALT and the drain
(R179 to R188). -/

namespace Sys2Proof.Machine

/-! ### Shared operations -/

/-- Entry to FAULTED from RUNNING or DRAINING (R186, R122, R156, R65): host access stops, the Order Unit and Staging are
discarded, the sweep ends without a result, the timers stop, and the role becomes LISTEN if it was ACTIVE in RUNNING.
An open exchange keeps its last attempt (R84). -/
def State.fault (cause : FaultCause) (s : State) : State :=
  let s := s.forbidRetry
  { s with
    ctl.exchangeState := .faulted, ctl.faultCause := cause, ctl.drainTimer := false, ctl.drainExpired := false
    ctl.drainEnded := false
    xpt.lookTimer := false, xpt.readWanted := false, xpt.readPath := none
    rpu.staging := [], rpu.head := .unsettled, rpu.writePath := none, rpu.reportDue := false, rpu.holdTimer := false
    rpu.bulkWaitTimer := false, rpu.attention := .stopped
    stations := s.stations.map (fun r => { r with held := false })
    swe := s.swe.rest
    oru.cache := [], oru.hand := .empty, oru.busQueue := [], oru.completion := []
    msu.role := if s.running && s.msu.role = .active then .listen else s.msu.role
    msu.takeoverTimer := false, msu.markTimer := false, msu.markClaim := false, msu.roleDue := []
    msu.windDown :=
      if s.exu.exchange.isSome && ((s.running && s.msu.role = .active) || s.msu.windDown.isSome) then
        some { awaitHand := false }
      else none }

/-- A START refused (R182, R183): the device stays HALTED with the cause and START_REFUSED set, and everything else as
it was. -/
def State.refuseStart (cause : FaultCause) (s : State) : State :=
  { s with ctl.start := none, ctl.faultCause := cause, ctl.startRefused := true, xpt.readPath := none }

/-- The Host Block tests of a START, against counts that it is about to set to 0 (R183). -/
def startCountsOk (d : Directory) (h : HostBlock) : Bool :=
  h.ordersPosted.toNat ≤ d.orderSize && h.resultsReleased = 0 &&
    (if d.supplySize = 0 then h.bulkPosted = 0 else h.bulkPosted.toNat ≤ d.supplySize)

/-- A lane at a START taken (R89, R69): UP with no faults; its receiver begins, quiet, if it was off, and otherwise stands
as it stood: a telegram being received is judged whole at the bit rate now in force (log entry 35). -/
def LaneController.start (l : LaneController) : LaneController :=
  { l with up := true, faults := 0, rx := if l.rx = .off then .quiet else l.rx }

/-- A START taken (R183, R110): the counts, queues and lanes are reset, the settings come into force, and the role is
start_role. The tables, lists, sweep counts, lane counters, contest count and sequence counter are kept. -/
def State.takeStart (base : Quad) (d : Directory) (h : HostBlock) (s : State) : State :=
  { s with
    ctl.exchangeState := .running, ctl.start := none, ctl.areaBase := base, ctl.dropped := 0
    ctl.drainTimer := false, ctl.drainExpired := false, ctl.drainEnded := false
    xpt :=
      { directory := some d, ordersTaken := 0, bulkTaken := 0, hostBlock := h, lookTimer := d.lookInterval ≠ 0
        readWanted := false, readPath := none }
    rpu := ReportUnit.reset
    swe :=
      { s.swe.rest with
        state := if d.startRole = .active then .idle else .stopped, startDue := d.startRole = .active }
    lanes.a := s.lanes.a.start, lanes.b := s.lanes.b.start
    exu.overheard := none
    bar := { token := .sweepEngine, reserved := 0 }
    msu :=
      { Mastership.reset with
        role := d.startRole, contestCount := s.msu.contestCount
        takeoverTimer := d.startRole = .listen, markTimer := d.startRole = .active }
    oru := { cache := [], hand := .empty, busQueue := [], completion := [] } }

/-- A HALT in RUNNING begins the drain (R184, R123, R64, R155). -/
def State.beginDrain (s : State) : State :=
  let t : State :=
    { s with
      ctl.exchangeState := .draining, ctl.drainTimer := true
      msu.takeoverTimer := false, msu.markTimer := false, msu.markClaim := false
      msu.role := if s.exu.exchange.isNone then .off else s.msu.role
      msu.offAtClose := s.exu.exchange.isSome
      exu.overheard := if s.exu.exchange.isNone then none else s.exu.overheard }
  t.forbidRetry.stopSweep.abandonOrders

/-- A HALT in FAULTED takes the device to HALTED at once (R187). -/
def State.haltFromFault (s : State) : State :=
  let t := s.cutExchange
  { t with ctl.exchangeState := .halted, msu.windDown := none }

/-- The order in hand has no result anywhere: it has not completed (R185). -/
def Hand.unanswered : Hand → Nat
  | .empty => 0
  | .stageWait _ => 0
  | .queueWait _ => 1
  | .holdWait _ => 1
  | .markerWait _ => 1
  | .claimDeferred _ => 1
  | .claimStaging _ => 1
  | .yieldStaging _ => 1

/-- The SWEEP result that waits at the Sweep Engine (R185). -/
def State.sweepResultsWaiting (s : State) : Nat := if s.swe.abandoning && s.dir.sweepResults then 1 else 0

/-- The results in Staging, the results waiting to be staged, and the orders taken without a result (R185). -/
def State.unwritten (s : State) : Nat :=
  s.rpu.staging.length + (s.oru.completion.length + s.sweepResultsWaiting + s.msu.roleDue.length) +
    (s.oru.cache.length + s.oru.hand.unanswered + s.oru.busQueue.length)

/-- The conditions under which a drain ends before its timer (R185). -/
def State.drained (s : State) : Bool :=
  s.exu.exchange.isNone && s.oru.cache.isEmpty && s.oru.hand = .empty && s.oru.busQueue.isEmpty &&
    s.oru.completion.isEmpty && !s.swe.abandoning && s.msu.roleDue.isEmpty && s.rpu.staging.isEmpty

/-- The drain ends (R185): dropped is set, what is unwritten is discarded, a held bulk buffer is consumed unused, and
the final Report Block falls due. -/
def State.endDrain (s : State) : State :=
  { s with
    ctl.dropped := BitVec.ofNat 32 s.unwritten, ctl.drainTimer := false, ctl.drainExpired := false
    ctl.drainEnded := true
    rpu.staging := [], rpu.head := .unsettled, rpu.bulkWaitTimer := false, rpu.attention := .stopped
    rpu.reportDue := true
    stations := s.stations.map (fun r => { r with held := false })
    swe := s.swe.rest
    msu.roleDue := [], msu.windDown := none
    oru.cache := [], oru.hand := .empty, oru.busQueue := [], oru.completion := [] }

/-- The final Report Block has been written: the device is HALTED (R185). -/
def State.enterHalted (s : State) : State :=
  { s with
    ctl.exchangeState := .halted, ctl.drainEnded := false
    xpt.lookTimer := false, xpt.readWanted := false
    rpu.events := EventSummary.clear, rpu.changed := false, rpu.holdTimer := false, rpu.reportDue := false }

/-! ### Meanings -/

/-- POWER_ON: every part of the device takes its reset state, the area registers 0 (R188). -/
def execPowerOn (s : State) : Host.Outcome State Fault Refusal := .next { State.reset with pending := s.pending }

/-- RESET_PIN: the same effect as power-on (R188). -/
def execResetPin (s : State) : Host.Outcome State Fault Refusal := .next { State.reset with pending := s.pending }

/-- RESET: all work is abandoned and every state takes its reset value; the area registers are kept (R188). -/
def execReset (s : State) : Host.Outcome State Fault Refusal :=
  .next
    { State.reset with
      pending := s.pending, ctl := { Control.reset with areaLo := s.ctl.areaLo, areaHi := s.ctl.areaHi } }

/-- START (R182): in HALTED with no START in progress the area base is taken, the cause and START_REFUSED clear, and
the Directory read begins; ignored otherwise (R181). -/
def execStart (s : State) : Host.Outcome State Fault Refusal :=
  if s.ctl.exchangeState = .halted ∧ s.ctl.start = none then
    .next
      { s with
        ctl.faultCause := .none, ctl.startRefused := false
        ctl.start := some { base := s.ctl.areaRegisters, directory := none }
        xpt.readPath := some (.directory s.ctl.areaRegisters) }
  else .next s

/-- HALT: RUNNING begins a drain (R184), FAULTED becomes HALTED at once (R187), and HALTED and DRAINING are left as they
are (R181). -/
def execHalt (s : State) : Host.Outcome State Fault Refusal :=
  match s.ctl.exchangeState with
  | .running => done s.beginDrain
  | .faulted => done s.haltFromFault
  | .halted => .next s
  | .draining => .next s

/-- NUDGE: a Host Block read falls due, whatever the value; ignored in HALTED and FAULTED (R161, R179). -/
def execNudge (_value : Word) (s : State) : Host.Outcome State Fault Refusal :=
  if s.hosting then .next { s with xpt.readWanted := true } else .next s

/-- The area registers are written: HALTED and no START in progress (R179). -/
def State.areaWritable (s : State) : Bool := s.ctl.exchangeState = .halted && s.ctl.start = none

/-- AREA_LO_WRITE: the low 12 bits written are discarded (R179). -/
def execAreaLoWrite (value : Word) (s : State) : Host.Outcome State Fault Refusal :=
  if s.areaWritable then .next { s with ctl.areaLo := value &&& 0xFFFFF000#32 } else .next s

/-- AREA_HI_WRITE (R179). -/
def execAreaHiWrite (value : Word) (s : State) : Host.Outcome State Fault Refusal :=
  if s.areaWritable then .next { s with ctl.areaHi := value } else .next s

/-- REGISTER_WRITE_IGNORED: a write to IDENT or STATE, or of an undefined value to RUN, changes nothing (R179). -/
def execRegisterWriteIgnored (target : IgnoredTarget) (value : Word) (s : State) :
    Host.Outcome State Fault Refusal :=
  if target = .run ∧ runCommand value then .refused .illFormed else .next s

/-- DIRECTORY_READ_DONE: every setting is tested; a failure refuses the START with DIRECTORY_ERROR, otherwise the Host
Block read begins (R182, R183). -/
def execDirectoryReadDone (data : List Byte) (s : State) : Host.Outcome State Fault Refusal :=
  if data.length ≠ 64 then .refused .illFormed
  else
    match s.ctl.start, s.xpt.readPath with
    | some p, some (.directory _) =>
      match parseDirectory data with
      | none => .next (s.refuseStart .directoryError)
      | some d =>
        .next
          { s with
            ctl.start := some { p with directory := some d }, xpt.readPath := some (.startHostBlock (p.base + 64)) }
    | _, _ => .next s

/-- START_HOST_BLOCK_READ_DONE: the counts are tested; a failure refuses the START with COUNT_ERROR, otherwise the
device becomes RUNNING (R183). -/
def execStartHostBlockReadDone (data : List Byte) (s : State) : Host.Outcome State Fault Refusal :=
  if data.length ≠ 16 then .refused .illFormed
  else
    match s.ctl.start, s.xpt.readPath with
    | some { base := base, directory := some d }, some (.startHostBlock _) =>
      if startCountsOk d (parseHostBlock data) then done (s.takeStart base d (parseHostBlock data))
      else .next (s.refuseStart .countError)
    | _, _ => .next s

/-- An access is in progress on the path. -/
def State.accessOn (s : State) : AccessPath → Bool
  | .read => s.xpt.readPath.isSome
  | .write => s.rpu.writePath.isSome

/-- ACCESS_ERROR: an error of a START's read refuses the START (R182, R183); in RUNNING or DRAINING the device becomes
FAULTED (R171, R186); in FAULTED, or for an access whose outcome is no longer used, nothing changes. -/
def execAccessError (path : AccessPath) (s : State) : Host.Outcome State Fault Refusal :=
  if s.accessOn path then
    if s.ctl.start.isSome ∧ path = .read then .next (s.refuseStart .accessError)
    else if s.hosting then done (s.fault .accessError)
    else .next s
  else .next s

/-- DRAIN_TIMER_EXPIRY: an open exchange is cut off and the role becomes OFF; the drain ends at once, or, with an access
in progress, once it has completed (R185). -/
def execDrainTimerExpiry (s : State) : Host.Outcome State Fault Refusal :=
  if s.draining ∧ s.ctl.drainTimer then
    let t := s.cutExchange
    let t : State := { t with ctl.drainTimer := false, ctl.drainExpired := true }
    if t.pathsFree then done t.endDrain else done t
  else .next s

/-- DRAIN_END: with no access in progress, and the drain's conditions holding or its timer expired, dropped is set and
the final Report Block falls due (R185). -/
def execDrainEnd (s : State) : Host.Outcome State Fault Refusal :=
  if s.draining ∧ s.ctl.drainEnded = false ∧ s.pathsFree ∧ (s.ctl.drainExpired ∨ s.drained) then done s.endDrain
  else .next s

end Sys2Proof.Machine
end

