-- ==== Sys2Proof/Machine/Port.lean ====
section
/-! DEFINITION. The Exchange Port (XPT): Host Block reads, order fetch and supply entry reads (R161 to R164, R167). -/

namespace Sys2Proof.Machine

/-- The tests of a Host Block read against the device-side counts (R163). -/
def State.countsOk (h : HostBlock) (s : State) : Bool :=
  (h.ordersPosted - s.xpt.ordersTaken).toNat ≤ s.dir.orderSize &&
  (h.resultsReleased - s.xpt.hostBlock.resultsReleased).toNat ≤
    (s.rpu.resultsWritten - s.xpt.hostBlock.resultsReleased).toNat &&
  (if s.dir.supplySize = 0 then h.bulkPosted = s.xpt.bulkTaken
   else (h.bulkPosted - s.xpt.bulkTaken).toNat ≤ s.dir.supplySize)

/-- LOOK_TIMER_EXPIRY: a Host Block read falls due, and the timer starts again (R161). -/
def execLookTimerExpiry (s : State) : Host.Outcome State Fault Refusal :=
  if s.xpt.lookTimer then .next { s with xpt.readWanted := true } else .next s

/-- HOST_BLOCK_READ_BEGIN: the read path is free and the read is wanted; the mark clears as the read begins (R161,
R162). -/
def execHostBlockReadBegin (s : State) : Host.Outcome State Fault Refusal :=
  if s.mayAccess ∧ s.xpt.readPath = none ∧ s.xpt.readWanted then
    done { s with xpt.readPath := some (.hostBlock (s.ctl.areaBase + 64)), xpt.readWanted := false }
  else .next s

/-- HOST_BLOCK_READ_DONE: the four values are taken together, or the device becomes FAULTED with COUNT_ERROR (R163). -/
def execHostBlockReadDone (data : List Byte) (s : State) : Host.Outcome State Fault Refusal :=
  if data.length ≠ 16 then .refused .illFormed
  else
    match s.xpt.readPath with
    | some (.hostBlock _) =>
      if s.hosting then
        if s.countsOk (parseHostBlock data) then
          done { s with xpt.hostBlock := parseHostBlock data, xpt.readPath := none }
        else done (s.fault .countError)
      else .next s
    | _ => .next s

/-- ORDER_FETCH_BEGIN: the read path is free, no Host Block or supply entry read is wanted before it (R162), and a fetch
is wanted; it reads k records from the slot of orders_taken (R164). -/
def execOrderFetchBegin (s : State) : Host.Outcome State Fault Refusal :=
  if s.mayAccess ∧ s.xpt.readPath = none ∧ s.xpt.readWanted = false ∧ s.supplyWanted = false ∧ s.fetchWanted then
    done
      { s with
        xpt.readPath := some
          (.orderFetch (slotAddress s.dir.orderRing s.dir.orderSize 32 s.xpt.ordersTaken) s.fetchCount) }
  else .next s

/-- ORDER_FETCH_DONE: the k orders join the tail of the Order Cache and orders_taken goes up by k, a change worth
reporting (R164). -/
def execOrderFetchDone (data : List Byte) (s : State) : Host.Outcome State Fault Refusal :=
  match s.xpt.readPath with
  | some (.orderFetch _ k) =>
    if data.length ≠ orderBytes * k then .refused .illFormed
    else if s.hosting then
      let t : State :=
        { s with
          oru.cache := s.oru.cache ++ parseOrders data k
          xpt.ordersTaken := s.xpt.ordersTaken + BitVec.ofNat 32 k, xpt.readPath := none }
      done t.noteChange
    else .next s
  | _ => .next s

/-- SUPPLY_ENTRY_READ_BEGIN: the read path is free, no Host Block read is wanted before it, and the head of Staging
wants a buffer that is available (R162, R167). -/
def execSupplyEntryReadBegin (s : State) : Host.Outcome State Fault Refusal :=
  if s.mayAccess ∧ s.xpt.readPath = none ∧ s.xpt.readWanted = false ∧ s.supplyWanted then
    done
      { s with
        xpt.readPath := some (.supplyEntry (slotAddress s.dir.supplyRing s.dir.supplySize 16 s.xpt.bulkTaken)) }
  else .next s

/-- SUPPLY_ENTRY_READ_DONE: bulk_taken goes up by 1; a valid entry becomes the head's buffer, an invalid one settles the
head inline-only with TRUNCATED and SUPPLY_BAD (R167, R170). -/
def execSupplyEntryReadDone (data : List Byte) (s : State) : Host.Outcome State Fault Refusal :=
  if data.length ≠ 16 then .refused .illFormed
  else
    match s.xpt.readPath with
    | some (.supplyEntry _) =>
      if s.hosting then
        done
          { s with
            xpt.bulkTaken := s.xpt.bulkTaken + 1, xpt.readPath := none
            rpu.head :=
              if supplyValid data then .buffer (supplyAddress data) (supplyLength data) s.xpt.bulkTaken
              else .inlineOnly true }
      else .next s
    | _ => .next s

end Sys2Proof.Machine
end

