-- ==== Sys2Proof/Machine/Report.lean ====
section
/-! DEFINITION. The Report Unit (RPU): result and bulk writes, Report Blocks, and its timers (R165 to R178). -/

namespace Sys2Proof.Machine

/-- The slot of the Result Ring that the next record goes to (R158, R169). -/
def State.recordAddress (s : State) : Quad :=
  slotAddress s.dir.resultRing s.dir.resultSize 32 s.rpu.resultsWritten

/-- The head of Staging may be written (R169): the ring has room, the head needs no buffer or is settled, no write is in
progress, and no Report Block write is due. -/
def State.headWritable (s : State) : Bool :=
  s.mayAccess && s.ringRoom && !s.headNeedsBuffer && s.rpu.writePath.isNone && !s.rpu.reportDue

/-- BULK_WAIT_TIMER_EXPIRY: the head is settled inline-only with TRUNCATED (R168, R170). -/
def execBulkWaitTimerExpiry (s : State) : Host.Outcome State Fault Refusal :=
  if s.rpu.bulkWaitTimer then done { s with rpu.head := .inlineOnly false, rpu.bulkWaitTimer := false } else .next s

/-- RESULT_WRITE_BEGIN: with a buffer held the entries are written into it first; otherwise the record alone is written
(R169). -/
def execResultWriteBegin (s : State) : Host.Outcome State Fault Refusal :=
  match s.rpu.staging with
  | [] => .next s
  | r :: _ =>
    if s.headWritable then
      match s.rpu.head with
      | .buffer address _ _ => done { s with rpu.writePath := some (.bulk address (r.entryBytes s.rpu.head)) }
      | .unsettled => done { s with rpu.writePath := some (.record s.recordAddress (r.record s.rpu.head)) }
      | .inlineOnly _ => done { s with rpu.writePath := some (.record s.recordAddress (r.record s.rpu.head)) }
    else .next s

/-- BULK_WRITE_DONE: the record, with its bulk reference, is written into the Result Ring slot of results_written (R169),
ahead of a Report Block that has fallen due meanwhile (log entry 33). After the drain timer's expiry no further access
begins (R185). -/
def execBulkWriteDone (s : State) : Host.Outcome State Fault Refusal :=
  match s.rpu.writePath, s.rpu.staging with
  | some (.bulk _ _), r :: _ =>
    if s.mayAccess then done { s with rpu.writePath := some (.record s.recordAddress (r.record s.rpu.head)) }
    else done { s with rpu.writePath := none }
  | _, _ => .next s

/-- A Report Block write falls due at the completion of a record write (R173): the result carried REPORT_NOW, or
report_count records have been written since the last. -/
def State.reportTriggered (r : Result) (s : State) : Bool :=
  r.reportNow || s.dir.reportCount ≤ s.rpu.recordsSinceReport + 1

/-- RECORD_WRITE_DONE: results_written goes up by 1, the result leaves Staging, its buffer is released, and the report
triggers and the TRUNCATE event are tested (R169, R170, R173, R176). -/
def execRecordWriteDone (s : State) : Host.Outcome State Fault Refusal :=
  match s.rpu.writePath, s.rpu.staging with
  | some (.record _ _), r :: rest =>
    if s.hosting then
      let t : State :=
        { s with
          rpu.writePath := none, rpu.staging := rest, rpu.head := .unsettled
          rpu.resultsWritten := s.rpu.resultsWritten + 1
          rpu.recordsSinceReport := s.rpu.recordsSinceReport + 1
          rpu.reportDue := s.rpu.reportDue || s.reportTriggered r }
      let t := t.noteChange
      done (if r.truncated s.rpu.head then t.setEvent .truncate else t)
    else .next s
  | _, _ => .next s

/-- A Report Block write may begin: one is due and no write of the Report Unit is in progress (R173); after the drain
timer's expiry only the final one (R185). -/
def State.reportReady (s : State) : Bool :=
  s.hosting && !s.ctl.drainExpired && s.rpu.reportDue && s.rpu.writePath.isNone

/-- REPORT_BLOCK_WRITE_BEGIN: the block is taken as the state stands, with the new tag; the event summary is copied and
cleared, the hold timer stops and the record count returns to 0 (R172, R173, R175, R176). -/
def execReportBlockWriteBegin (s : State) : Host.Outcome State Fault Refusal :=
  if s.reportReady then
    done
      { s with
        rpu.writePath := some (.report (s.ctl.areaBase + 128) s.reportBlock (nextTag s.rpu.lastTag))
        rpu.reportDue := false, rpu.changed := false, rpu.holdTimer := false, rpu.recordsSinceReport := 0
        rpu.events := EventSummary.clear }
  else .next s

/-- REPORT_BLOCK_WRITE_DONE: the new tag becomes the last written tag (R175); the final Report Block of a drain takes the
device to HALTED (R185). -/
def execReportBlockWriteDone (s : State) : Host.Outcome State Fault Refusal :=
  match s.rpu.writePath with
  | some (.report _ _ tag) =>
    if s.hosting then
      let t : State := { s with rpu.writePath := none, rpu.lastTag := tag }
      done (if s.ctl.drainEnded then t.enterHalted else t)
    else .next s
  | _ => .next s

/-- HOLD_TIMER_EXPIRY: a Report Block write falls due (R173). -/
def execHoldTimerExpiry (s : State) : Host.Outcome State Fault Refusal :=
  if s.rpu.holdTimer then done { s with rpu.holdTimer := false, rpu.reportDue := true } else .next s

/-- ATTENTION_TIMER_EXPIRY: the host-attention signal is sent, and the timer does not run again until its condition has
ended (R178, R115). -/
def execAttentionTimerExpiry (s : State) : Host.Outcome State Fault Refusal :=
  if s.rpu.attention = .running then done { s with rpu.attention := .expired }.hostAttention else .next s

end Sys2Proof.Machine
end

