-- ==== Sys2Proof/Machine/Orders.lean ====
section
/-! DEFINITION. The orders as the Order Unit takes them in hand (R129 to R157): each meaning acts when the head of the
Order Cache is an order of its row and the Order Unit may take it (R133). -/

namespace Sys2Proof.Machine

/-- An order in hand that completes at once with an outcome and no entries. -/
def State.finishOrder (o : Order) (outcome : OrderOutcome) (s : State) : Host.Outcome State Fault Refusal :=
  done (s.popOrder.answer o outcome)

/-- ORDER_ABANDONED_IN_DRAIN: an order taken from the cache in DRAINING ends ABANDONED with no validation and no effect
(R133, R155). -/
def execOrderAbandonedInDrain (s : State) : Host.Outcome State Fault Refusal :=
  if s.draining ∧ s.handFree then
    match s.oru.cache.head? with
    | some o => s.finishOrder o .abandoned
    | none => .next s
  else .next s

/-- UNRECOGNISED_KIND: an order with an unrecognised kind code completes BAD_ORDER (R136). -/
def execUnrecognisedKind (s : State) : Host.Outcome State Fault Refusal :=
  match s.taken? (fun o => o.kind?.isNone) with
  | some o => s.finishOrder o .badOrder
  | none => .next s

/-- A record enrolled: it joins the table and its window is reset, together (R6). -/
def State.enrolRecord (r : StationRecord) (s : State) : State :=
  { s.resetWindow r with stations := insertRecord r s.stations }

/-- ENROL (R5, R6). -/
def execEnrol (s : State) : Host.Outcome State Fault Refusal :=
  match s.takes .enrol with
  | none => .next s
  | some o =>
    match s.checkEnrol o with
    | .error outcome => s.finishOrder o outcome
    | .ok r => done ((s.enrolRecord r).popOrder.answer o .done)

/-- RETIRE (R7, R8, R138, R141). -/
def execRetire (s : State) : Host.Outcome State Fault Refusal :=
  match s.takes .retire with
  | none => .next s
  | some o =>
    match s.refuseRetire o with
    | some outcome => s.finishOrder o outcome
    | none => done (s.popOrder.holdOrApply o)

/-- SHAPE (R44, R45, R138, R141). -/
def execShape (s : State) : Host.Outcome State Fault Refusal :=
  match s.takes .shape with
  | none => .next s
  | some o =>
    match s.refuseShape o with
    | some outcome => s.finishOrder o outcome
    | none => done (s.popOrder.holdOrApply o)

/-- SCAN_BEGIN: the Pending Scan List empties and pending_ready clears (R51). -/
def execScanBegin (s : State) : Host.Outcome State Fault Refusal :=
  match s.takes .scanBegin with
  | none => .next s
  | some o => done ({ s with swe.pendingList := [], swe.pendingReady := false }.popOrder.answer o .done)

/-- SCAN_ADD: the order's addresses join the tail of the Pending Scan List (R52). -/
def execScanAdd (s : State) : Host.Outcome State Fault Refusal :=
  match s.takes .scanAdd with
  | none => .next s
  | some o =>
    match s.refuseScanAdd o with
    | some (outcome, detail) => done (s.popOrder.completeHand o outcome detail (.values []))
    | none => done ({ s with swe.pendingList := s.swe.pendingList ++ o.scanAddresses }.popOrder.answer o .done)

/-- SCAN_COMMIT: pending_ready is set, and the swap takes place at once in IDLE and STOPPED (R53, R54). -/
def execScanCommit (s : State) : Host.Outcome State Fault Refusal :=
  match s.takes .scanCommit with
  | none => .next s
  | some o =>
    if s.sweeping then done ({ s with swe.pendingReady := true }.popOrder.answer o .done)
    else done ({ s with swe := s.swe.swap }.popOrder.answer o .done)

/-- READ: it joins the Bus Queue or waits in QUEUE_WAIT (R136, R143, R147). -/
def execRead (s : State) : Host.Outcome State Fault Refusal :=
  match s.takes .read with
  | none => .next s
  | some o =>
    match s.refuseRead o with
    | some outcome => s.finishOrder o outcome
    | none => done (s.popOrder.joinQueue o)

/-- WRITE: it joins the Bus Queue or waits in QUEUE_WAIT (R136, R143, R150). -/
def execWrite (s : State) : Host.Outcome State Fault Refusal :=
  match s.takes .write with
  | none => .next s
  | some o =>
    match s.refuseWrite o with
    | some outcome => s.finishOrder o outcome
    | none => done (s.popOrder.joinQueue o)

/-- LATCH: it joins the Bus Queue or waits in QUEUE_WAIT (R136, R143, R151). -/
def execLatch (s : State) : Host.Outcome State Fault Refusal :=
  match s.takes .latch with
  | none => .next s
  | some o =>
    match s.refuseLatch o with
    | some outcome => s.finishOrder o outcome
    | none => done (s.popOrder.joinQueue o)

/-- The value entries that a SNAP returns, in ascending channel order (R47). -/
def State.snapEntries (o : Order) (r : StationRecord) (s : State) : List ValueEntry :=
  (List.range' o.first o.count).map (fun c => (s.point (r.firstSlot + c)).snapEntry c)

/-- SNAP: the named points are read in one step (R47). -/
def execSnap (s : State) : Host.Outcome State Fault Refusal :=
  match s.takes .snap with
  | none => .next s
  | some o =>
    match s.checkWindow o with
    | .error outcome => s.finishOrder o outcome
    | .ok r => done (s.popOrder.completeHand o .done 0 (.values (s.snapEntries o r)))

/-- The total entries that a TAKE_TOTALS forms, in ascending channel order (R48). -/
def State.totalEntries (o : Order) (r : StationRecord) (s : State) : List TotalEntry :=
  (List.range' o.first o.count).map (fun c => (s.point (r.firstSlot + c)).totalEntry c)

/-- TAKE_TOTALS: the totals are collected, then those of TOTAL points cleared, in one step (R48). -/
def execTakeTotals (s : State) : Host.Outcome State Fault Refusal :=
  match s.takes .takeTotals with
  | none => .next s
  | some o =>
    match s.checkWindow o with
    | .error outcome => s.finishOrder o outcome
    | .ok r =>
      let t : State :=
        { s with points := updateWindow Point.takeTotal (r.firstSlot + o.first) o.count s.points }
      done (t.popOrder.completeHand o .done 0 (.totals (s.totalEntries o r)))

/-- A ROLE order with a given request. -/
def State.takesRole (q : RoleRequest) (s : State) : Option Order :=
  s.taken? (fun o => o.kind? = some .role && o.roleRequest = q)

/-- CLAIM (R113, R152): in ACTIVE takeover_shift becomes 0; in LISTEN the role becomes ACTIVE, once no wind-down is in
progress. -/
def execClaim (s : State) : Host.Outcome State Fault Refusal :=
  match s.takesRole .claim with
  | none => .next s
  | some o =>
    let s := s.popOrder
    match s.msu.role with
    | .active => done ({ s with msu.shift := 0 }.answer o .done)
    | .listen =>
      if s.msu.windDown.isSome then done { s with oru.hand := .claimDeferred o } else done (s.carryOutClaim o)
    | .off => done (s.answer o .done)

/-- YIELD (R114, R152): in ACTIVE the role becomes LISTEN, and the order waits for its ROLE result; in LISTEN nothing
changes. -/
def execYield (s : State) : Host.Outcome State Fault Refusal :=
  match s.takesRole .yield with
  | none => .next s
  | some o =>
    let s := s.popOrder
    match s.msu.role with
    | .active => done ({ s with oru.hand := .yieldStaging o }.leaveActive .yielded none)
    | .listen => done (s.answer o .done)
    | .off => done (s.answer o .done)

/-- ROLE: a body that names neither CLAIM nor YIELD is BAD_ORDER (R137). -/
def execRole (s : State) : Host.Outcome State Fault Refusal :=
  match s.takesRole .other with
  | some o => s.finishOrder o .badOrder
  | none => .next s

/-- MARKER: DONE at once if the Bus Queue is empty, otherwise MARKER_WAIT (R153). -/
def execMarker (s : State) : Host.Outcome State Fault Refusal :=
  match s.takes .marker with
  | none => .next s
  | some o =>
    if s.oru.busQueue.isEmpty then s.finishOrder o .done
    else done { s.popOrder with oru.hand := .markerWait o }

/-- The six lane counters in the order of R154. -/
def State.laneCounters (s : State) : List Word :=
  [s.lanes.a.sent, s.lanes.b.sent, s.lanes.a.damaged, s.lanes.b.damaged, s.lanes.silentWindows, s.lanes.disagreements]

/-- STATS: the six lane counters, copied in one step (R154). -/
def execStats (s : State) : Host.Outcome State Fault Refusal :=
  match s.takes .stats with
  | none => .next s
  | some o => done (s.popOrder.completeHand o .done 0 (.counters s.laneCounters))

/-- HOLD_SATISFIED: no Bus Queue entry names the held station and no exchange addresses it; the waiting RETIRE or SHAPE
is applied and completes DONE (R141, R142). -/
def execHoldSatisfied (s : State) : Host.Outcome State Fault Refusal :=
  match s.oru.hand with
  | .holdWait o => if s.holdSatisfied o.station then done (s.applyHeld o) else .next s
  | _ => .next s

/-- The hand becomes EMPTY as its result is staged, and a wind-down that waited for it waits no more (R121, R134). -/
def State.releaseHand (s : State) : State :=
  { s with
    oru.hand := .empty, msu.windDown := s.msu.windDown.map (fun w => { w with awaitHand := false }) }

/-- ORDER_RESULT_STAGE: the head of the completion list is staged when Staging has a free place (R135). -/
def execOrderResultStage (s : State) : Host.Outcome State Fault Refusal :=
  match s.oru.completion with
  | [] => .next s
  | c :: rest =>
    if s.hosting ∧ 0 < s.freePlaces then
      let t := { s with oru.completion := rest }.stage (.order c.result)
      done (if c.fromHand then t.releaseHand else t)
    else .next s

end Sys2Proof.Machine
end

