-- ==== Sys2Proof/Machine/LaneEvents.lean ====
section
/-! DEFINITION. The bus and the lanes: the grant (R101 to R106), start delimiters, telegrams sent and received, window
expiries, and the receiver's holds (R69, R74, R79 to R83, R86). -/

namespace Sys2Proof.Machine

/-- BUS_GRANT: when the conditions of R102 hold, one raised claim is chosen and granted (R104). -/
def execBusGrant (s : State) : Host.Outcome State Fault Refusal :=
  if s.grantOpen then
    match s.chooseClaim with
    | some g => done (s.grant g)
    | none => .next s
  else .next s

/-- The delimiter of the device's own telegram is sent: it is counted on its lane and is line activity (R69, R100). A
telegram that a grant or a retry has readied is sent whatever the role has become since (log entry 31). -/
def State.delimiterSent (lane : LaneId) (s : State) : Option State :=
  match (s.lanes.get lane).tx with
  | .starting telegram =>
    some (s.updateLane lane (fun l => { l with tx := .sending telegram, sent := l.sent + 1 })).lineActivity
  | .idle => none
  | .sending _ => none

/-- A lane is ready to hear a delimiter: a bit rate is in force, the device does not transmit on it, and its receiver is
quiet (R68, R69). -/
def State.hears (s : State) (lane : LaneId) : Bool :=
  s.xpt.directory.isSome && (s.lanes.get lane).tx = .idle && (s.lanes.get lane).rx = .quiet

/-- A delimiter is heard on a lane: it is line activity, and it may begin the first telegram of an own reply window (R80)
or of an overheard window (R86). -/
def State.delimiterHeard (lane : LaneId) (s : State) : State :=
  let s := (s.updateLane lane (fun l => { l with rx := .receiving })).lineActivity
  { s with
    exu.exchange := s.exu.exchange.map (fun x => x.delimiter lane)
    exu.overheard := s.exu.overheard.map (fun o => o.delimiter lane) }

/-- START_DELIMITER, sent or heard with a hold of 1.5 to 2.5 bit-times (R69). -/
def execStartDelimiter (lane : LaneId) (delimiter : Delimiter) (s : State) : Host.Outcome State Fault Refusal :=
  match delimiter with
  | .sent =>
    match s.delimiterSent lane with
    | some t => done t
    | none => .next s
  | .heard holdNs =>
    if s.hears lane ∧ isDelimiter s.dir.bitRate.bitTime holdNs then done (s.delimiterHeard lane) else .next s

/-- TELEGRAM_SENT: the transmitter is disabled and the lane taken as quiet (R68, R69); the reply window opens on the lane
(R80), or the lane's part of a MARK is over, and the MARK closes once both are (R83). -/
def execTelegramSent (lane : LaneId) (s : State) : Host.Outcome State Fault Refusal :=
  match (s.lanes.get lane).tx with
  | .sending _ =>
    let t := s.updateLane lane (fun l => { l with tx := .idle, rx := .quiet })
    match t.exu.exchange with
    | none => done t
    | some x =>
      if x.verb = .mark then done (t.setPart lane .closed).checkAttempt else done (t.setPart lane .waiting)
  | .idle => .next s
  | .starting _ => .next s

/-- TELEGRAM_RECEIVED: a telegram ends, is tested for damage, counted, and handed on (R74). -/
def execTelegramReceived (lane : LaneId) (intervals : List Nat) (s : State) : Host.Outcome State Fault Refusal :=
  if s.xpt.directory.isSome ∧ (s.lanes.get lane).tx = .idle ∧ (s.lanes.get lane).rx = .receiving then
    done (s.telegram lane (receive s.dir.bitRate intervals))
  else .next s

/-- The open exchange's window runs on the lane with no delimiter heard in it. -/
def State.windowOpen (s : State) (lane : LaneId) : Option Exchange :=
  s.exu.exchange.filter (fun x => x.part lane = .waiting)

/-- REPLY_WINDOW_EXPIRY: a window that expires with no start delimiter ends the lane's part SILENT, or for a LATCH without
an outcome; the attempt ends with its last lane (R80, R83). -/
def execReplyWindowExpiry (lane : LaneId) (s : State) : Host.Outcome State Fault Refusal :=
  match s.windowOpen lane with
  | some x => done (s.setPart lane (if x.verb = .latch then .closed else .ended .silent)).checkAttempt
  | none => .next s

/-- OVERHEARD_WINDOW_EXPIRY: a lane's window of the overheard exchange runs out: SILENT if no delimiter fell within it
(R86). -/
def execOverheardWindowExpiry (lane : LaneId) (s : State) : Host.Outcome State Fault Refusal :=
  match s.exu.overheard with
  | none => .next s
  | some o =>
    match o.lane lane with
    | none => .next s
    | some l =>
      if l.windowExpired || !l.isWaiting then .next s
      else if l.receiving then
        .next { s with exu.overheard := some (o.setLane lane { l with windowExpired := true }) }
      else done (s.setOverResult o lane { l with result := .silent, windowExpired := true })

/-- NO_DELIMITER: a hold after quiet that a transition ends in less than 1.5 bit-times; the lane's transitions are
discarded until it is quiet (R69). -/
def execNoDelimiter (lane : LaneId) (holdNs : Nat) (s : State) : Host.Outcome State Fault Refusal :=
  if s.hears lane ∧ isNoDelimiter s.dir.bitRate.bitTime holdNs then
    .next (s.updateLane lane (fun l => { l with rx := .discarding }))
  else .next s

/-- LANE_QUIET: a receiver that was discarding transitions takes its lane as quiet again (R69). -/
def execLaneQuiet (lane : LaneId) (s : State) : Host.Outcome State Fault Refusal :=
  if (s.lanes.get lane).rx = .discarding then .next (s.updateLane lane (fun l => { l with rx := .quiet }))
  else .next s

end Sys2Proof.Machine
end

