-- ==== Sys2Proof/Machine/Steps.lean ====
section
/-! DEFINITION. The steps of the Mastership Unit and of the Sweep Engine that are rows of their own (R56, R57, R59, R61,
R64, R111, R119, R125). -/

namespace Sys2Proof.Machine

/-- TAKEOVER_TIMER_EXPIRY: a LISTEN device in RUNNING with no wind-down becomes ACTIVE with reason TAKEOVER (R111,
R112). -/
def execTakeoverTimerExpiry (s : State) : Host.Outcome State Fault Refusal :=
  if s.msu.takeoverTimer ∧ s.running ∧ s.msu.role = .listen ∧ s.msu.windDown = none then
    done (s.enterActive .takeover)
  else .next s

/-- MARK_TIMER_EXPIRY: a mark claim is raised, and the timer does not restart until the next start delimiter (R119). -/
def execMarkTimerExpiry (s : State) : Host.Outcome State Fault Refusal :=
  if s.msu.markTimer ∧ s.running ∧ s.msu.role = .active then
    .next { s with msu.markTimer := false, msu.markClaim := true }
  else .next s

/-- ROLE_RESULT_STAGE: the oldest ROLE result that is due is staged when Staging has a free place and, for a change to
LISTEN, the wind-down's other conditions hold; the wind-down then ends (R121, R125, R152). -/
def execRoleResultStage (s : State) : Host.Outcome State Fault Refusal :=
  match s.msu.roleDue with
  | [] => .next s
  | d :: rest =>
    if s.hosting ∧ 0 < s.freePlaces ∧ s.roleStageable d then
      let t := ({ s with msu.roleDue := rest }.stageRole d).roleStaged d.reason
      done (if d.role = .listen then t.endWindDown else t)
    else .next s

/-- PERIOD_TIMER_EXPIRY: in IDLE a start is due; in SWEEPING the sweep is late (R57). -/
def execPeriodTimerExpiry (s : State) : Host.Outcome State Fault Refusal :=
  if s.swe.periodTimer then
    match s.swe.state with
    | .idle => .next { s with swe.periodTimer := false, swe.startDue := true }
    | .sweeping =>
      done
        ({ s with
            swe.periodTimer := false, swe.startDue := true, swe.late := true
            swe.overrunCount := s.swe.overrunCount + 1 }.setEvent .overrun)
    | .stopped => .next s
  else .next s

/-- A sweep begins (R56): the marks and counts are set, the period timer starts, and the walk takes the first entry. -/
def State.beginSweep (s : State) : State :=
  { s with
    swe.state := .sweeping, swe.startDue := false, swe.cursor := 0, swe.polls := 0, swe.skipped := 0
    swe.misses := 0, swe.late := false, swe.sweepNumber := s.swe.sweepCount
    swe.periodTimer := s.dir.sweepPeriod ≠ 0, swe.firstPoll := true }.walk

/-- SWEEP_START: IDLE with a start due; the swap takes place first if pending_ready is set, and the sweep starts if the
Active Scan List is not empty (R56). -/
def execSweepStart (s : State) : Host.Outcome State Fault Refusal :=
  if s.swe.state = .idle ∧ s.swe.startDue then
    let t : State := if s.swe.pendingReady then { s with swe := s.swe.swap } else s
    if t.swe.active.isEmpty then .next t else done t.beginSweep
  else .next s

/-- The station of the entry that waits for its claim: SWEEPING, the sweep not at its end, no claim raised and no poll
open, and the station not held (R8, R59). -/
def State.claimable (s : State) : Option Nat :=
  if s.sweeping && !s.swe.endWait && s.swe.claim.isNone && !s.sweepPollOpen then
    s.swe.active[s.swe.cursor]?.filter (fun a => !(s.station? a).any (fun r => r.held))
  else none

/-- SWEEP_CLAIM: the claim for the entry under the cursor is raised once Staging has a place (R59, R103). -/
def execSweepClaim (s : State) : Host.Outcome State Fault Refusal :=
  match s.claimable with
  | some a => if 0 < s.freePlaces then .next { s with swe.claim := some a } else .next s
  | none => .next s

/-- SWEEP_RESULT_STAGE: a SWEEP result that waited for a place is staged, and the Sweep Engine enters IDLE or finishes its
abandonment (R61, R64). -/
def execSweepResultStage (s : State) : Host.Outcome State Fault Refusal :=
  if s.hosting ∧ 0 < s.freePlaces then
    if s.swe.endWait then done (s.stage (.sweep (s.swe.result false))).finishSweep
    else if s.swe.abandoning ∧ s.sweepPollOpen = false then done s.finishAbandon
    else .next s
  else .next s

end Sys2Proof.Machine
end

