-- ==== Sys2Proof/Machine/Dispatch.lean ====
section
/-! DEFINITION. One arm for each command of the opcode table, each a direct call of its meaning. -/

namespace Sys2Proof.Machine

def exec (i : Instr) (s : State) : Host.Outcome State Fault Refusal :=
  match i with
  | .powerOn => Sys2Proof.Machine.execPowerOn s
  | .resetPin => Sys2Proof.Machine.execResetPin s
  | .start => Sys2Proof.Machine.execStart s
  | .halt => Sys2Proof.Machine.execHalt s
  | .reset => Sys2Proof.Machine.execReset s
  | .nudge value => Sys2Proof.Machine.execNudge value s
  | .areaLoWrite value => Sys2Proof.Machine.execAreaLoWrite value s
  | .areaHiWrite value => Sys2Proof.Machine.execAreaHiWrite value s
  | .registerWriteIgnored target value => Sys2Proof.Machine.execRegisterWriteIgnored target value s
  | .directoryReadDone data => Sys2Proof.Machine.execDirectoryReadDone data s
  | .startHostBlockReadDone data => Sys2Proof.Machine.execStartHostBlockReadDone data s
  | .lookTimerExpiry => Sys2Proof.Machine.execLookTimerExpiry s
  | .hostBlockReadBegin => Sys2Proof.Machine.execHostBlockReadBegin s
  | .hostBlockReadDone data => Sys2Proof.Machine.execHostBlockReadDone data s
  | .orderFetchBegin => Sys2Proof.Machine.execOrderFetchBegin s
  | .orderFetchDone data => Sys2Proof.Machine.execOrderFetchDone data s
  | .supplyEntryReadBegin => Sys2Proof.Machine.execSupplyEntryReadBegin s
  | .supplyEntryReadDone data => Sys2Proof.Machine.execSupplyEntryReadDone data s
  | .bulkWaitTimerExpiry => Sys2Proof.Machine.execBulkWaitTimerExpiry s
  | .accessError path => Sys2Proof.Machine.execAccessError path s
  | .resultWriteBegin => Sys2Proof.Machine.execResultWriteBegin s
  | .bulkWriteDone => Sys2Proof.Machine.execBulkWriteDone s
  | .recordWriteDone => Sys2Proof.Machine.execRecordWriteDone s
  | .reportBlockWriteBegin => Sys2Proof.Machine.execReportBlockWriteBegin s
  | .reportBlockWriteDone => Sys2Proof.Machine.execReportBlockWriteDone s
  | .holdTimerExpiry => Sys2Proof.Machine.execHoldTimerExpiry s
  | .attentionTimerExpiry => Sys2Proof.Machine.execAttentionTimerExpiry s
  | .orderAbandonedInDrain => Sys2Proof.Machine.execOrderAbandonedInDrain s
  | .unrecognisedKind => Sys2Proof.Machine.execUnrecognisedKind s
  | .enrol => Sys2Proof.Machine.execEnrol s
  | .retire => Sys2Proof.Machine.execRetire s
  | .shape => Sys2Proof.Machine.execShape s
  | .scanBegin => Sys2Proof.Machine.execScanBegin s
  | .scanAdd => Sys2Proof.Machine.execScanAdd s
  | .scanCommit => Sys2Proof.Machine.execScanCommit s
  | .read => Sys2Proof.Machine.execRead s
  | .write => Sys2Proof.Machine.execWrite s
  | .latch => Sys2Proof.Machine.execLatch s
  | .snap => Sys2Proof.Machine.execSnap s
  | .takeTotals => Sys2Proof.Machine.execTakeTotals s
  | .claim => Sys2Proof.Machine.execClaim s
  | .yield => Sys2Proof.Machine.execYield s
  | .marker => Sys2Proof.Machine.execMarker s
  | .stats => Sys2Proof.Machine.execStats s
  | .holdSatisfied => Sys2Proof.Machine.execHoldSatisfied s
  | .orderResultStage => Sys2Proof.Machine.execOrderResultStage s
  | .busGrant => Sys2Proof.Machine.execBusGrant s
  | .startDelimiter lane delimiter => Sys2Proof.Machine.execStartDelimiter lane delimiter s
  | .telegramSent lane => Sys2Proof.Machine.execTelegramSent lane s
  | .telegramReceived lane intervals => Sys2Proof.Machine.execTelegramReceived lane intervals s
  | .replyWindowExpiry lane => Sys2Proof.Machine.execReplyWindowExpiry lane s
  | .overheardWindowExpiry lane => Sys2Proof.Machine.execOverheardWindowExpiry lane s
  | .takeoverTimerExpiry => Sys2Proof.Machine.execTakeoverTimerExpiry s
  | .markTimerExpiry => Sys2Proof.Machine.execMarkTimerExpiry s
  | .roleResultStage => Sys2Proof.Machine.execRoleResultStage s
  | .periodTimerExpiry => Sys2Proof.Machine.execPeriodTimerExpiry s
  | .sweepStart => Sys2Proof.Machine.execSweepStart s
  | .sweepClaim => Sys2Proof.Machine.execSweepClaim s
  | .sweepResultStage => Sys2Proof.Machine.execSweepResultStage s
  | .drainTimerExpiry => Sys2Proof.Machine.execDrainTimerExpiry s
  | .drainEnd => Sys2Proof.Machine.execDrainEnd s
  | .role => Sys2Proof.Machine.execRole s
  | .noDelimiter lane holdNs => Sys2Proof.Machine.execNoDelimiter lane holdNs s
  | .laneQuiet lane => Sys2Proof.Machine.execLaneQuiet lane s

end Sys2Proof.Machine
end

