-- ==== Sys2Proof/Machine/Step.lean ====
section
/-! DEFINITION. One step of the block: the command at the front of the queue is taken and carried out on the state
with the queue's rest; on an empty queue the block idles. -/

namespace Sys2Proof.Machine

/-- The state with another queue of commands. -/
def State.withPending (s : State) (queue : List Instr) : State := { s with pending := queue }

/-- One step. -/
def step (s : State) : Host.Outcome State Fault Refusal :=
  match s.pending with
  | [] => .next s
  | c :: rest => exec c (s.withPending rest)

/-- The state with the command that a word spells at the front of its queue; unchanged where the word spells none. -/
def State.withFetchWord (s : State) (nbits w : Nat) : State :=
  match decodeTableWord nbits w with
  | some c => s.withPending (c :: s.pending)
  | none => s

end Sys2Proof.Machine
end

