-- ==== Sys2Proof/Safety.lean ====
section
/-! DEFINITION. The invariants of the machine: what the rules promise of every state that a run reaches. Each is
a proposition about one state; that every step keeps it is stated in the obligations. -/

namespace Sys2Proof.Machine

/-- The low 12 bits of AREA_LO and of the area base in use are 0, and so are those of the base that a START in
progress took (R158, R179). -/
structure State.AreaAligned (s : State) : Prop where
  register : s.ctl.areaLo &&& 0xFFF#32 = 0
  base : s.ctl.areaBase &&& 0xFFF#64 = 0
  start : ∀ p, s.ctl.start = some p → p.base &&& 0xFFF#64 = 0

/-- A START is in progress in HALTED alone (R182). The drain timer runs, has expired with an access in progress, or
the drain has ended, one at a time and in DRAINING alone (R184, R185). -/
structure State.Phases (s : State) : Prop where
  start : s.ctl.start.isSome → s.ctl.exchangeState = .halted
  drain : s.ctl.drainExpired ∨ s.ctl.drainEnded ∨ s.ctl.drainTimer → s.ctl.exchangeState = .draining
  ended : s.ctl.drainEnded → s.ctl.drainExpired = false ∧ s.ctl.drainTimer = false
  expired : s.ctl.drainExpired → s.ctl.drainTimer = false

/-- No exchange is open in HALTED (R78), nor once the drain timer has expired or the drain has ended (R185). -/
structure State.ExchangeQuiet (s : State) : Prop where
  halted : s.ctl.exchangeState = .halted → s.exu.exchange = none
  drained : s.ctl.drainExpired ∨ s.ctl.drainEnded → s.exu.exchange = none

/-- Result Staging: the results held and the places reserved never exceed six, and an open exchange has its two
places reserved (R103, R165). -/
structure State.StagingSound (s : State) : Prop where
  phases : s.Phases
  quiet : s.ExchangeQuiet
  open_reserved : s.exu.exchange.isSome → s.bar.reserved = Config.reservedPlaces
  capacity : s.rpu.staging.length + s.bar.reserved ≤ Config.stagingResults

/-- The Order Unit's queues: the Bus Queue holds at most 4 entries (R143); the completion list, with the results
that the entries and the hand have still to give, at most 5 (R135); and the Order Cache at most 8 orders, with
those of a fetch in progress (R133, R164). -/
structure State.QueuesSound (s : State) : Prop where
  busQueue : s.oru.busQueue.length ≤ Config.busQueueEntries
  completion :
    s.oru.completion.length + s.oru.busQueue.length + s.oru.hand.unanswered ≤ Config.completionResults
  cache : s.oru.cache.length ≤ Config.orderCacheOrders
  fetch : ∀ address k, s.xpt.readPath = some (.orderFetch address k) →
    s.oru.cache.length + k ≤ Config.orderCacheOrders

/-- The role: OFF in HALTED, and in DRAINING OFF unless an exchange is open at whose close it becomes OFF (R109,
R123). -/
structure State.RoleSound (s : State) : Prop where
  phases : s.Phases
  quiet : s.ExchangeQuiet
  halted : s.ctl.exchangeState = .halted → s.msu.role = .off
  draining : s.ctl.exchangeState = .draining → s.exu.exchange = none → s.msu.role = .off
  closing : s.ctl.exchangeState = .draining → s.exu.exchange.isSome → s.msu.offAtClose = true

/-- The Station Table: at most 48 records in strictly rising order of address, no two windows sharing a slot, and
every window inside the Point Table (R1, R3). -/
structure State.StationsSound (s : State) : Prop where
  size : s.stations.length ≤ Config.maxStations
  ordered : s.stations.Pairwise (fun r q => r.address < q.address)
  disjoint : s.stations.Pairwise (fun r q => r.overlaps q = false)
  window : ∀ r ∈ s.stations, 1 ≤ r.slotCount ∧ r.firstSlot + r.slotCount ≤ Config.slotCount

/-- The Scan Lists: each holds at most 64 entries, and every entry names an enrolled station (R50). -/
structure State.ListsSound (s : State) : Prop where
  activeSize : s.swe.active.length ≤ Config.scanListEntries
  pendingSize : s.swe.pendingList.length ≤ Config.scanListEntries
  active : ∀ a ∈ s.swe.active, (s.station? a).isSome
  pendingList : ∀ a ∈ s.swe.pendingList, (s.station? a).isSome

/-- The lanes' counts stay in their widths: consecutive_faults 0..15 (R90), takeover_shift 0..3 (R115). -/
structure State.CountsSound (s : State) : Prop where
  faultsA : s.lanes.a.faults ≤ 15
  faultsB : s.lanes.b.faults ≤ 15
  shift : s.msu.shift ≤ 3

/-- Every slot in no enrolled station's window holds the default point (R25); a SHAPE that waits under its hold
names channels of its station's window (R44). -/
structure State.PointsSound (s : State) : Prop where
  stations : s.StationsSound
  outside : ∀ slot, slot < Config.slotCount →
    (∀ r ∈ s.stations, slot < r.firstSlot ∨ r.firstSlot + r.slotCount ≤ slot) → s.point slot = Point.default
  shape : ∀ o r, s.oru.hand = .holdWait o → o.kind? ≠ some .retire → s.station? o.station = some r →
    o.first + o.repeats < r.slotCount

/-- The Sweep Engine is STOPPED exactly unless the role is ACTIVE in RUNNING (R55). A claim is raised in SWEEPING alone, for the
entry under the cursor, of a station that is not held, with no poll of the sweep open (R59); an abandoned sweep waits in
STOPPED, before the drain or the wind-down ends (R64, R121, R185); an order in HOLD_WAIT has its station held (R8). -/
structure State.SweepSound (s : State) : Prop where
  phases : s.Phases
  stopped : s.swe.state = .stopped ↔ ¬ (s.ctl.exchangeState = .running ∧ s.msu.role = .active)
  claim : ∀ a, s.swe.claim = some a →
    s.swe.state = .sweeping ∧ s.swe.endWait = false ∧ s.swe.active[s.swe.cursor]? = some a ∧
      (∀ x, s.exu.exchange = some x → x.claimant ≠ .sweep) ∧ ∀ r, s.station? a = some r → r.held = false
  ended : s.swe.endWait = true → s.swe.state = .sweeping
  abandoned : s.swe.abandoning = true →
    s.swe.state = .stopped ∧ s.ctl.drainEnded = false ∧
      ((s.ctl.exchangeState = .running ∧ s.msu.windDown.isSome) ∨ s.ctl.exchangeState = .draining)
  closing : s.msu.offAtClose = true → s.ctl.exchangeState ≠ .running
  hold : ∀ o r, s.oru.hand = .holdWait o → s.station? o.station = some r → r.held = true

/-- The station records: a verified one is ONLINE, SUSPECT or OFFLINE, and one that is not is UNKNOWN, OFFLINE or MISMATCH
(R4); read_cursor is below slot_count (R22). The station of an open FETCH or STORE is verified, and that of an open QUERY is
not (R9). -/
structure State.RecordsSound (s : State) : Prop where
  verified : ∀ r ∈ s.stations, r.verified = true → r.health = .online ∨ r.health = .suspect ∨ r.health = .offline
  unverified : ∀ r ∈ s.stations, r.verified = false → r.health = .unknown ∨ r.health = .offline ∨ r.health = .mismatch
  cursor : ∀ r ∈ s.stations, r.readCursor < r.slotCount
  reads : ∀ x, s.exu.exchange = some x → x.verb = .fetch ∨ x.verb = .store →
    ∃ r, s.station? x.address = some r ∧ r.verified = true
  queries : ∀ x, s.exu.exchange = some x → x.verb = .query →
    ∃ r, s.station? x.address = some r ∧ r.verified = false

/-- Holds: a record is held only for the order in HOLD_WAIT that names its station, so at most one is (R8); no order waits so in
HALTED or FAULTED, or once the drain has ended (R155, R156, R185). At most one result of the completion list is that of the order
in hand, and the hand is then in STAGE_WAIT (R134, R135). -/
structure State.HoldsSound (s : State) : Prop where
  phases : s.Phases
  held : ∀ r ∈ s.stations, r.held = true → ∃ o, s.oru.hand = .holdWait o ∧ o.station = r.address
  quiet : s.ctl.exchangeState = .halted ∨ s.ctl.exchangeState = .faulted ∨ s.ctl.drainEnded = true →
    ∀ o, s.oru.hand ≠ .holdWait o
  once : (s.oru.completion.filter (fun c => c.fromHand)).length ≤ 1
  waits : ∀ c ∈ s.oru.completion, c.fromHand = true → ∃ o, s.oru.hand = .stageWait o

/-- The rings (R160): results_written is at most the Result Ring size past results_released, and less while a record, or the bulk
data ahead of it, is being written; the orders posted and not yet taken are at most the Order Ring size, and an order fetch takes
no more than they. -/
structure State.RingsSound (s : State) : Prop where
  results : (s.rpu.resultsWritten - s.xpt.hostBlock.resultsReleased).toNat ≤ s.dir.resultSize
  bulk : ∀ address data, s.rpu.writePath = some (.bulk address data) →
    (s.rpu.resultsWritten - s.xpt.hostBlock.resultsReleased).toNat < s.dir.resultSize
  record : ∀ address data, s.rpu.writePath = some (.record address data) →
    (s.rpu.resultsWritten - s.xpt.hostBlock.resultsReleased).toNat < s.dir.resultSize
  orders : (s.xpt.hostBlock.ordersPosted - s.xpt.ordersTaken).toNat ≤ s.dir.orderSize
  fetch : ∀ address k, s.xpt.readPath = some (.orderFetch address k) →
    k ≤ (s.xpt.hostBlock.ordersPosted - s.xpt.ordersTaken).toNat

/-! ### Words in which the statements speak -/

/-- The Order Unit takes the order `o` of kind `k` in hand in RUNNING (R133). -/
structure State.Takes (s : State) (o : Order) (k : OrderKind) : Prop where
  running : s.ctl.exchangeState = .running
  hand : s.oru.hand = .empty
  completion : s.oru.completion = []
  head : s.oru.cache.head? = some o
  kind : o.kind? = some k

/-- The state after the order `o`, taken from the head of the cache, has completed: its result stands in the
completion list and the hand is in STAGE_WAIT (R134, R135). -/
def State.finished (s : State) (o : Order) (outcome : OrderOutcome) (detail : Nat) (entries : Entries) : State :=
  { s with
    oru.cache := s.oru.cache.tail
    oru.hand := .stageWait o
    oru.completion := [{ fromHand := true, result := o.result outcome detail entries }] }

/-- The Order Unit after an entry has left the Bus Queue, which then holds `queue`, and its result has joined the
completion list: an order in QUEUE_WAIT joins the queue in the same step (R143), and a MARKER in MARKER_WAIT ends if the
queue is empty, ABANDONED in a drain and DONE otherwise (R153, R155). -/
def OrderUnit.leaves (u : OrderUnit) (draining : Bool) (queue : List BusEntry) (result : OrderResult) : OrderUnit :=
  let v : OrderUnit :=
    { u with busQueue := queue, completion := u.completion ++ [{ fromHand := false, result := result }] }
  match u.hand with
  | .queueWait o =>
    { v with
      hand := .empty
      busQueue := queue ++
        [{ order := o, exchangeOpen := false, nextInstance := 0, gathered := [], good := 0, busy := 0, refused := 0
           miss := 0 }] }
  | .markerWait o =>
    if queue.isEmpty then
      { v with
        hand := .stageWait o
        completion := v.completion ++
          [{ fromHand := true, result := o.result (if draining then .abandoned else .done) 0 (.values []) }] }
    else v
  | .empty => v
  | .holdWait _ => v
  | .claimDeferred _ => v
  | .claimStaging _ => v
  | .yieldStaging _ => v
  | .stageWait _ => v

/-- The Bus Queue entry whose exchange is open is `e`, behind `front` and before `back` (R144). -/
structure State.OpenEntry (s : State) (front : List BusEntry) (e : BusEntry) (back : List BusEntry) : Prop where
  queue : s.oru.busQueue = front ++ e :: back
  exchange : e.exchangeOpen = true
  closed : ∀ f ∈ front, f.exchangeOpen = false

/-- The Order Unit after the entry `e`, which stands between `front` and `back`, has closed an exchange and has another
to make: in a drain it ends ABANDONED, outside ACTIVE it ends NOT_ACTIVE, and otherwise it claims again (R120, R145,
R149, R155). That the drain is tested first, whatever the role was as it began, is the model's choice (log entry 37). -/
def State.entryGoesOn (s : State) (front : List BusEntry) (e : BusEntry) (back : List BusEntry) : OrderUnit :=
  if s.ctl.exchangeState = .draining then s.oru.leaves true (front ++ back) (e.result .abandoned)
  else if s.msu.role ≠ .active then s.oru.leaves false (front ++ back) (e.result .notActive)
  else { s.oru with busQueue := front ++ { e with exchangeOpen := false } :: back }

/-- The Order Unit after the entry `e`, which stands between `front` and `back`, has ended with an outcome (R144). -/
def State.entryEnds (s : State) (front : List BusEntry) (e : BusEntry) (back : List BusEntry)
    (outcome : OrderOutcome) : OrderUnit :=
  s.oru.leaves (decide (s.ctl.exchangeState = .draining)) (front ++ back) (e.result outcome)

/-- The Mastership Unit as the close of an exchange leaves it: in a drain that waited for the close the role becomes OFF
(R123), and in FAULTED a wind-down is over (R121). -/
def State.mastershipAtClose (s : State) : Mastership :=
  let m : Mastership := if s.msu.offAtClose then { s.msu with role := .off, offAtClose := false } else s.msu
  if s.ctl.exchangeState = .faulted then { m with windDown := none } else m

/-- An entry of the scan list that a sweep polls: its station is enrolled, not held, and UNKNOWN, ONLINE or SUSPECT. -/
def State.Polls (s : State) (address : Nat) : Prop :=
  ∃ r, s.station? address = some r ∧ r.held = false ∧
    (r.health = .unknown ∨ r.health = .online ∨ r.health = .suspect)

/-- The Sweep Engine STOPPED with its cursor at the start of the list, every mark clear and the period timer stopped; the
lists and counts stay (R55, R64). -/
def SweepEngine.stopped (e : SweepEngine) : SweepEngine :=
  { e with
    state := .stopped, cursor := 0, periodTimer := false, startDue := false, late := false, claim := none
    firstPoll := false, endWait := false, abandoning := false }

/-- The SWEEP result of a sweep that is abandoned (R62, R64). -/
def SweepEngine.abandoned (e : SweepEngine) : Result :=
  .sweep { number := e.sweepNumber, polls := e.polls, skipped := e.skipped, misses := e.misses, late := e.late
           abandoned := true }

/-- The field bytes of a request lie in their defined sets and have the length that its verb and count give (R72, R74,
R191): bit 7 of byte 0 is 0, its other bits the address; byte 1 is the tag, the verb and the count; a STORE carries `count`
values and no other request any. -/
def soundRequest (fields : List Byte) : Prop :=
  let address := (byteAt fields 0).toNat
  let verb := (byteAt fields 1).toNat / 16 % 8
  let count := (byteAt fields 1).toNat % 16
  1 ≤ address ∧ address ≤ 127 ∧ 1 ≤ verb ∧ verb ≤ 5 ∧ (address = 126 → verb = 4) ∧ (address = 127 ↔ verb = 5) ∧
    (verb = 1 ∨ verb = 2 → 1 ≤ count ∧ count ≤ 8) ∧ fields.length = 3 + if verb = 2 then 4 * count else 0

/-- The field bytes of a reply lie in their defined sets and have the length that its verb echo, class and count give (R73,
R74, R191): bit 7 of byte 0 is 1, its other bits the address; byte 1 is the verb echo, the class and the sequence; byte 2 is
the count and byte 3 the condition; a GOOD reply to FETCH carries `count` values, one to QUERY the kind code and a channel
count of 1 to 32, and any other no body. -/
def soundReply (fields : List Byte) : Prop :=
  let address := (byteAt fields 0).toNat - 128
  let verb := (byteAt fields 1).toNat / 32
  let cls := (byteAt fields 1).toNat / 8 % 4
  let count := (byteAt fields 2).toNat
  let channels := (byteAt fields 5).toNat
  128 ≤ (byteAt fields 0).toNat ∧ 1 ≤ address ∧ address ≤ 125 ∧ 1 ≤ verb ∧ verb ≤ 3 ∧ 1 ≤ cls ∧ 1 ≤ count ∧ count ≤ 8 ∧
    (cls = 1 → verb = 3 → 1 ≤ channels ∧ channels ≤ 32) ∧
    fields.length = 4 + if cls = 1 ∧ verb = 1 then 4 * count else if cls = 1 ∧ verb = 3 then 2 else 0

/-- The exchange state is RUNNING or DRAINING. -/
def State.Hosting (s : State) : Prop := s.ctl.exchangeState = .running ∨ s.ctl.exchangeState = .draining

/-- A START refused with a cause (R182): the device stays HALTED and everything else stays as it was. -/
def State.startRefusedWith (s : State) (cause : FaultCause) : State :=
  { s with
    ctl.start := none, ctl.faultCause := cause, ctl.startRefused := true, xpt.readPath := none }

/-- What entry to FAULTED leaves (R186, R65, R122, R156): host access stopped, Staging and the Order Unit's work
discarded, the sweep ended, the timers stopped, the role LISTEN if it was ACTIVE in RUNNING; the tables, lists,
counts, tag and last-read values kept. -/
structure State.FaultedFrom (t s : State) (cause : FaultCause) : Prop where
  state : t.ctl.exchangeState = .faulted
  cause : t.ctl.faultCause = cause
  intN : t.intN = true
  paths : t.xpt.readPath = none ∧ t.rpu.writePath = none
  staging : t.rpu.staging = []
  orders : t.oru = { cache := [], hand := .empty, busQueue := [], completion := [] }
  sweep : t.swe.state = .stopped ∧ t.swe.cursor = 0 ∧ t.swe.claim = none ∧ t.swe.late = false ∧
    t.swe.startDue = false ∧ t.swe.periodTimer = false
  timers : t.xpt.lookTimer = false ∧ t.rpu.holdTimer = false ∧ t.rpu.bulkWaitTimer = false ∧
    t.rpu.attention = .stopped ∧ t.ctl.drainTimer = false ∧ t.msu.takeoverTimer = false ∧
    t.msu.markTimer = false ∧ t.msu.markClaim = false
  role : t.msu.role = if s.ctl.exchangeState = .running ∧ s.msu.role = .active then .listen else s.msu.role
  exchange : t.exu.exchange = s.exu.exchange.map (fun x => { x with noRetry := true })
  held : t.stations = s.stations.map (fun r => { r with held := false })
  kept : t.points = s.points ∧ t.lanes = s.lanes ∧ t.bar = s.bar ∧ t.pending = s.pending
  lists : t.swe.active = s.swe.active ∧ t.swe.pendingList = s.swe.pendingList ∧
    t.swe.pendingReady = s.swe.pendingReady ∧ t.swe.sweepCount = s.swe.sweepCount ∧
    t.swe.overrunCount = s.swe.overrunCount
  counts : t.xpt.directory = s.xpt.directory ∧ t.xpt.ordersTaken = s.xpt.ordersTaken ∧
    t.xpt.bulkTaken = s.xpt.bulkTaken ∧ t.xpt.hostBlock = s.xpt.hostBlock ∧
    t.rpu.resultsWritten = s.rpu.resultsWritten ∧ t.rpu.lastTag = s.rpu.lastTag ∧
    t.ctl.dropped = s.ctl.dropped ∧ t.ctl.areaLo = s.ctl.areaLo ∧ t.ctl.areaHi = s.ctl.areaHi
  mastership : t.msu.shift = s.msu.shift ∧ t.msu.contestCount = s.msu.contestCount

end Sys2Proof.Machine
end

