-- ==== Sys2Proof/Certificates/Slice0/Obligations.lean ====
section
/-! DEFINITION. The statements about the JVR316 for the provers. A statement whose conclusion is
`exec c s = .next …` says that the command completes, what it writes, and, by naming the whole next state, that
everything else stays; `State.settle` is what follows at once from the changed levels (SettleBringsLevelsUpToDate). -/

section

open Sys2Proof Sys2Proof.Machine

/-! ### The machine -/

/-- With a command at the front of the queue, a step is that command's effect on the state with the queue's rest; on an
empty queue the block idles (log entry 1). -/
def Obligations.StepRunsTheFrontCommand : Prop :=
  (∀ (c : Instr) (s : State), step (s.withPending (c :: s.pending)) = exec c s) ∧
    (∀ s : State, s.pending = [] → step s = .next s)

/-- Every well-formed command is taken: it answers a next state in every state, with the rest of the queue as it was, provided
that the data of a completed order fetch are those of the fetch in progress. That a command whose conditions do not hold
changes nothing is the model's choice (log entry 2), and so is the refusal of one that is not well formed (log entry 3). -/
def Obligations.WellFormedCommandsAreTaken : Prop :=
  ∀ (c : Instr) (s : State), c.wellFormed = true →
    (∀ data address k, c = .orderFetchDone data → s.xpt.readPath = some (.orderFetch address k) →
      data.length = 32 * k) →
    ∃ t, exec c s = .next t ∧ t.pending = s.pending

/-- The levels that follow a step at once (R168, R174, R178), and nothing else: the head of Staging settled inline-only
where no buffer can come, the bulk-wait timer running exactly while the head waits for one, a Report Block write due, and
the attention timer, which starts as its condition begins, runs on and stays expired while the condition holds, and is
stopped once it has ended. Every other field stays. That the levels are brought up to date within the step that moves them
is log entry 20 (DEDUCED). -/
def Obligations.SettleBringsLevelsUpToDate : Prop :=
  ∀ s : State,
    let waits : Prop :=
      (∃ r rest, s.rpu.staging = r :: rest ∧ r.room < r.entries.each.length) ∧ s.rpu.head = .unsettled
    let available : Prop := s.dir.supplySize ≠ 0 ∧ s.xpt.bulkTaken ≠ s.xpt.hostBlock.bulkPosted
    let attention : Prop :=
      (s.ctl.exchangeState = .running ∧ s.rpu.lastTag ≠ s.xpt.hostBlock.tagSeen) ∨
        (s.Hosting ∧ s.rpu.staging ≠ [] ∧
          s.dir.resultSize ≤ (s.rpu.resultsWritten - s.xpt.hostBlock.resultsReleased).toNat)
    ((s.headNeedsBuffer = true ↔ waits) ∧ (s.supplyAvailable = true ↔ available) ∧
      (s.attentionCondition = true ↔ attention)) ∧
    (∃ head bulkWaitTimer reportDue attention,
      s.settle =
        { s with
          rpu.head := head, rpu.bulkWaitTimer := bulkWaitTimer, rpu.reportDue := reportDue
          rpu.attention := attention }) ∧
    (s.settle.rpu.head =
      if s.headNeedsBuffer = true ∧ s.supplyAvailable = false ∧ (s.dir.supplySize = 0 ∨ s.dir.bulkWait = 0) then
        .inlineOnly false
      else s.rpu.head) ∧
    (s.settle.rpu.bulkWaitTimer = true ↔ waits ∧ ¬ available ∧ s.dir.supplySize ≠ 0 ∧ s.dir.bulkWait ≠ 0) ∧
    (s.settle.rpu.reportDue = true ↔
      s.rpu.reportDue = true ∨
        (s.Hosting ∧ s.dir.reportHold = 0 ∧ s.rpu.changed = true ∧ s.rpu.staging = [] ∧ s.rpu.writePath = none)) ∧
    (¬ attention ∨ s.dir.attentionTime = 0 → s.settle.rpu.attention = .stopped) ∧
    (attention → s.dir.attentionTime ≠ 0 →
      (s.rpu.attention = .stopped → s.settle.rpu.attention = .running) ∧
      (s.rpu.attention ≠ .stopped → s.settle.rpu.attention = s.rpu.attention))

/-! ### Registers, start and stop -/

/-- Power-on, the reset pin and RESET complete: every part takes its reset value, RESET keeping the area registers, and
the reset values are those the chapters give (R188); the few that no chapter gives are the model's choice (log entry 11). -/
def Obligations.ResetAbandonsAllWork : Prop :=
  (∀ s : State,
    exec .powerOn s = .next (State.reset.withPending s.pending) ∧
    exec .resetPin s = .next (State.reset.withPending s.pending) ∧
    exec .reset s =
      .next
        { State.reset.withPending s.pending with
          ctl := { State.reset.ctl with areaLo := s.ctl.areaLo, areaHi := s.ctl.areaHi } }) ∧
  (State.reset.stations = [] ∧ (∀ slot, State.reset.point slot = Point.default) ∧
    State.reset.swe.active = [] ∧ State.reset.swe.pendingList = [] ∧ State.reset.swe.pendingReady = false ∧
    State.reset.swe.state = .stopped ∧ State.reset.swe.sweepCount = 0 ∧ State.reset.swe.overrunCount = 0 ∧
    State.reset.exu.exchange = none ∧ State.reset.exu.seqCounter = 0 ∧ State.reset.exu.overheard = none ∧
    State.reset.oru = { cache := [], hand := .empty, busQueue := [], completion := [] } ∧
    State.reset.rpu.staging = [] ∧ State.reset.rpu.resultsWritten = 0 ∧ State.reset.rpu.lastTag = 0 ∧
    State.reset.rpu.events = EventSummary.clear ∧ State.reset.rpu.writePath = none ∧
    State.reset.xpt.ordersTaken = 0 ∧ State.reset.xpt.bulkTaken = 0 ∧ State.reset.xpt.readPath = none ∧
    State.reset.xpt.readWanted = false ∧ State.reset.xpt.lookTimer = false ∧ State.reset.xpt.directory = none ∧
    State.reset.msu = Mastership.reset ∧ State.reset.msu.role = .off ∧ State.reset.msu.contestCount = 0 ∧
    State.reset.lanes.a = LaneController.reset ∧ State.reset.lanes.b = LaneController.reset ∧
    LaneController.reset.up = true ∧ LaneController.reset.faults = 0 ∧ LaneController.reset.tx = .idle ∧
    LaneController.reset.rx = .off ∧ LaneController.reset.sent = 0 ∧ LaneController.reset.damaged = 0 ∧
    State.reset.lanes.silentWindows = 0 ∧ State.reset.lanes.disagreements = 0 ∧
    State.reset.msu.shift = 0 ∧ State.reset.msu.takeoverTimer = false ∧ State.reset.msu.markTimer = false ∧
    State.reset.msu.markClaim = false ∧ State.reset.msu.windDown = none ∧ State.reset.msu.roleDue = [] ∧
    State.reset.xpt.hostBlock = { ordersPosted := 0, resultsReleased := 0, bulkPosted := 0, tagSeen := 0 } ∧
    State.reset.ctl.dropped = 0 ∧ State.reset.ctl.drainTimer = false ∧ State.reset.ctl.drainExpired = false ∧
    State.reset.ctl.drainEnded = false ∧ State.reset.swe.periodTimer = false ∧ State.reset.swe.startDue = false ∧
    State.reset.swe.late = false ∧ State.reset.swe.claim = none ∧ State.reset.swe.cursor = 0 ∧
    State.reset.rpu.holdTimer = false ∧ State.reset.rpu.bulkWaitTimer = false ∧
    State.reset.rpu.attention = .stopped ∧ State.reset.rpu.recordsSinceReport = 0 ∧
    State.reset.rpu.reportDue = false ∧ State.reset.rpu.changed = false ∧ State.reset.bar.reserved = 0 ∧
    State.reset.bar.token = .sweepEngine ∧ State.reset.ctl.exchangeState = .halted ∧
    State.reset.ctl.faultCause = .none ∧ State.reset.ctl.startRefused = false ∧ State.reset.ctl.start = none ∧
    State.reset.ctl.areaLo = 0 ∧ State.reset.ctl.areaHi = 0 ∧ State.reset.intN = false)

/-- What the six registers read as (R179, R180, section 10.1).
The area registers are taken in HALTED with no START in progress, the low 12 bits of AREA_LO discarded, and ignored in
every other case; a write to IDENT or STATE, or of an undefined value to RUN, changes nothing (R179). -/
def Obligations.RegisterWindow : Prop :=
  (∀ s : State,
      s.readRegister .ident = 0x4A02#32 ∧ s.readRegister .run = 0 ∧ s.readRegister .nudge = 0 ∧
      s.readRegister .areaLo = s.ctl.areaLo ∧ s.readRegister .areaHi = s.ctl.areaHi ∧
      ((s.readRegister .state).extractLsb' 0 2).toNat =
        (match s.ctl.exchangeState with
          | .halted => 0
          | .running => 1
          | .draining => 2
          | .faulted => 3) ∧
      ((s.readRegister .state).extractLsb' 2 2).toNat =
        (match s.msu.role with
          | .off => 0
          | .listen => 1
          | .active => 2) ∧
      ((s.readRegister .state).extractLsb' 4 3).toNat =
        (match s.ctl.faultCause with
          | .none => 0
          | .accessError => 1
          | .countError => 2
          | .directoryError => 3) ∧
      (s.readRegister .state).getLsbD 7 = false ∧
      (s.readRegister .state).getLsbD 8 = s.intN ∧
      (s.readRegister .state).getLsbD 9 = s.ctl.startRefused ∧
      (s.readRegister .state).extractLsb' 10 22 = 0) ∧
  (∀ (s : State) (value : Word),
      (s.ctl.exchangeState = .halted → s.ctl.start = none →
        exec (.areaLoWrite value) s = .next { s with ctl.areaLo := value &&& 0xFFFFF000#32 } ∧
        exec (.areaHiWrite value) s = .next { s with ctl.areaHi := value }) ∧
      (s.ctl.exchangeState ≠ .halted ∨ s.ctl.start ≠ none →
        exec (.areaLoWrite value) s = .next s ∧ exec (.areaHiWrite value) s = .next s) ∧
      exec (.registerWriteIgnored .ident value) s = .next s ∧
      exec (.registerWriteIgnored .state value) s = .next s ∧
      (value ≠ 1 → value ≠ 2 → value ≠ 3 → exec (.registerWriteIgnored .run value) s = .next s))

/-- INT_N is asserted exactly when the exchange state is FAULTED, or RUNNING or DRAINING with the last written tag
different from the tag_seen last read (R177). -/
def Obligations.InterruptLine : Prop :=
  ∀ s : State,
    s.intN = true ↔
      s.ctl.exchangeState = .faulted ∨
        ((s.ctl.exchangeState = .running ∨ s.ctl.exchangeState = .draining) ∧
          s.rpu.lastTag ≠ s.xpt.hostBlock.tagSeen)

/-- START begins in HALTED with no START in progress: the area base is taken, the cause and START_REFUSED clear, and the
Directory read of the area base begins; otherwise it is ignored (R181, R182).
DIRECTORY_READ_DONE of a START: a Directory that fails a test refuses the START with DIRECTORY_ERROR; one that passes
is kept for the START, and the Host Block read begins (R182, R183).
Which Directories pass: exactly those whose codes are defined and whose settings lie in the ranges and alignments of
R159.
Which bytes are which setting (section 10.2), with the codes of the bit rate, the lane mode, the master tag, start_role,
listen_learn and sweep_results; every field of several bytes has its least significant byte first. -/
def Obligations.StartReadsAndTestsTheDirectory : Prop :=
  (∀ s : State,
      (s.ctl.exchangeState = .halted → s.ctl.start = none →
        exec .start s =
          .next
            { s with
              ctl.faultCause := .none, ctl.startRefused := false
              ctl.start := some { base := s.ctl.areaHi ++ s.ctl.areaLo, directory := none }
              xpt.readPath := some (.directory (s.ctl.areaHi ++ s.ctl.areaLo)) }) ∧
      (s.ctl.exchangeState ≠ .halted ∨ s.ctl.start ≠ none → exec .start s = .next s)) ∧
  (∀ (s : State) (p : StartProgress) (address : Quad) (data : List Byte),
      s.ctl.start = some p → s.xpt.readPath = some (.directory address) → data.length = 64 →
      (parseDirectory data = none →
        exec (.directoryReadDone data) s = .next (s.startRefusedWith .directoryError)) ∧
      (∀ d, parseDirectory data = some d →
        exec (.directoryReadDone data) s =
          .next
            { s with
              ctl.start := some { p with directory := some d }
              xpt.readPath := some (.startHostBlock (p.base + 64)) })) ∧
  (∀ data : List Byte, data.length = 64 →
      ((parseDirectory data).isSome ↔
        leNat data 0 8 % 32 = 0 ∧ leNat data 8 8 % 32 = 0 ∧ leNat data 16 8 % 16 = 0 ∧
        leNat data 24 2 ∈ [16, 32, 64, 128, 256, 512, 1024] ∧ leNat data 26 2 ∈ [16, 32, 64, 128, 256, 512, 1024] ∧
        leNat data 28 2 ∈ [0, 8, 16, 32, 64, 128, 256] ∧ leNat data 30 2 ≤ 1000 ∧ leNat data 32 2 ≤ 60000 ∧
        (20 ≤ leNat data 34 2 ∧ leNat data 34 2 ≤ 2000) ∧ (10 ≤ leNat data 36 2 ∧ leNat data 36 2 ≤ 5000) ∧
        (2 ≤ leNat data 38 2 ∧ leNat data 38 2 ≤ 1250) ∧ leNat data 38 2 * 4 ≤ leNat data 36 2 ∧
        (leNat data 40 2 = 0 ∨ (10 ≤ leNat data 40 2 ∧ leNat data 40 2 ≤ 10000)) ∧
        (1 ≤ leNat data 42 2 ∧ leNat data 42 2 ≤ 1000) ∧ (1 ≤ leNat data 44 1 ∧ leNat data 44 1 ≤ 64) ∧
        leNat data 45 1 ≤ 100 ∧ leNat data 46 1 ≤ 100 ∧ (1 ≤ leNat data 47 1 ∧ leNat data 47 1 ≤ 8) ∧
        (1 ≤ leNat data 48 1 ∧ leNat data 48 1 ≤ 15) ∧ leNat data 49 1 ≤ 2 ∧ leNat data 50 1 ≤ 3 ∧
        leNat data 51 1 ≤ 1 ∧ leNat data 52 1 ≤ 1 ∧ leNat data 53 1 ≤ 1 ∧ leNat data 54 1 ≤ 1)) ∧
  (∀ (data : List Byte) (d : Directory), data.length = 64 → parseDirectory data = some d →
      d.orderRing.toNat = leNat data 0 8 ∧ d.resultRing.toNat = leNat data 8 8 ∧
      d.supplyRing.toNat = leNat data 16 8 ∧ d.orderSize = leNat data 24 2 ∧ d.resultSize = leNat data 26 2 ∧
      d.supplySize = leNat data 28 2 ∧ d.lookInterval = leNat data 30 2 ∧ d.sweepPeriod = leNat data 32 2 ∧
      d.replyWindow = leNat data 34 2 ∧ d.takeoverBase = leNat data 36 2 ∧ d.markInterval = leNat data 38 2 ∧
      d.attentionTime = leNat data 40 2 ∧ d.drainTime = leNat data 42 2 ∧ d.reportCount = leNat data 44 1 ∧
      d.reportHold = leNat data 45 1 ∧ d.bulkWait = leNat data 46 1 ∧ d.refillThreshold = leNat data 47 1 ∧
      d.laneFaultLimit = leNat data 48 1 ∧
      [BitRate.kbit125, .kbit250, .kbit500][leNat data 49 1]? = some d.bitRate ∧
      [LaneMode.mirror, .alternate, .singleA, .singleB][leNat data 50 1]? = some d.laneMode ∧
      d.masterTag.toNat = leNat data 51 1 ∧ [Role.listen, .active][leNat data 52 1]? = some d.startRole ∧
      [false, true][leNat data 53 1]? = some d.listenLearn ∧
      [false, true][leNat data 54 1]? = some d.sweepResults) ∧
  (∀ (data : List Byte) (offset n : Nat),
      leNat data offset 0 = 0 ∧
      leNat data offset (n + 1) = (byteAt data offset).toNat + 256 * leNat data (offset + 1) n ∧
      (∀ b, data[offset]? = some b → byteAt data offset = b) ∧ (leWord data offset).toNat = leNat data offset 4 ∧
      (leQuad data offset).toNat = leNat data offset 8)

/-- START_HOST_BLOCK_READ_DONE of a START: counts that fail a test refuse the START with COUNT_ERROR (R183).
START_HOST_BLOCK_READ_DONE of a START whose counts pass: the device is RUNNING, with the values of R183 and R110, and
the tables, lists, sweep counts, lane counters, contest count, sequence counter and area registers kept.
The settings in force are those of the Directory copy (R159). -/
def Obligations.StartTestsTheCountsAndRuns : Prop :=
  (∀ (s : State) (base address : Quad) (d : Directory) (data : List Byte),
      s.ctl.start = some { base := base, directory := some d } → s.xpt.readPath = some (.startHostBlock address) →
      data.length = 16 →
      (d.orderSize < leNat data 0 4 ∨ leNat data 4 4 ≠ 0 ∨ d.supplySize < leNat data 8 4) →
      exec (.startHostBlockReadDone data) s = .next (s.startRefusedWith .countError)) ∧
  (∀ (s : State) (base address : Quad) (d : Directory) (data : List Byte),
      s.ctl.start = some { base := base, directory := some d } → s.xpt.readPath = some (.startHostBlock address) →
      data.length = 16 → leNat data 0 4 ≤ d.orderSize → leNat data 4 4 = 0 → leNat data 8 4 ≤ d.supplySize →
      (d.startRole = .listen ∨ d.startRole = .active) →
      ∃ t, exec (.startHostBlockReadDone data) s = .next t ∧
        t.ctl.exchangeState = .running ∧ t.ctl.start = none ∧ t.ctl.areaBase = base ∧ t.ctl.dropped = 0 ∧
        t.xpt.directory = some d ∧ t.xpt.ordersTaken = 0 ∧ t.xpt.bulkTaken = 0 ∧
        t.xpt.hostBlock =
          { ordersPosted := leWord data 0, resultsReleased := leWord data 4, bulkPosted := leWord data 8
            tagSeen := byteAt data 12 } ∧
        t.xpt.lookTimer = decide (d.lookInterval ≠ 0) ∧ t.xpt.readPath = none ∧
        t.rpu.resultsWritten = 0 ∧ t.rpu.lastTag = 0 ∧ t.rpu.recordsSinceReport = 0 ∧
        t.rpu.events = EventSummary.clear ∧ t.rpu.staging = [] ∧
        t.oru = { cache := [], hand := .empty, busQueue := [], completion := [] } ∧
        (∀ lane, (t.lanes.get lane).up = true ∧ (t.lanes.get lane).faults = 0 ∧
          (t.lanes.get lane).sent = (s.lanes.get lane).sent ∧
          (t.lanes.get lane).damaged = (s.lanes.get lane).damaged) ∧
        t.lanes.silentWindows = s.lanes.silentWindows ∧ t.lanes.disagreements = s.lanes.disagreements ∧
        t.bar.token = .sweepEngine ∧ t.msu.role = d.startRole ∧ t.msu.shift = 0 ∧
        t.msu.contestCount = s.msu.contestCount ∧ t.msu.takeoverTimer = decide (d.startRole = .listen) ∧
        t.msu.markTimer = decide (d.startRole = .active) ∧ t.msu.markClaim = false ∧ t.msu.windDown = none ∧
        t.swe.state = (if d.startRole = .active then .idle else .stopped) ∧
        t.swe.startDue = decide (d.startRole = .active) ∧
        t.stations = s.stations ∧ t.points = s.points ∧ t.swe.active = s.swe.active ∧
        t.swe.pendingList = s.swe.pendingList ∧ t.swe.pendingReady = s.swe.pendingReady ∧
        t.swe.sweepCount = s.swe.sweepCount ∧ t.swe.overrunCount = s.swe.overrunCount ∧
        t.exu.seqCounter = s.exu.seqCounter ∧ t.exu.overheard = none ∧ t.ctl.areaLo = s.ctl.areaLo ∧
        t.ctl.areaHi = s.ctl.areaHi ∧ t.pending = s.pending) ∧
  (∀ (s : State) (d : Directory), s.xpt.directory = some d → s.dir = d)

/-- ACCESS_ERROR: of a START's read it refuses the START (R182, R183); in RUNNING or DRAINING, on either path, it takes the
device to FAULTED with cause ACCESS_ERROR (R171, R186); in FAULTED nothing changes. -/
def Obligations.AccessErrors : Prop :=
  ∀ (s : State) (path : AccessPath), s.Phases →
    (s.ctl.start.isSome → s.xpt.readPath.isSome →
      exec (.accessError .read) s = .next (s.startRefusedWith .accessError)) ∧
    (s.Hosting → (path = .read → s.xpt.readPath.isSome) → (path = .write → s.rpu.writePath.isSome) →
      ∃ t, exec (.accessError path) s = .next t ∧ t.FaultedFrom s .accessError) ∧
    (s.ctl.exchangeState = .faulted → exec (.accessError path) s = .next s)

/-- HALT in RUNNING begins the drain (R184): DRAINING, the drain timer running, the Sweep Engine STOPPED, the mastership
timers stopped, the role OFF unless an exchange is open, and every entry without an open exchange gone from the Bus
Queue; the Station and Point Tables' stations, points, lists and counts, Staging's results and the Order Cache stay. The
entries that leave end ABANDONED in queue order, and behind them the order in hand if it waits for a queue place, under a
hold (whose held mark clears) or for a wind-down, or is a MARKER and the queue is empty; any other order in hand stays
(R155).
HALT in FAULTED takes the device to HALTED at once: the exchange cut off, the role OFF, the overheard exchange
discarded, INT_N released, the cause, START_REFUSED, counts, tag, last-read values and tables kept (R187); in HALTED and
DRAINING it has no effect (R181). -/
def Obligations.HaltInEveryState : Prop :=
  (∀ s : State, s.ctl.exchangeState = .running →
      ∃ t, exec .halt s = .next t ∧
        t.ctl = { s.ctl with exchangeState := .draining, drainTimer := true } ∧
        t.swe.state = .stopped ∧ t.swe.active = s.swe.active ∧ t.swe.pendingList = s.swe.pendingList ∧
        t.swe.sweepCount = s.swe.sweepCount ∧ t.swe.overrunCount = s.swe.overrunCount ∧
        t.swe.pendingReady = s.swe.pendingReady ∧
        t.msu.takeoverTimer = false ∧ t.msu.markTimer = false ∧ t.msu.markClaim = false ∧
        t.msu.contestCount = s.msu.contestCount ∧ t.msu.shift = s.msu.shift ∧
        (s.exu.exchange = none → t.msu.role = .off ∧ t.exu.overheard = none) ∧
        (s.exu.exchange.isSome → t.msu.role = s.msu.role ∧ t.msu.offAtClose = true) ∧
        t.exu.exchange = s.exu.exchange.map (fun x => { x with noRetry := true }) ∧
        t.exu.seqCounter = s.exu.seqCounter ∧
        t.oru.cache = s.oru.cache ∧ t.oru.busQueue = s.oru.busQueue.filter (fun e => e.exchangeOpen) ∧
        (let ended := (s.oru.busQueue.filter (fun e => !e.exchangeOpen)).map
          (fun e => Completed.mk false (e.result .abandoned))
         let abandoned (o : Order) := Completed.mk true (o.result .abandoned 0 (.values []))
         let stays := t.oru.hand = s.oru.hand ∧ t.oru.completion = s.oru.completion ++ ended
         let ends (o : Order) :=
           t.oru.hand = .stageWait o ∧ t.oru.completion = s.oru.completion ++ ended ++ [abandoned o]
         match s.oru.hand with
          | .queueWait o => ends o
          | .holdWait o => ends o
          | .claimDeferred o => ends o
          | .markerWait o => if s.oru.busQueue.all (fun e => !e.exchangeOpen) then ends o else stays
          | .empty => stays
          | .claimStaging _ => stays
          | .yieldStaging _ => stays
          | .stageWait _ => stays) ∧
        (∀ o, s.oru.hand = .holdWait o →
          t.stations = s.stations.map (fun r => if r.address = o.station then { r with held := false } else r)) ∧
        ((∀ o, s.oru.hand ≠ .holdWait o) → t.stations = s.stations) ∧ t.points = s.points ∧
        t.xpt = s.xpt ∧ t.lanes = s.lanes ∧ t.bar = s.bar ∧ t.rpu.lastTag = s.rpu.lastTag ∧
        t.rpu.resultsWritten = s.rpu.resultsWritten ∧ t.rpu.writePath = s.rpu.writePath ∧
        (t.rpu.staging = s.rpu.staging ∨ ∃ w, t.rpu.staging = s.rpu.staging ++ [.sweep w] ∧ w.abandoned = true) ∧
        t.pending = s.pending) ∧
  (∀ s : State,
      (s.ctl.exchangeState = .faulted →
        ∃ t, exec .halt s = .next t ∧ t.ctl = { s.ctl with exchangeState := .halted } ∧
          t.exu = { s.exu with exchange := none, overheard := none } ∧ t.msu.role = .off ∧
          t.msu.shift = s.msu.shift ∧ t.msu.contestCount = s.msu.contestCount ∧ t.intN = false ∧
          t.lanes.a.tx = .idle ∧ t.lanes.b.tx = .idle ∧ t.stations = s.stations ∧ t.points = s.points ∧
          t.swe = s.swe ∧ t.xpt = s.xpt ∧ t.oru = s.oru ∧ t.rpu.staging = s.rpu.staging ∧
          t.rpu.resultsWritten = s.rpu.resultsWritten ∧ t.rpu.lastTag = s.rpu.lastTag ∧ t.pending = s.pending) ∧
      (s.ctl.exchangeState = .halted ∨ s.ctl.exchangeState = .draining → exec .halt s = .next s))

/-- DRAIN_TIMER_EXPIRY in DRAINING: the drain timer stops, an open exchange is cut off with no outcome and the role becomes
OFF; with no access in progress the drain ends at once, and otherwise the access is let complete (R185), and DRAIN_END
ends the drain once it has (log entry 24, DEDUCED). In both cases dropped is the sum of the results in Staging, the results
that wait (in the completion list, at the Sweep Engine and at the Mastership Unit), and the orders taken without a result
(in the cache, the hand and the Bus Queue); which results wait at the Sweep Engine, and that an order in hand that has
completed counts by its result alone, is log entry 25 (DEDUCED).
DRAIN_END with no access in progress and nothing left to do: dropped is 0 and the final Report Block falls due (R185).
Wherever a drain ends, the stations stay but for the held marks, which clear; the Point Table, the scan lists, sweep_count
and overrun_count, takeover_shift and the contest count, results_written, the tag, the event summary and the area registers
stay as they are. -/
def Obligations.TheDrainEnds : Prop :=
  (∀ s : State, s.ctl.exchangeState = .draining →
      let waiting :=
        s.oru.completion.length + (if s.swe.abandoning = true ∧ s.dir.sweepResults = true then 1 else 0) +
          s.msu.roleDue.length
      let inHand :=
        match s.oru.hand with
        | .empty => 0
        | .stageWait _ => 0
        | .queueWait _ => 1
        | .holdWait _ => 1
        | .markerWait _ => 1
        | .claimDeferred _ => 1
        | .claimStaging _ => 1
        | .yieldStaging _ => 1
      let sum := s.rpu.staging.length + waiting + (s.oru.cache.length + inHand + s.oru.busQueue.length)
      let kept (t : State) : Prop :=
        t.ctl.exchangeState = .draining ∧ t.ctl.drainTimer = false ∧ t.ctl.areaLo = s.ctl.areaLo ∧
          t.ctl.areaHi = s.ctl.areaHi ∧ t.ctl.areaBase = s.ctl.areaBase ∧ t.ctl.faultCause = s.ctl.faultCause ∧
          t.points = s.points ∧ t.xpt = s.xpt ∧ t.swe.active = s.swe.active ∧
          t.swe.pendingList = s.swe.pendingList ∧ t.swe.pendingReady = s.swe.pendingReady ∧
          t.swe.sweepCount = s.swe.sweepCount ∧ t.swe.overrunCount = s.swe.overrunCount ∧
          t.msu.shift = s.msu.shift ∧ t.msu.contestCount = s.msu.contestCount ∧
          t.exu.seqCounter = s.exu.seqCounter ∧ t.lanes.silentWindows = s.lanes.silentWindows ∧
          t.lanes.disagreements = s.lanes.disagreements ∧ t.rpu.writePath = s.rpu.writePath ∧
          t.rpu.resultsWritten = s.rpu.resultsWritten ∧ t.rpu.lastTag = s.rpu.lastTag ∧
          t.rpu.recordsSinceReport = s.rpu.recordsSinceReport ∧ t.rpu.events = s.rpu.events ∧ t.pending = s.pending
      let ended (t : State) : Prop :=
        t.ctl.drainExpired = false ∧ t.ctl.drainEnded = true ∧ t.rpu.reportDue = true ∧ t.rpu.staging = [] ∧
          t.rpu.head = .unsettled ∧ t.oru = { cache := [], hand := .empty, busQueue := [], completion := [] } ∧
          t.msu.roleDue = [] ∧ t.msu.windDown = none ∧ t.swe.state = .stopped ∧ t.swe.abandoning = false ∧
          t.stations = s.stations.map (fun r => { r with held := false })
      (s.ctl.drainTimer = true →
        ∃ t, exec .drainTimerExpiry s = .next t ∧ kept t ∧ t.exu.exchange = none ∧ t.exu.overheard = none ∧
          t.msu.role = .off ∧ t.bar.reserved = 0 ∧ t.bar.token = s.bar.token ∧
          (∀ lane, (t.lanes.get lane).tx = .idle ∧ (t.lanes.get lane).up = (s.lanes.get lane).up ∧
            (t.lanes.get lane).faults = (s.lanes.get lane).faults ∧
            (t.lanes.get lane).sent = (s.lanes.get lane).sent ∧
            (t.lanes.get lane).damaged = (s.lanes.get lane).damaged) ∧
          (s.xpt.readPath = none → s.rpu.writePath = none → ended t ∧ t.ctl.dropped = BitVec.ofNat 32 sum) ∧
          (s.xpt.readPath.isSome ∨ s.rpu.writePath.isSome →
            t.ctl.drainExpired = true ∧ t.ctl.drainEnded = s.ctl.drainEnded ∧ t.ctl.dropped = s.ctl.dropped ∧
              t.oru = s.oru ∧ t.rpu.staging = s.rpu.staging ∧ t.stations = s.stations ∧ t.swe = s.swe ∧
              t.msu.roleDue = s.msu.roleDue ∧ t.msu.windDown = s.msu.windDown)) ∧
      (s.ctl.drainEnded = false → s.xpt.readPath = none → s.rpu.writePath = none →
        (s.ctl.drainExpired = true →
          ∃ t, exec .drainEnd s = .next t ∧ kept t ∧ ended t ∧ t.ctl.dropped = BitVec.ofNat 32 sum ∧
            t.exu = s.exu ∧ t.lanes = s.lanes ∧ t.bar = s.bar ∧ t.msu.role = s.msu.role) ∧
        (s.exu.exchange = none → s.oru.cache = [] → s.oru.hand = .empty → s.oru.busQueue = [] →
          s.oru.completion = [] → s.swe.abandoning = false → s.msu.roleDue = [] → s.rpu.staging = [] →
          ∃ t, exec .drainEnd s = .next t ∧ kept t ∧ ended t ∧ t.ctl.dropped = 0 ∧ t.exu = s.exu ∧
            t.lanes = s.lanes ∧ t.bar = s.bar ∧ t.msu.role = s.msu.role)))

/-! ### Exchange Port -/

/-- NUDGE and the look timer set the read-wanted mark; a NUDGE in HALTED or FAULTED leaves no mark (R161).
The three reads begin when the read path is free, in the order Host Block, supply entry, order fetch (R162), each at
its address (R158, R161, R164, R167); while a read of higher rank is wanted, or another read is in progress, a supply entry
read and an order fetch do not begin. -/
def Obligations.HostReadsBegin : Prop :=
  (∀ (s : State) (value : Word),
      (s.Hosting → exec (.nudge value) s = .next { s with xpt.readWanted := true }) ∧
      (s.ctl.exchangeState = .halted ∨ s.ctl.exchangeState = .faulted → exec (.nudge value) s = .next s) ∧
      (s.xpt.lookTimer = true → exec .lookTimerExpiry s = .next { s with xpt.readWanted := true })) ∧
  (∀ s : State, s.Hosting → s.ctl.drainExpired = false → s.ctl.drainEnded = false → s.xpt.readPath = none →
      (s.xpt.readWanted = true →
        exec .hostBlockReadBegin s =
          .next
            ({ s with
                xpt.readWanted := false, xpt.readPath := some (.hostBlock (s.ctl.areaBase + 64)) } : State).settle) ∧
      (s.xpt.readWanted = false → s.headNeedsBuffer = true → s.supplyAvailable = true →
        exec .supplyEntryReadBegin s =
          .next
            ({ s with
                xpt.readPath := some (.supplyEntry
                  (s.dir.supplyRing + BitVec.ofNat 64 (s.xpt.bulkTaken.toNat % s.dir.supplySize * 16))) } :
              State).settle) ∧
      (s.xpt.readWanted = true → exec .supplyEntryReadBegin s = .next s ∧ exec .orderFetchBegin s = .next s) ∧
      (s.headNeedsBuffer = true → s.supplyAvailable = true → exec .orderFetchBegin s = .next s) ∧
      (s.xpt.readWanted = false → s.headNeedsBuffer = false ∨ s.supplyAvailable = false →
        s.ctl.exchangeState = .running → s.oru.cache.length < s.dir.refillThreshold → s.xpt.ordersTaken ≠ s.xpt.hostBlock.ordersPosted →
        exec .orderFetchBegin s =
          .next
            ({ s with
                xpt.readPath := some (.orderFetch
                  (s.dir.orderRing + BitVec.ofNat 64 (s.xpt.ordersTaken.toNat % s.dir.orderSize * 32))
                  (min (8 - s.oru.cache.length)
                    (min (s.xpt.hostBlock.ordersPosted - s.xpt.ordersTaken).toNat
                      (s.dir.orderSize - s.xpt.ordersTaken.toNat % s.dir.orderSize)))) } : State).settle)) ∧
  (∀ s : State, s.xpt.readPath.isSome →
      exec .hostBlockReadBegin s = .next s ∧ exec .supplyEntryReadBegin s = .next s ∧
      exec .orderFetchBegin s = .next s)

/-- HOST_BLOCK_READ_DONE in RUNNING or DRAINING: counts that pass the tests of R163 are taken together; any failure takes
the device to FAULTED with COUNT_ERROR and takes none of the four. The data of a read that an entry to FAULTED or a RESET
has abandoned, so that it is in progress no more, are discarded, and nothing is taken from them. -/
def Obligations.HostBlockReadIsTested : Prop :=
  (∀ (s : State) (address : Quad) (data : List Byte),
      s.Hosting → s.xpt.readPath = some (.hostBlock address) → data.length = 16 →
      let posted := leWord data 0
      let released := leWord data 4
      let bulk := leWord data 8
      let pass :=
        (posted - s.xpt.ordersTaken).toNat ≤ s.dir.orderSize ∧
        (released - s.xpt.hostBlock.resultsReleased).toNat ≤
          (s.rpu.resultsWritten - s.xpt.hostBlock.resultsReleased).toNat ∧
        (s.dir.supplySize ≠ 0 → (bulk - s.xpt.bulkTaken).toNat ≤ s.dir.supplySize) ∧
        (s.dir.supplySize = 0 → bulk = s.xpt.bulkTaken)
      (pass →
        exec (.hostBlockReadDone data) s =
          .next
            ({ s with
                xpt.readPath := none
                xpt.hostBlock :=
                  { ordersPosted := posted, resultsReleased := released, bulkPosted := bulk
                    tagSeen := byteAt data 12 } } : State).settle) ∧
      (¬ pass → ∃ t, exec (.hostBlockReadDone data) s = .next t ∧ t.FaultedFrom s .countError)) ∧
  (∀ (s : State) (data : List Byte), s.xpt.readPath = none → data.length = 16 →
      exec (.hostBlockReadDone data) s = .next s)

/-- ORDER_FETCH_DONE in RUNNING or DRAINING: the k orders join the tail of the Order Cache in ring order, orders_taken goes
up by k in the same step, and that is a change worth reporting (R164, R173).
With report_hold 0 that change makes a Report Block write fall due where Staging is empty and no write is in progress (R174;
that this comes within the step is log entry 20, DEDUCED), and the fetch makes none fall due otherwise.
An order record's fields (section 10.3): the bits of flags and repeat that the table does not name are ignored
(R189).
Which kind each code is (section 10.3, R130): 01h ENROL to 0Eh STATS; 00h and 0Fh to FFh are no kind. -/
def Obligations.OrdersAreFetched : Prop :=
  (∀ (s : State) (address : Quad) (k : Nat) (data : List Byte),
      s.Hosting → s.xpt.readPath = some (.orderFetch address k) → data.length = 32 * k →
      ∃ t, exec (.orderFetchDone data) s = .next t ∧
        t.oru =
          { s.oru with
            cache := s.oru.cache ++ (List.range k).map (fun i => parseOrder ((data.drop (32 * i)).take 32)) } ∧
        t.xpt = { s.xpt with ordersTaken := s.xpt.ordersTaken + BitVec.ofNat 32 k, readPath := none } ∧
        t.rpu.changed = true ∧ (s.rpu.changed = false → t.rpu.holdTimer = decide (0 < s.dir.reportHold)) ∧
        (s.rpu.changed = true → t.rpu.holdTimer = s.rpu.holdTimer) ∧
        (t.rpu.reportDue = true ↔
          s.rpu.reportDue = true ∨
            (s.dir.reportHold = 0 ∧ s.rpu.staging = [] ∧ s.rpu.writePath = none)) ∧
        t.rpu.recordsSinceReport = s.rpu.recordsSinceReport ∧
        t.rpu.staging = s.rpu.staging ∧ t.rpu.events = s.rpu.events ∧ t.rpu.resultsWritten = s.rpu.resultsWritten ∧
        t.rpu.lastTag = s.rpu.lastTag ∧ t.rpu.writePath = s.rpu.writePath ∧
        t.ctl = s.ctl ∧ t.stations = s.stations ∧ t.points = s.points ∧ t.swe = s.swe ∧ t.exu = s.exu ∧
        t.lanes = s.lanes ∧ t.bar = s.bar ∧ t.msu = s.msu ∧ t.pending = s.pending) ∧
  (∀ data : List Byte, data.length = 32 →
      let o := parseOrder data
      o.kind = byteAt data 0 ∧ (o.urgent = true ↔ leNat data 1 1 % 2 = 1) ∧
      (o.reportNow = true ↔ leNat data 1 1 / 2 % 2 = 1) ∧ o.orderId.toNat = leNat data 2 2 ∧
      o.repeats = leNat data 4 1 % 16 ∧ o.station = leNat data 5 1 ∧ o.first = leNat data 6 1 ∧
      o.count = leNat data 7 1 ∧ o.body.length = 20 ∧ (∀ i < 20, byteAt o.body i = byteAt data (12 + i))) ∧
  (∀ o : Order,
      let kinds : List OrderKind :=
        [.enrol, .retire, .shape, .scanBegin, .scanAdd, .scanCommit, .read, .write, .latch, .snap, .takeTotals, .role,
          .marker, .stats]
      (∀ k, o.kind? = some k ↔ 1 ≤ o.kind.toNat ∧ kinds[o.kind.toNat - 1]? = some k) ∧
      (o.kind? = none ↔ o.kind = 0x00#8 ∨ 0x0F ≤ o.kind.toNat))

/-- SUPPLY_ENTRY_READ_DONE in RUNNING or DRAINING: bulk_taken goes up by 1; an entry whose address is a multiple of 8 and
whose length lies in 64..4096 and is a multiple of 64 becomes the head's buffer, with the count before it; any other
settles the head inline-only with SUPPLY_BAD (R166, R167). -/
def Obligations.SupplyEntryIsTested : Prop :=
  ∀ (s : State) (address : Quad) (data : List Byte),
    s.Hosting → s.xpt.readPath = some (.supplyEntry address) → data.length = 16 →
    let valid :=
      leNat data 0 8 % 8 = 0 ∧ 64 ≤ leNat data 8 4 ∧ leNat data 8 4 ≤ 4096 ∧ leNat data 8 4 % 64 = 0
    (valid →
      exec (.supplyEntryReadDone data) s =
        .next
          ({ s with
              xpt.bulkTaken := s.xpt.bulkTaken + 1, xpt.readPath := none
              rpu.head := .buffer (leQuad data 0) (leNat data 8 4) s.xpt.bulkTaken } : State).settle) ∧
    (¬ valid →
      exec (.supplyEntryReadDone data) s =
        .next
          ({ s with
              xpt.bulkTaken := s.xpt.bulkTaken + 1, xpt.readPath := none
              rpu.head := .inlineOnly true } : State).settle)

/-! ### Report Unit -/

/-- The head of Staging is written when the Result Ring has room, the head needs no buffer or is settled, no write is in
progress and no report is due: with a buffer held its entries go into the buffer first, and otherwise its record goes
into the Result Ring slot of results_written (R158, R169).
BULK_WRITE_DONE: the record follows, with its bulk reference, into the slot of results_written (R169), whether or not a
Report Block has fallen due meanwhile (log entry 33, DESIGN CHOICE). -/
def Obligations.ResultsAreWritten : Prop :=
  (∀ (s : State) (r : Result) (rest : List Result),
      s.Hosting → s.ctl.drainExpired = false → s.ctl.drainEnded = false → s.rpu.staging = r :: rest →
      (s.rpu.resultsWritten - s.xpt.hostBlock.resultsReleased).toNat < s.dir.resultSize →
      s.headNeedsBuffer = false → s.rpu.writePath = none → s.rpu.reportDue = false →
      let slot := s.dir.resultRing + BitVec.ofNat 64 (s.rpu.resultsWritten.toNat % s.dir.resultSize * 32)
      (∀ address length count, s.rpu.head = .buffer address length count →
        exec .resultWriteBegin s =
          .next ({ s with rpu.writePath := some (.bulk address (r.entryBytes s.rpu.head)) } : State).settle) ∧
      (s.rpu.head.isBuffer = false →
        exec .resultWriteBegin s =
          .next ({ s with rpu.writePath := some (.record slot (r.record s.rpu.head)) } : State).settle)) ∧
  (∀ (s : State) (r : Result) (rest : List Result) (address : Quad) (data : List Byte),
      s.Hosting → s.ctl.drainExpired = false → s.ctl.drainEnded = false → s.rpu.staging = r :: rest →
      s.rpu.writePath = some (.bulk address data) →
      exec .bulkWriteDone s =
        .next
          ({ s with
              rpu.writePath := some
                (.record (s.dir.resultRing + BitVec.ofNat 64 (s.rpu.resultsWritten.toNat % s.dir.resultSize * 32))
                  (r.record s.rpu.head)) } : State).settle)

/-- RECORD_WRITE_DONE: results_written goes up by 1, the result leaves Staging and its buffer is released; a Report Block
write falls due for REPORT_NOW, at the report_count-th record, or, with report_hold 0, as Staging becomes empty, and for nothing
else, one that is due staying due; a truncated result sets TRUNCATE, and everything outside the Report Unit stays (R169, R170,
R173, R174, R176). No buffer is held for the new head and it is not settled, unless it needs
a buffer, none is available and it is settled inline-only at once; the bulk-wait timer runs for it exactly when it needs a
buffer that may still be posted (R166, R168; that this comes within the step is log entry 20, DEDUCED). -/
def Obligations.RecordWriteCompletes : Prop :=
  ∀ (s : State) (r : Result) (rest : List Result) (address : Quad) (data : List Byte),
    s.Hosting → s.rpu.staging = r :: rest → s.rpu.writePath = some (.record address data) →
    let needs : Bool := rest.head?.any (fun q => q.room < q.entries.each.length)
    let available : Prop := s.dir.supplySize ≠ 0 ∧ s.xpt.bulkTaken ≠ s.xpt.hostBlock.bulkPosted
    ∃ t, exec .recordWriteDone s = .next t ∧
      t.rpu.resultsWritten = s.rpu.resultsWritten + 1 ∧ t.rpu.staging = rest ∧ t.rpu.writePath = none ∧
      (needs = false ∨ available → t.rpu.head = .unsettled ∧ t.rpu.bulkWaitTimer = false) ∧
      (needs = true → ¬ available → s.dir.supplySize = 0 ∨ s.dir.bulkWait = 0 →
        t.rpu.head = .inlineOnly false ∧ t.rpu.bulkWaitTimer = false) ∧
      (needs = true → ¬ available → s.dir.supplySize ≠ 0 → s.dir.bulkWait ≠ 0 →
        t.rpu.head = .unsettled ∧ t.rpu.bulkWaitTimer = true) ∧
      t.rpu.recordsSinceReport = s.rpu.recordsSinceReport + 1 ∧ t.rpu.changed = true ∧
      (s.rpu.changed = false → t.rpu.holdTimer = decide (0 < s.dir.reportHold)) ∧
      (s.rpu.changed = true → t.rpu.holdTimer = s.rpu.holdTimer) ∧
      (t.rpu.reportDue = true ↔
        s.rpu.reportDue = true ∨ r.reportNow = true ∨ s.dir.reportCount ≤ s.rpu.recordsSinceReport + 1 ∨
          (s.dir.reportHold = 0 ∧ rest = [])) ∧
      t.rpu.events =
        (if r.truncated s.rpu.head = true then { s.rpu.events with truncate := true } else s.rpu.events) ∧
      t.rpu.lastTag = s.rpu.lastTag ∧ t.ctl = s.ctl ∧ t.xpt = s.xpt ∧ t.stations = s.stations ∧
      t.points = s.points ∧ t.swe = s.swe ∧ t.exu = s.exu ∧ t.lanes = s.lanes ∧ t.bar = s.bar ∧ t.msu = s.msu ∧
      t.oru = s.oru ∧ t.pending = s.pending

/-- REPORT_BLOCK_WRITE_BEGIN: a report that is due begins when no write is in progress: the block is taken as the state
stands, the new tag is formed, the event summary is cleared, the hold timer stops and the record count returns to 0
(R172, R173, R175, R176).
The 32 bytes of a Report Block, field by field (section 10.2, R172, R175, R20). -/
def Obligations.ReportBlockIsTaken : Prop :=
  (∀ s : State, s.Hosting → s.ctl.drainExpired = false → s.rpu.reportDue = true → s.rpu.writePath = none →
      exec .reportBlockWriteBegin s =
        .next
          ({ s with
              rpu.writePath := some
                (.report (s.ctl.areaBase + 128) s.reportBlock (if s.rpu.lastTag = 255 then 1 else s.rpu.lastTag + 1))
              rpu.reportDue := false, rpu.changed := false, rpu.holdTimer := false, rpu.recordsSinceReport := 0
              rpu.events := EventSummary.clear } : State).settle) ∧
  (∀ s : State, s.msu.shift ≤ 3 → s.lanes.a.faults ≤ 15 → s.lanes.b.faults ≤ 15 → s.stations.length ≤ 48 →
      s.reportBlock.length = 32 ∧ leWord s.reportBlock 0 = s.xpt.ordersTaken ∧
      leWord s.reportBlock 4 = s.rpu.resultsWritten ∧ leWord s.reportBlock 8 = s.xpt.bulkTaken ∧
      leWord s.reportBlock 12 = s.swe.sweepCount ∧ leWord s.reportBlock 16 = s.swe.overrunCount ∧
      leWord s.reportBlock 20 = s.ctl.dropped ∧
      byteAt s.reportBlock 24 = (if s.rpu.lastTag = 255 then 1 else s.rpu.lastTag + 1) ∧
      ((byteAt s.reportBlock 25).extractLsb' 0 2).toNat =
        (match s.msu.role with
          | .off => 0
          | .listen => 1
          | .active => 2) ∧
      ((byteAt s.reportBlock 25).extractLsb' 2 2).toNat =
        (if s.ctl.drainEnded then 0
        else
          match s.ctl.exchangeState with
          | .halted => 0
          | .running => 1
          | .draining => 2
          | .faulted => 3) ∧
      ((byteAt s.reportBlock 25).extractLsb' 4 2).toNat = s.msu.shift ∧
      (byteAt s.reportBlock 25).extractLsb' 6 2 = 0 ∧
      (byteAt s.reportBlock 26).getLsbD 0 = s.rpu.events.station ∧
      (byteAt s.reportBlock 26).getLsbD 1 = s.rpu.events.lane ∧
      (byteAt s.reportBlock 26).getLsbD 2 = s.rpu.events.role ∧
      (byteAt s.reportBlock 26).getLsbD 3 = s.rpu.events.truncate ∧
      (byteAt s.reportBlock 26).getLsbD 4 = s.rpu.events.overrun ∧
      (byteAt s.reportBlock 26).getLsbD 5 = s.rpu.events.orderErr ∧
      (byteAt s.reportBlock 26).extractLsb' 6 2 = 0 ∧
      (byteAt s.reportBlock 27).toNat =
        (s.stations.filter (fun r => r.health = .online ∨ r.health = .suspect)).length ∧
      (byteAt s.reportBlock 28).toNat = (s.stations.filter (fun r => r.health = .offline)).length ∧
      (byteAt s.reportBlock 29).toNat = (if s.lanes.a.up then 0 else 128) + s.lanes.a.faults ∧
      (byteAt s.reportBlock 30).toNat = (if s.lanes.b.up then 0 else 128) + s.lanes.b.faults ∧
      byteAt s.reportBlock 31 = 0)

/-- REPORT_BLOCK_WRITE_DONE: the tag formed becomes the last written tag (R175); the final Report Block of a drain takes
the device to HALTED, the event summary clear, the look and hold timers stopped and INT_N released (R185). -/
def Obligations.ReportBlockCompletes : Prop :=
  ∀ (s : State) (address : Quad) (data : List Byte) (tag : Byte),
    s.Hosting → s.rpu.writePath = some (.report address data tag) →
    (s.ctl.drainEnded = false →
      exec .reportBlockWriteDone s =
        .next ({ s with rpu.writePath := none, rpu.lastTag := tag } : State).settle) ∧
    (s.ctl.drainEnded = true →
      ∃ t, exec .reportBlockWriteDone s = .next t ∧
        t.ctl = { s.ctl with exchangeState := .halted, drainEnded := false } ∧ t.rpu.lastTag = tag ∧
        t.rpu.writePath = none ∧ t.rpu.events = EventSummary.clear ∧ t.rpu.holdTimer = false ∧
        t.rpu.resultsWritten = s.rpu.resultsWritten ∧
        t.xpt = { s.xpt with lookTimer := false, readWanted := false } ∧ t.intN = false ∧
        t.stations = s.stations ∧ t.points = s.points ∧ t.swe = s.swe ∧ t.exu = s.exu ∧ t.lanes = s.lanes ∧
        t.bar = s.bar ∧ t.msu = s.msu ∧ t.oru = s.oru ∧ t.pending = s.pending)

/-- BULK_WAIT_TIMER_EXPIRY settles the head inline-only without SUPPLY_BAD (R168, R170); HOLD_TIMER_EXPIRY makes a Report
Block write fall due (R173).
ATTENTION_TIMER_EXPIRY sends the host-attention signal (R178, R115): in ACTIVE the role becomes LISTEN with reason
HOST_SILENT, in LISTEN it stays; in both takeover_shift goes up by 1, stopping at 3, and the ROLE event is set; in OFF the
signal is ignored. Leaving ACTIVE (section 6.6), the device gives its open exchange no further attempt, stops its mark
timer and its sweep, and in RUNNING ends every Bus Queue entry without an open exchange: their NOT_ACTIVE results, in queue
order, join the completion list behind those already there (that all of these leave the queue in the same step is log entry
23, DEDUCED), then that of a bus order waiting for a queue place (R120), and a MARKER completes if the queue is then empty
(R153); any other order in hand stays. The wind-down waits for the order that was in QUEUE_WAIT or HOLD_WAIT (R121). In
DRAINING the Order Unit's work is the drain's (R120, R123). -/
def Obligations.ReportUnitTimers : Prop :=
  (∀ s : State,
      (s.rpu.bulkWaitTimer = true →
        exec .bulkWaitTimerExpiry s =
          .next ({ s with rpu.head := .inlineOnly false, rpu.bulkWaitTimer := false } : State).settle) ∧
      (s.rpu.holdTimer = true →
        exec .holdTimerExpiry s =
          .next ({ s with rpu.holdTimer := false, rpu.reportDue := true } : State).settle)) ∧
  (∀ s : State, s.rpu.attention = .running →
      let windingDown (t : State) : Prop :=
        t.msu.windDown =
          some
            { awaitHand :=
                match s.oru.hand with
                | .queueWait _ => true
                | .holdWait _ => true
                | .empty => false
                | .markerWait _ => false
                | .claimDeferred _ => false
                | .claimStaging _ => false
                | .yieldStaging _ => false
                | .stageWait _ => false }
      (s.msu.role = .listen →
        ∃ t, exec .attentionTimerExpiry s = .next t ∧ t.msu = { s.msu with shift := min 3 (s.msu.shift + 1) } ∧
          t.rpu.events.role = true ∧ t.ctl = s.ctl ∧ t.xpt = s.xpt ∧ t.stations = s.stations ∧ t.points = s.points ∧
          t.swe = s.swe ∧ t.exu = s.exu ∧ t.lanes = s.lanes ∧ t.bar = s.bar ∧ t.oru = s.oru ∧
          t.rpu.staging = s.rpu.staging ∧ t.pending = s.pending) ∧
      (s.msu.role = .active → s.ctl.exchangeState = .running →
        ∃ t, exec .attentionTimerExpiry s = .next t ∧ t.msu.role = .listen ∧
          t.msu.shift = min 3 (s.msu.shift + 1) ∧ t.msu.contestCount = s.msu.contestCount ∧
          t.msu.markTimer = false ∧ t.msu.markClaim = false ∧ windingDown t ∧
          t.msu.roleDue =
            s.msu.roleDue ++
              [{ role := .listen, previous := .active, reason := .hostSilent, shift := min 3 (s.msu.shift + 1)
                 foreignTag := none }] ∧
          t.rpu.events.role = true ∧ t.swe.state = .stopped ∧ t.swe.active = s.swe.active ∧
          t.swe.pendingList = s.swe.pendingList ∧ t.swe.sweepCount = s.swe.sweepCount ∧
          t.swe.overrunCount = s.swe.overrunCount ∧
          t.oru.busQueue = s.oru.busQueue.filter (fun e => e.exchangeOpen) ∧ t.oru.cache = s.oru.cache ∧
          (let left := (s.oru.busQueue.filter (fun e => !e.exchangeOpen)).map
            (fun e => Completed.mk false (e.result .notActive))
           let stays := t.oru.hand = s.oru.hand ∧ t.oru.completion = s.oru.completion ++ left
           let ends (o : Order) (outcome : OrderOutcome) :=
             t.oru.hand = .stageWait o ∧
               t.oru.completion =
                 s.oru.completion ++ left ++ [Completed.mk true (o.result outcome 0 (.values []))]
           match s.oru.hand with
            | .queueWait o => ends o .notActive
            | .markerWait o => if s.oru.busQueue.all (fun e => !e.exchangeOpen) then ends o .done else stays
            | .empty => stays
            | .holdWait _ => stays
            | .claimDeferred _ => stays
            | .claimStaging _ => stays
            | .yieldStaging _ => stays
            | .stageWait _ => stays) ∧
          t.exu.exchange = s.exu.exchange.map (fun x => { x with noRetry := true }) ∧ t.ctl = s.ctl ∧ t.xpt = s.xpt ∧
          t.stations = s.stations ∧ t.points = s.points ∧ t.lanes = s.lanes ∧ t.bar = s.bar ∧ t.pending = s.pending) ∧
      (s.msu.role = .active → s.ctl.exchangeState = .draining →
        ∃ t, exec .attentionTimerExpiry s = .next t ∧ t.msu.role = .listen ∧
          t.msu.shift = min 3 (s.msu.shift + 1) ∧ t.msu.contestCount = s.msu.contestCount ∧
          t.msu.markTimer = false ∧ t.msu.markClaim = false ∧ windingDown t ∧ t.swe.state = .stopped ∧
          t.swe.sweepCount = s.swe.sweepCount ∧
          t.msu.roleDue =
            s.msu.roleDue ++
              [{ role := .listen, previous := .active, reason := .hostSilent, shift := min 3 (s.msu.shift + 1)
                 foreignTag := none }] ∧
          t.rpu.events.role = true ∧ t.oru = s.oru ∧
          t.exu.exchange = s.exu.exchange.map (fun x => { x with noRetry := true }) ∧ t.ctl = s.ctl ∧ t.xpt = s.xpt ∧
          t.stations = s.stations ∧ t.points = s.points ∧ t.lanes = s.lanes ∧ t.bar = s.bar ∧ t.pending = s.pending) ∧
      (s.msu.role = .off →
        exec .attentionTimerExpiry s = .next ({ s with rpu.attention := .expired } : State).settle))

/-- The codes of section 10.4: outcomes, health, quality, mode, role and reason.
The room inline and the size of an entry (R166), and what an entry is byte for byte (section 10.4). A field of several
bytes has its least significant byte first (00_scope.md, "Byte order").
A result carries as many leading entries as its settlement allows (R166, R170): all where no buffer is needed, the
whole entries that fit a buffer, and the room inline otherwise; TRUNCATED tells whether some are left out, and a buffer
takes the entries carried back to back.
Every result record is 32 bytes (R190): byte 0 is the type and, for an ORDER record, the outcome; the bits of byte 1
are URGENT, REPORT_NOW, REPEAT_IGNORED, TRUNCATED, SUPPLY_BAD, LATE, ABANDONED and BULK (section 10.4), with REPORT_NOW as
the order had it, always on STATION and ROLE results, with LATE on a SWEEP result, and never on a CHANGE result.
The bytes that follow, type by type (section 10.4, R190): ORDER and CHANGE with their inline entries, or the bulk reference
in their place, and STATION, SWEEP and ROLE. -/
def Obligations.ResultRecords : Prop :=
  ([OrderOutcome.done, .partialReads, .noReply, .busy, .refused, .mismatch, .notFound, .alreadyExists, .overlap,
        .tableFull, .listFull, .badOrder, .notActive, .abandoned].map OrderOutcome.code =
      [1, 2, 3, 4, 5, 6, 7, 8, 9, 10, 11, 12, 13, 14] ∧
    [Health.unknown, .online, .suspect, .offline, .mismatch].map Health.code = [0, 1, 2, 3, 4] ∧
    [Quality.never, .fresh, .stale, .bad].map Quality.code = [0, 1, 2, 3] ∧
    [Mode.instant, .total, .flag].map Mode.code = [0, 1, 2] ∧
    [Role.off, .listen, .active].map Role.code = [0, 1, 2] ∧
    [RoleReason.takeover, .claimed, .yielded, .hostSilent, .contest].map RoleReason.code = [1, 2, 3, 4, 5]) ∧
  ((∀ n k, (leBytes n k).length = k ∧ ∀ i < k, byteAt (leBytes n k) i = BitVec.ofNat 8 (n / 256 ^ i)) ∧
    (∀ l, (Entries.values l).size = 8 ∧
      (Entries.values l).each =
        l.map (fun e =>
          leBytes e.value.toNat 4 ++
            [BitVec.ofNat 8 e.channel, BitVec.ofNat 8 e.quality.code,
              BitVec.ofNat 8 ((if e.clipped then 1 else 0) + (if e.rebased then 2 else 0)),
              BitVec.ofNat 8 e.instanceNo])) ∧
    (∀ l, (Entries.totals l).size = 16 ∧
      (Entries.totals l).each =
        l.map (fun e =>
          leBytes e.total.toNat 8 ++ leBytes e.age.toNat 4 ++ leBytes e.clipCount 2 ++
            [BitVec.ofNat 8 e.channel, BitVec.ofNat 8 (e.quality.code + 4 * e.mode.code)])) ∧
    (∀ l, (Entries.counters l).size = 4 ∧ (Entries.counters l).each = l.map (fun c => leBytes c.toNat 4)) ∧
    (∀ o, (Result.order o).entries = o.entries ∧
      (Result.order o).room =
        (match o.entries with
          | .values _ => 3
          | .totals _ => 1
          | .counters _ => 6)) ∧
    (∀ c, (Result.change c).entries = .values c.entries ∧ (Result.change c).room = 2) ∧
    (∀ x, (Result.station x).needsBuffer = false) ∧ (∀ w, (Result.sweep w).needsBuffer = false) ∧
    (∀ m, (Result.role m).needsBuffer = false)) ∧
  (∀ r : Result,
      let n := r.entries.each.length
      (r.room < n ↔ r.needsBuffer = true) ∧
      (∀ address length count,
        r.carried (.buffer address length count) = min n (length / r.entries.size) ∧
        (r.truncated (.buffer address length count) = true ↔ length / r.entries.size < n)) ∧
      (∀ bad, r.carried (.inlineOnly bad) = min n r.room ∧ (r.truncated (.inlineOnly bad) = true ↔ r.room < n)) ∧
      r.carried .unsettled = n ∧ r.truncated .unsettled = false ∧
      (∀ h, r.entryBytes h = (r.entries.each.take (r.carried h)).flatten)) ∧
  (∀ (r : Result) (h : HeadSettlement), (h = .unsettled → r.needsBuffer = false) →
      let b := byteAt (r.record h) 1
      (r.record h).length = 32 ∧
      (byteAt (r.record h) 0).toNat =
        (match r with
          | .order o => 1 + 16 * o.outcome.code
          | .station _ => 2
          | .change _ => 3
          | .sweep _ => 4
          | .role _ => 5) ∧
      (b.getLsbD 1 = r.reportNow ∧ b.getLsbD 3 = r.truncated h ∧
        (b.getLsbD 4 = true ↔ h = .inlineOnly true) ∧
        (b.getLsbD 7 = true ↔ ∃ address length count, h = .buffer address length count)) ∧
      (∀ o, r = .order o →
        r.reportNow = o.reportNow ∧ b.getLsbD 0 = o.urgent ∧ b.getLsbD 2 = o.repeatIgnored ∧ b.getLsbD 5 = false ∧
        b.getLsbD 6 = false) ∧
      (∀ x, r = .station x →
        r.reportNow = true ∧ b.getLsbD 0 = false ∧ b.getLsbD 2 = false ∧ b.getLsbD 5 = false ∧ b.getLsbD 6 = false) ∧
      (∀ c, r = .change c →
        r.reportNow = false ∧ b.getLsbD 0 = false ∧ b.getLsbD 2 = false ∧ b.getLsbD 5 = false ∧ b.getLsbD 6 = false) ∧
      (∀ w, r = .sweep w →
        r.reportNow = w.late ∧ b.getLsbD 0 = false ∧ b.getLsbD 2 = false ∧ b.getLsbD 5 = w.late ∧
        b.getLsbD 6 = w.abandoned) ∧
      (∀ m, r = .role m →
        r.reportNow = true ∧ b.getLsbD 0 = false ∧ b.getLsbD 2 = false ∧ b.getLsbD 5 = false ∧ b.getLsbD 6 = false)) ∧
  (∀ (r : Result) (h : HeadSettlement), (h = .unsettled → r.needsBuffer = false) →
      let area (size : Nat) : List Byte :=
        match h with
        | .buffer address _ supplyCount =>
          leBytes address.toNat 8 ++ leBytes supplyCount.toNat 4 ++ leBytes (r.entryBytes h).length 2 ++
            List.replicate (size - 14) 0
        | .unsettled => r.entryBytes h ++ List.replicate (size - (r.entryBytes h).length) 0
        | .inlineOnly _ => r.entryBytes h ++ List.replicate (size - (r.entryBytes h).length) 0
      (∀ o, r = .order o →
        (r.record h).drop 2 =
          [o.kind, BitVec.ofNat 8 (r.carried h)] ++ leBytes o.orderId.toNat 2 ++
            [BitVec.ofNat 8 o.station, BitVec.ofNat 8 o.detail] ++ area 24) ∧
      (∀ c, r = .change c →
        (r.record h).drop 2 =
          [BitVec.ofNat 8 c.station, BitVec.ofNat 8 (r.carried h),
            BitVec.ofNat 8 ((if c.causeFlag then 1 else 0) + (if c.causeJump then 2 else 0)),
            BitVec.ofNat 8 c.changedCount, BitVec.ofNat 8 c.firstChannel,
            BitVec.ofNat 8 ((if c.learned then 1 else 0) + (if c.oldValue.isSome then 2 else 0))] ++
            leBytes c.sweepCount.toNat 4 ++ leBytes (c.oldValue.getD 0).toNat 4 ++ area 16)) ∧
  ((∀ x : StationResult, ((Result.station x).record .unsettled).drop 2 =
      [BitVec.ofNat 8 x.station, BitVec.ofNat 8 x.health.code, BitVec.ofNat 8 x.previous.code,
        BitVec.ofNat 8
          ((if x.verified then 1 else 0) + (if x.learned then 2 else 0) + (if x.condition.isSome then 4 else 0) +
            (if x.identity.isSome then 8 else 0)),
        BitVec.ofNat 8 x.missCount, x.condition.getD 0, (x.identity.map Prod.fst).getD 0,
        BitVec.ofNat 8 ((x.identity.map Prod.snd).getD 0)] ++ List.replicate 22 0) ∧
    (∀ w : SweepResult, ((Result.sweep w).record .unsettled).drop 2 =
      [0, 0] ++ leBytes w.number.toNat 4 ++ leBytes w.polls 4 ++ leBytes w.skipped 4 ++ leBytes w.misses 4 ++
        List.replicate 12 0) ∧
    (∀ m : RoleResult, ((Result.role m).record .unsettled).drop 2 =
      [BitVec.ofNat 8 m.role.code, BitVec.ofNat 8 m.previous.code, BitVec.ofNat 8 m.reason.code,
        BitVec.ofNat 8 m.shift,
        (match m.foreignTag with
          | some tag => BitVec.ofNat 8 (tag.toNat + 128)
          | none => 0), 0] ++ leBytes m.contestCount.toNat 4 ++ List.replicate 20 0))

/-! ### Orders -/

/-- Orders that end as they are taken, with nothing changed but the Order Unit: in DRAINING every order ends ABANDONED
with no validation (R155); in RUNNING an unrecognised kind and a ROLE body that names neither CLAIM nor YIELD end BAD_ORDER
(R136, R137), and a STATS ends DONE with the six lane counters (R154).
MARKER completes DONE at once when the Bus Queue is empty, and otherwise enters MARKER_WAIT (R153). -/
def Obligations.OrdersThatEndAtOnceOrMark : Prop :=
  (∀ (s : State) (o : Order),
      (s.ctl.exchangeState = .draining → s.oru.hand = .empty → s.oru.completion = [] → s.oru.cache.head? = some o →
        exec .orderAbandonedInDrain s = .next (s.finished o .abandoned 0 (.values [])).settle) ∧
      (s.ctl.exchangeState = .running → s.oru.hand = .empty → s.oru.completion = [] → s.oru.cache.head? = some o →
        o.kind? = none → exec .unrecognisedKind s = .next (s.finished o .badOrder 0 (.values [])).settle) ∧
      (s.Takes o .role → byteAt o.body 0 ≠ 1 → byteAt o.body 0 ≠ 2 →
        exec .role s = .next (s.finished o .badOrder 0 (.values [])).settle) ∧
      (s.Takes o .stats →
        exec .stats s =
          .next
            (s.finished o .done 0
              (.counters
                [s.lanes.a.sent, s.lanes.b.sent, s.lanes.a.damaged, s.lanes.b.damaged, s.lanes.silentWindows,
                  s.lanes.disagreements])).settle)) ∧
  (∀ (s : State) (o : Order), s.Takes o .marker →
      (s.oru.busQueue = [] → exec .marker s = .next (s.finished o .done 0 (.values [])).settle) ∧
      (s.oru.busQueue ≠ [] →
        exec .marker s =
          .next ({ s with oru.cache := s.oru.cache.tail, oru.hand := .markerWait o } : State).settle))

/-- ENROL inserts the record that its body describes, with the initial running values of R4, sets every slot of its window
to the default point, and ends DONE (R5, R6).
The four tests of ENROL, in order (R5): the first that fails decides the outcome, and nothing but the Order Unit
changes.
Which ENROL bodies pass the first test, and the record they describe (R3, R4, R5, section 10.3). Two windows overlap exactly if
they share a slot (R1). -/
def Obligations.Enrolment : Prop :=
  (∀ (s : State) (o : Order) (r : StationRecord), s.Takes o .enrol → o.enrolRecord? = some r →
      s.station? r.address = none → (∀ q ∈ s.stations, r.overlaps q = false) → s.stations.length < 48 →
      ∃ t, exec .enrol s = .next t ∧ t.station? r.address = some r ∧
        (∀ a, a ≠ r.address → t.station? a = s.station? a) ∧ t.stations.length = s.stations.length + 1 ∧
        (∀ slot, slot < 384 →
          t.point slot =
            if r.firstSlot ≤ slot ∧ slot < r.firstSlot + r.slotCount then Point.default else s.point slot) ∧
        t.oru = (s.finished o .done 0 (.values [])).oru ∧ t.ctl = s.ctl ∧ t.xpt = s.xpt ∧ t.swe = s.swe ∧
        t.exu = s.exu ∧ t.lanes = s.lanes ∧ t.bar = s.bar ∧ t.msu = s.msu ∧ t.rpu.staging = s.rpu.staging ∧
        t.rpu.events = s.rpu.events ∧ t.pending = s.pending) ∧
  (∀ (s : State) (o : Order), s.Takes o .enrol →
      (o.enrolRecord? = none → exec .enrol s = .next (s.finished o .badOrder 0 (.values [])).settle) ∧
      (∀ r, o.enrolRecord? = some r →
        ((s.station? r.address).isSome →
          exec .enrol s = .next (s.finished o .alreadyExists 0 (.values [])).settle) ∧
        (s.station? r.address = none → (∃ q ∈ s.stations, r.overlaps q = true) →
          exec .enrol s = .next (s.finished o .overlap 0 (.values [])).settle) ∧
        (s.station? r.address = none → (∀ q ∈ s.stations, r.overlaps q = false) → 48 ≤ s.stations.length →
          exec .enrol s = .next (s.finished o .tableFull 0 (.values [])).settle))) ∧
  (∀ o : Order,
      (o.enrolRecord?.isSome ↔
        (1 ≤ o.station ∧ o.station ≤ 125) ∧ (1 ≤ leNat o.body 1 1 ∧ leNat o.body 1 1 ≤ 32) ∧
        leNat o.body 2 2 ≤ 383 ∧ leNat o.body 2 2 + leNat o.body 1 1 - 1 ≤ 383 ∧
        (1 ≤ leNat o.body 4 1 ∧ leNat o.body 4 1 ≤ 8) ∧ (1 ≤ leNat o.body 5 1 ∧ leNat o.body 5 1 ≤ 15) ∧
        1 ≤ leNat o.body 6 1 ∧ leNat o.body 7 1 ≤ 1 ∧ leNat o.body 8 1 ≤ 3) ∧
      (∀ r, o.enrolRecord? = some r →
        r.address = o.station ∧ r.kind = byteAt o.body 0 ∧ r.slotCount = leNat o.body 1 1 ∧
        r.firstSlot = leNat o.body 2 2 ∧ r.readChunk = leNat o.body 4 1 ∧ r.missLimit = leNat o.body 5 1 ∧
        r.revisitEvery = leNat o.body 6 1 ∧ r.lanePref = (if leNat o.body 7 1 = 0 then .a else .b) ∧
        r.retryLimit = leNat o.body 8 1 ∧ r.health = .unknown ∧ r.verified = false ∧ r.missCount = 0 ∧
        r.readCursor = 0 ∧ r.lastCondition = none ∧ r.held = false)) ∧
  (∀ r q : StationRecord, 1 ≤ r.slotCount → 1 ≤ q.slotCount →
      (r.overlaps q = true ↔
        ∃ slot, (r.firstSlot ≤ slot ∧ slot < r.firstSlot + r.slotCount) ∧
          q.firstSlot ≤ slot ∧ slot < q.firstSlot + q.slotCount))

/-- A RETIRE or SHAPE whose station is named by a Bus Queue entry or addressed by the open exchange waits: the station is
held, the order is in HOLD_WAIT, and no point, list or result changes; with no sweep claim raised for the station,
everything else stays (R8, R141). A claim raised for it is withdrawn, its entry counts as skipped, and the walk of the
sweep goes on from the next entry (R59, R107; what the walk does is stated in SweepTimersAndClaims).
A RETIRE whose hold is satisfied as it is taken, outside a sweep: the station's record is removed, its entries leave
both Scan Lists, its window takes the default point, and the order ends DONE (R7, R141). During a sweep the cursor also
moves back by the entries removed below it, and stays at the entry that it stood at, or, if that was one of them, at the
entry that follows, where that one is to be polled (R63).
HOLD_SATISFIED applies a RETIRE that waited in the same way, its result behind those of the completion list (R142).
In every state of the sweep, at once or after HOLD_SATISFIED (R59, R63): a claim raised for the station as the order is taken is
withdrawn first, its entry skipped and the walk gone on; and where the entry under the cursor is one of those removed, the walk
decides the entry that follows, be it polled, skipped or absent (the walk is stated in SweepTimersAndClaims).
The two tests of a RETIRE, in order (R136, R137): the first that fails decides the outcome, and nothing but the Order Unit
changes, the held mark included. -/
def Obligations.RetireAndHolds : Prop :=
  (∀ (s : State) (o : Order) (r : StationRecord), s.station? o.station = some r → 1 ≤ o.station → o.station ≤ 125 →
      ((∃ e ∈ s.oru.busQueue, e.order.station = o.station) ∨
        (∃ x, s.exu.exchange = some x ∧ x.address = o.station)) →
      let waits (u : State) : Prop :=
        (s.Takes o .retire → exec .retire s = .next ({ u with oru.hand := .holdWait o } : State).settle) ∧
        (s.Takes o .shape → o.conversion?.isSome → o.first + o.repeats < r.slotCount → o.first ≤ 31 →
          exec .shape s = .next ({ u with oru.hand := .holdWait o } : State).settle)
      let held : State :=
        { s with
          stations := s.stations.map (fun q => if q.address = o.station then { q with held := true } else q)
          oru.cache := s.oru.cache.tail }
      (s.swe.claim ≠ some o.station → waits held) ∧
      (s.swe.claim = some o.station →
        waits
          ({ held with
              swe.claim := none, swe.cursor := s.swe.cursor + 1, swe.skipped := s.swe.skipped + 1 } : State).walk)) ∧
  (∀ (s : State) (o : Order) (r : StationRecord), s.Takes o .retire → s.station? o.station = some r →
      1 ≤ o.station → o.station ≤ 125 → (∀ e ∈ s.oru.busQueue, e.order.station ≠ o.station) →
      (∀ x, s.exu.exchange = some x → x.address ≠ o.station) → s.swe.claim ≠ some o.station →
      let active := s.swe.active.filter (fun a => a ≠ o.station)
      let cursor :=
        s.swe.cursor - ((s.swe.active.take s.swe.cursor).filter (fun a => a = o.station)).length
      (s.swe.state ≠ .sweeping ∨ s.swe.active[s.swe.cursor]? ≠ some o.station ∨
        (∃ a q, active[cursor]? = some a ∧ s.station? a = some q ∧ q.held = false ∧
          (q.health = .unknown ∨ q.health = .online ∨ q.health = .suspect))) →
      ∃ t, exec .retire s = .next t ∧
        (∀ a, t.station? a = if a = o.station then none else s.station? a) ∧
        t.swe = { s.swe with
          active := active, pendingList := s.swe.pendingList.filter (fun a => a ≠ o.station)
          cursor := if s.swe.state = .sweeping then cursor else s.swe.cursor } ∧
        (∀ slot, slot < 384 →
          t.point slot =
            if r.firstSlot ≤ slot ∧ slot < r.firstSlot + r.slotCount then Point.default else s.point slot) ∧
        t.oru = (s.finished o .done 0 (.values [])).oru ∧ t.ctl = s.ctl ∧ t.xpt = s.xpt ∧ t.exu = s.exu ∧
        t.lanes = s.lanes ∧ t.bar = s.bar ∧ t.msu = s.msu ∧ t.rpu.staging = s.rpu.staging ∧
        t.rpu.events = s.rpu.events ∧ t.pending = s.pending) ∧
  (∀ (s : State) (o : Order) (r : StationRecord), s.oru.hand = .holdWait o → o.kind? = some .retire →
      s.station? o.station = some r → (∀ e ∈ s.oru.busQueue, e.order.station ≠ o.station) →
      (∀ x, s.exu.exchange = some x → x.address ≠ o.station) → s.swe.state ≠ .sweeping →
      ∃ t, exec .holdSatisfied s = .next t ∧
        (∀ a, t.station? a = if a = o.station then none else s.station? a) ∧
        t.swe = { s.swe with
          active := s.swe.active.filter (fun a => a ≠ o.station)
          pendingList := s.swe.pendingList.filter (fun a => a ≠ o.station) } ∧
        (∀ slot, slot < 384 →
          t.point slot =
            if r.firstSlot ≤ slot ∧ slot < r.firstSlot + r.slotCount then Point.default else s.point slot) ∧
        t.oru =
          { s.oru with
            hand := .stageWait o
            completion := s.oru.completion ++
              [{ fromHand := true, result := o.result .done 0 (.values []) }] } ∧
        t.ctl = s.ctl ∧ t.xpt = s.xpt ∧ t.exu = s.exu ∧ t.lanes = s.lanes ∧ t.bar = s.bar ∧ t.msu = s.msu ∧
        t.rpu.staging = s.rpu.staging ∧ t.pending = s.pending) ∧
  (∀ (s : State) (o : Order) (r : StationRecord), s.station? o.station = some r →
      (∀ e ∈ s.oru.busQueue, e.order.station ≠ o.station) →
      (∀ x, s.exu.exchange = some x → x.address ≠ o.station) →
      let removed (u v : State) : Prop :=
        (∀ a, v.station? a = if a = o.station then none else u.station? a) ∧
          v.swe = { u.swe with
            active := u.swe.active.filter (fun a => a ≠ o.station)
            pendingList := u.swe.pendingList.filter (fun a => a ≠ o.station)
            cursor :=
              if u.swe.state = .sweeping then
                u.swe.cursor - ((u.swe.active.take u.swe.cursor).filter (fun a => a = o.station)).length
              else u.swe.cursor } ∧
          (∀ slot, slot < 384 →
            v.point slot =
              if r.firstSlot ≤ slot ∧ slot < r.firstSlot + r.slotCount then Point.default else u.point slot) ∧
          v.oru = u.oru ∧ v.rpu = u.rpu ∧ v.ctl = u.ctl ∧ v.xpt = u.xpt ∧ v.exu = u.exu ∧ v.lanes = u.lanes ∧
          v.bar = u.bar ∧ v.msu = u.msu ∧ v.pending = u.pending
      let applied (c : Instr) (u : State) : Prop :=
        ∃ v, removed u v ∧
          (let w : State :=
            if u.swe.state = .sweeping ∧ u.swe.active[u.swe.cursor]? = some o.station then v.walk else v
           exec c s =
            .next
              ({ w with
                  oru.hand := .stageWait o
                  oru.completion :=
                    w.oru.completion ++ [{ fromHand := true, result := o.result .done 0 (.values []) }] } :
                State).settle)
      let held : State :=
        { s with
          stations := s.stations.map (fun q => if q.address = o.station then { q with held := true } else q)
          oru.cache := s.oru.cache.tail }
      (s.Takes o .retire → 1 ≤ o.station → o.station ≤ 125 →
        (s.swe.claim ≠ some o.station → applied .retire held) ∧
        (s.swe.claim = some o.station →
          applied .retire
            ({ held with
                swe.claim := none, swe.cursor := s.swe.cursor + 1, swe.skipped := s.swe.skipped + 1 } :
              State).walk)) ∧
      (s.oru.hand = .holdWait o → o.kind? = some .retire → applied .holdSatisfied s)) ∧
  (∀ (s : State) (o : Order), s.Takes o .retire →
      (¬ (1 ≤ o.station ∧ o.station ≤ 125) →
        exec .retire s = .next (s.finished o .badOrder 0 (.values [])).settle) ∧
      (1 ≤ o.station → o.station ≤ 125 → s.station? o.station = none →
        exec .retire s = .next (s.finished o .notFound 0 (.values [])).settle))

/-- A SHAPE whose hold is satisfied as it is taken: channels c to c + repeat take the conversion record, a point whose mode
changes is reset to the default image and one whose mode stays keeps its image, and the order ends DONE with the held
mark clear (R44, R45, R142). An exchange open to another station and a sweep claim raised for another stay; a claim raised for
this station is withdrawn, its entry skipped and the walk gone on while the station is held (R8, R59; the walk is stated in
SweepTimersAndClaims).
HOLD_SATISFIED: a SHAPE that waits in HOLD_WAIT is applied once no Bus Queue entry names its station and no open
exchange addresses it, and its result joins the completion list behind those before it (R142).
The tests of a SHAPE, in order (R136, R137): the first that fails decides the outcome, and nothing but the Order Unit
changes, the held mark included.
The conversion record that a SHAPE body describes, field by field (R26, section 10.3): the mode by its code, notify from bit 0
of its byte alone (R189), scale, shift, offset and jump_limit. -/
def Obligations.ShapeIsApplied : Prop :=
  (∀ (s : State) (o : Order) (r : StationRecord) (c : Conversion), s.Takes o .shape →
      s.station? o.station = some r → 1 ≤ o.station → o.station ≤ 125 → o.first ≤ 31 → o.conversion? = some c →
      o.first + o.repeats < r.slotCount → (∀ e ∈ s.oru.busQueue, e.order.station ≠ o.station) →
      (∀ x, s.exu.exchange = some x → x.address ≠ o.station) →
      let withdrawn : State :=
        if s.swe.claim = some o.station then
          ({ s with
              stations := s.stations.map (fun q => if q.address = o.station then { q with held := true } else q)
              swe.claim := none, swe.cursor := s.swe.cursor + 1, swe.skipped := s.swe.skipped + 1 } : State).walk
        else s
      ∃ t, exec .shape s = .next t ∧
        (∀ slot, slot < 384 →
          t.point slot =
            if r.firstSlot + o.first ≤ slot ∧ slot ≤ r.firstSlot + o.first + o.repeats then
              { conv := c
                image := if (s.point slot).conv.mode = c.mode then (s.point slot).image else Image.default }
            else s.point slot) ∧
        t.stations = s.stations.map (fun q => if q.address = o.station then { q with held := false } else q) ∧
        t.oru = (s.finished o .done 0 (.values [])).oru ∧ t.ctl = s.ctl ∧ t.xpt = s.xpt ∧ t.swe = withdrawn.swe ∧
        t.exu = s.exu ∧ t.lanes = s.lanes ∧ t.bar = s.bar ∧ t.msu = s.msu ∧
        t.rpu.staging = withdrawn.rpu.staging ∧ t.rpu.events = s.rpu.events ∧ t.pending = s.pending) ∧
  (∀ (s : State) (o : Order) (r : StationRecord) (c : Conversion), s.oru.hand = .holdWait o →
      o.kind? = some .shape → s.station? o.station = some r → o.conversion? = some c →
      (∀ e ∈ s.oru.busQueue, e.order.station ≠ o.station) →
      (∀ x, s.exu.exchange = some x → x.address ≠ o.station) →
      ∃ t, exec .holdSatisfied s = .next t ∧
        (∀ slot, slot < 384 →
          t.point slot =
            if r.firstSlot + o.first ≤ slot ∧ slot ≤ r.firstSlot + o.first + o.repeats then
              { conv := c
                image := if (s.point slot).conv.mode = c.mode then (s.point slot).image else Image.default }
            else s.point slot) ∧
        t.stations = s.stations.map (fun q => if q.address = o.station then { q with held := false } else q) ∧
        t.oru =
          { s.oru with
            hand := .stageWait o
            completion := s.oru.completion ++
              [{ fromHand := true, result := o.result .done 0 (.values []) }] } ∧
        t.ctl = s.ctl ∧ t.xpt = s.xpt ∧ t.swe = s.swe ∧ t.exu = s.exu ∧ t.lanes = s.lanes ∧ t.bar = s.bar ∧
        t.msu = s.msu ∧ t.rpu.staging = s.rpu.staging ∧ t.pending = s.pending) ∧
  (∀ (s : State) (o : Order), s.Takes o .shape →
      let inRange :=
        1 ≤ o.station ∧ o.station ≤ 125 ∧ o.first ≤ 31 ∧ (byteAt o.body 0).toNat ≤ 2 ∧
          -31 ≤ (byteAt o.body 4).toInt ∧ (byteAt o.body 4).toInt ≤ 15
      let ends (outcome : OrderOutcome) := exec .shape s = .next (s.finished o outcome 0 (.values [])).settle
      (o.conversion?.isSome ↔
        (byteAt o.body 0).toNat ≤ 2 ∧ -31 ≤ (byteAt o.body 4).toInt ∧ (byteAt o.body 4).toInt ≤ 15) ∧
      (¬ inRange → ends .badOrder) ∧
      (inRange → s.station? o.station = none → ends .notFound) ∧
      (inRange → ∀ r, s.station? o.station = some r → r.slotCount ≤ o.first + o.repeats → ends .badOrder)) ∧
  (∀ (o : Order) (c : Conversion), o.conversion? = some c →
      [Mode.instant, .total, .flag][leNat o.body 0 1]? = some c.mode ∧
      (c.notify = true ↔ leNat o.body 1 1 % 2 = 1) ∧ c.scale.toNat = leNat o.body 2 2 ∧ c.shift = byteAt o.body 4 ∧
      c.offset.toNat = leNat o.body 8 4 ∧ c.jumpLimit.toNat = leNat o.body 12 4)

/-- SCAN_ADD appends its addresses to the tail of the Pending Scan List, or fails at the first test that fails with the
list as it was (R52). -/
def Obligations.ScanAdd : Prop :=
  ∀ (s : State) (o : Order), s.Takes o .scanAdd →
    let addresses := (o.body.take o.count).map BitVec.toNat
    let inRange := 1 ≤ o.count ∧ o.count ≤ 16 ∧ ∀ a ∈ addresses, 1 ≤ a ∧ a ≤ 125
    (¬ inRange → exec .scanAdd s = .next (s.finished o .badOrder 0 (.values [])).settle) ∧
    (inRange → ∀ i a, addresses[i]? = some a → s.station? a = none →
      (∀ j b, j < i → addresses[j]? = some b → (s.station? b).isSome) →
      exec .scanAdd s = .next (s.finished o .notFound i (.values [])).settle) ∧
    (inRange → (∀ a ∈ addresses, (s.station? a).isSome) →
      (64 < s.swe.pendingList.length + o.count →
        exec .scanAdd s = .next (s.finished o .listFull 0 (.values [])).settle) ∧
      (s.swe.pendingList.length + o.count ≤ 64 →
        exec .scanAdd s =
          .next
            (({ s with swe.pendingList := s.swe.pendingList ++ addresses } : State).finished o .done 0
              (.values [])).settle))

/-- SCAN_BEGIN empties the Pending Scan List and clears pending_ready, in any role and any Sweep Engine state; the Active
Scan List and a sweep in progress stay (R51).
SCAN_COMMIT: in IDLE and STOPPED the swap takes place at once, in SWEEPING pending_ready is set; the order ends DONE
(R53). -/
def Obligations.ScanBeginAndCommit : Prop :=
  (∀ (s : State) (o : Order), s.Takes o .scanBegin →
      exec .scanBegin s =
        .next
          (({ s with swe.pendingList := [], swe.pendingReady := false } : State).finished o .done 0
            (.values [])).settle) ∧
  (∀ (s : State) (o : Order), s.Takes o .scanCommit →
      (s.swe.state ≠ .sweeping →
        exec .scanCommit s =
          .next
            (({ s with swe.active := s.swe.pendingList, swe.pendingList := [], swe.pendingReady := false } :
                State).finished o .done 0 (.values [])).settle) ∧
      (s.swe.state = .sweeping →
        exec .scanCommit s =
          .next (({ s with swe.pendingReady := true } : State).finished o .done 0 (.values [])).settle))

/-- READ, WRITE and LATCH that pass validation join the tail of the Bus Queue, or wait in QUEUE_WAIT when it holds 4
entries; nothing outside the Order Unit changes (R136, R137, R143, R144).
A LATCH to address 126, which names no station, joins the queue as well (R137).
The validation of a READ, a WRITE and a LATCH, step by step (R136, R137): the first step that fails decides the outcome,
and nothing but the Order Unit changes. -/
def Obligations.BusOrdersAreValidatedAndQueued : Prop :=
  (∀ (s : State) (o : Order) (r : StationRecord), s.msu.role = .active → s.station? o.station = some r →
      r.health ≠ .mismatch → 1 ≤ o.station → o.station ≤ 125 →
      let entry : BusEntry :=
        { order := o, exchangeOpen := false, nextInstance := 0, gathered := [], good := 0, busy := 0, refused := 0
          miss := 0 }
      let t : State :=
        if s.oru.busQueue.length < 4 then
          { s with oru.cache := s.oru.cache.tail, oru.busQueue := s.oru.busQueue ++ [entry] }
        else { s with oru.cache := s.oru.cache.tail, oru.hand := .queueWait o }
      let fits := o.first ≤ 31 ∧ 1 ≤ o.count ∧ o.first + o.count ≤ r.slotCount
      (s.Takes o .read → fits → o.count ≤ 8 → exec .read s = .next t.settle) ∧
      (s.Takes o .write → fits → o.count ≤ 4 →
        (∀ i, i < o.count → (s.point (r.firstSlot + o.first + i)).conv.mode ≠ .total) →
        exec .write s = .next t.settle) ∧
      (s.Takes o .latch → exec .latch s = .next t.settle)) ∧
  (∀ (s : State) (o : Order), s.Takes o .read →
      let inRange := 1 ≤ o.station ∧ o.station ≤ 125 ∧ o.first ≤ 31 ∧ 1 ≤ o.count ∧ o.count ≤ 8
      let ends (outcome : OrderOutcome) := exec .read s = .next (s.finished o outcome 0 (.values [])).settle
      (¬ inRange → ends .badOrder) ∧
      (inRange → s.station? o.station = none → ends .notFound) ∧
      (inRange → ∀ r, s.station? o.station = some r →
        (r.health = .mismatch → ends .mismatch) ∧
        (r.health ≠ .mismatch → r.slotCount < o.first + o.count → ends .badOrder) ∧
        (r.health ≠ .mismatch → o.first + o.count ≤ r.slotCount → s.msu.role ≠ .active → ends .notActive))) ∧
  (∀ (s : State) (o : Order), s.Takes o .latch → o.station = 126 → s.msu.role = .active →
      let entry : BusEntry :=
        { order := o, exchangeOpen := false, nextInstance := 0, gathered := [], good := 0, busy := 0, refused := 0
          miss := 0 }
      let t : State :=
        if s.oru.busQueue.length < 4 then
          { s with oru.cache := s.oru.cache.tail, oru.busQueue := s.oru.busQueue ++ [entry] }
        else { s with oru.cache := s.oru.cache.tail, oru.hand := .queueWait o }
      exec .latch s = .next t.settle) ∧
  (∀ (s : State) (o : Order), s.Takes o .write →
      let inRange := 1 ≤ o.station ∧ o.station ≤ 125 ∧ o.first ≤ 31 ∧ 1 ≤ o.count ∧ o.count ≤ 4
      let ends (outcome : OrderOutcome) := exec .write s = .next (s.finished o outcome 0 (.values [])).settle
      (¬ inRange → ends .badOrder) ∧
      (inRange → s.station? o.station = none → ends .notFound) ∧
      (inRange → ∀ r, s.station? o.station = some r →
        let total := ∃ i, i < o.count ∧ (s.point (r.firstSlot + o.first + i)).conv.mode = .total
        (r.health = .mismatch → ends .mismatch) ∧
        (r.health ≠ .mismatch → r.slotCount < o.first + o.count ∨ total → ends .badOrder) ∧
        (r.health ≠ .mismatch → o.first + o.count ≤ r.slotCount → ¬ total → s.msu.role ≠ .active →
          ends .notActive))) ∧
  (∀ (s : State) (o : Order), s.Takes o .latch →
      let ends (outcome : OrderOutcome) := exec .latch s = .next (s.finished o outcome 0 (.values [])).settle
      (o.station = 0 ∨ 126 < o.station → ends .badOrder) ∧
      (o.station = 126 → s.msu.role ≠ .active → ends .notActive) ∧
      (1 ≤ o.station → o.station ≤ 125 → s.station? o.station = none → ends .notFound) ∧
      (1 ≤ o.station → o.station ≤ 125 → ∀ r, s.station? o.station = some r →
        (r.health = .mismatch → ends .mismatch) ∧
        (r.health ≠ .mismatch → s.msu.role ≠ .active → ends .notActive)))

/-- SNAP returns one value entry for each named point, in ascending channel order, with the standing flags, and changes no
point (R47).
TAKE_TOTALS forms one total entry for each named point and then sets total, value and clip_count of the named TOTAL
points to 0, keeping last_raw, rebase_count, quality and age; no other point changes (R48).
The tests of both, in order (R136, R137): the first that fails decides the outcome, and nothing but the Order Unit
changes. -/
def Obligations.SnapAndTakeTotals : Prop :=
  (∀ (s : State) (o : Order) (r : StationRecord), s.Takes o .snap → s.station? o.station = some r →
      1 ≤ o.station → o.station ≤ 125 → o.first ≤ 31 → 1 ≤ o.count → o.count ≤ 32 →
      o.first + o.count ≤ r.slotCount →
      exec .snap s =
        .next
          (s.finished o .done 0
            (.values ((List.range' o.first o.count).map (fun c =>
              { value := (s.point (r.firstSlot + c)).image.value, channel := c
                quality := (s.point (r.firstSlot + c)).image.quality
                clipped := decide (0 < (s.point (r.firstSlot + c)).image.clipCount)
                rebased := decide (0 < (s.point (r.firstSlot + c)).image.rebaseCount), instanceNo := 0 })))).settle) ∧
  (∀ (s : State) (o : Order) (r : StationRecord), s.Takes o .takeTotals → s.station? o.station = some r →
      1 ≤ o.station → o.station ≤ 125 → o.first ≤ 31 → 1 ≤ o.count → o.count ≤ 32 →
      o.first + o.count ≤ r.slotCount →
      ∃ t, exec .takeTotals s = .next t ∧
        t.oru =
          (s.finished o .done 0
            (.totals ((List.range' o.first o.count).map (fun c =>
              { total := (s.point (r.firstSlot + c)).image.total, age := (s.point (r.firstSlot + c)).image.age
                clipCount := (s.point (r.firstSlot + c)).image.clipCount, channel := c
                quality := (s.point (r.firstSlot + c)).image.quality
                mode := (s.point (r.firstSlot + c)).conv.mode })))).oru ∧
        (∀ slot, slot < 384 →
          t.point slot =
            if r.firstSlot + o.first ≤ slot ∧ slot < r.firstSlot + o.first + o.count ∧
                (s.point slot).conv.mode = .total then
              { conv := (s.point slot).conv
                image := { (s.point slot).image with total := 0, value := 0, clipCount := 0 } }
            else s.point slot) ∧
        t.stations = s.stations ∧ t.ctl = s.ctl ∧ t.xpt = s.xpt ∧ t.swe = s.swe ∧ t.exu = s.exu ∧ t.lanes = s.lanes ∧
        t.bar = s.bar ∧ t.msu = s.msu ∧ t.rpu.staging = s.rpu.staging ∧ t.rpu.events = s.rpu.events ∧
        t.pending = s.pending) ∧
  (∀ (s : State) (o : Order) (c : Instr), (s.Takes o .snap ∧ c = .snap) ∨ (s.Takes o .takeTotals ∧ c = .takeTotals) →
      let inRange := 1 ≤ o.station ∧ o.station ≤ 125 ∧ o.first ≤ 31 ∧ 1 ≤ o.count ∧ o.count ≤ 32
      let ends (outcome : OrderOutcome) := exec c s = .next (s.finished o outcome 0 (.values [])).settle
      (¬ inRange → ends .badOrder) ∧
      (inRange → s.station? o.station = none → ends .notFound) ∧
      (inRange → ∀ r, s.station? o.station = some r → r.slotCount < o.first + o.count → ends .badOrder))

/-- CLAIM (R113): in ACTIVE takeover_shift becomes 0 and the order ends DONE with no ROLE result; in LISTEN with a wind-down
in progress it waits in hand; in LISTEN without one the role becomes ACTIVE, the sweep has a start due, and the ROLE result
of reason CLAIMED is staged, the order completing behind it, where Staging has a place and no ROLE result is due; where it
has none, or one is due, the ROLE result waits and the order with it (R112, R152).
YIELD (R114): in ACTIVE the role becomes LISTEN with reason YIELDED, takeover_shift unchanged, the order waiting for its
ROLE result, and the device leaves ACTIVE as R120 lays down; in LISTEN it ends DONE and changes nothing. That the entries
without an open exchange all leave the Bus Queue for the completion list in the same step is log entry 23 (DEDUCED). -/
def Obligations.ClaimAndYield : Prop :=
  (∀ (s : State) (o : Order), s.Takes o .role → byteAt o.body 0 = 1 →
      (s.msu.role = .active →
        exec .claim s = .next (({ s with msu.shift := 0 } : State).finished o .done 0 (.values [])).settle) ∧
      (s.msu.role = .listen → s.msu.windDown.isSome →
        exec .claim s =
          .next ({ s with oru.cache := s.oru.cache.tail, oru.hand := .claimDeferred o } : State).settle) ∧
      (s.msu.role = .listen → s.msu.windDown = none → s.msu.roleDue = [] →
        s.rpu.staging.length + s.bar.reserved < 6 →
        ∃ t, exec .claim s = .next t ∧
          t.msu = { s.msu with role := .active, shift := 0, takeoverTimer := false, markTimer := true } ∧
          t.swe = { s.swe with state := .idle, startDue := true } ∧ t.exu = { s.exu with overheard := none } ∧
          t.rpu.staging =
            s.rpu.staging ++
              [.role { role := .active, previous := .listen, reason := .claimed, shift := 0
                       contestCount := s.msu.contestCount, foreignTag := none }] ∧
          t.rpu.events.role = true ∧ t.oru = (s.finished o .done 0 (.values [])).oru ∧ t.ctl = s.ctl ∧
          t.xpt = s.xpt ∧ t.stations = s.stations ∧ t.points = s.points ∧ t.lanes = s.lanes ∧ t.bar = s.bar ∧
          t.pending = s.pending) ∧
      (s.msu.role = .listen → s.msu.windDown = none →
        s.msu.roleDue ≠ [] ∨ 6 ≤ s.rpu.staging.length + s.bar.reserved →
        ∃ t, exec .claim s = .next t ∧
          t.msu =
            { s.msu with
              role := .active, shift := 0, takeoverTimer := false, markTimer := true
              roleDue :=
                s.msu.roleDue ++
                  [{ role := .active, previous := .listen, reason := .claimed, shift := 0, foreignTag := none }] } ∧
          t.swe = { s.swe with state := .idle, startDue := true } ∧ t.exu = { s.exu with overheard := none } ∧
          t.rpu.staging = s.rpu.staging ∧
          t.oru = { s.oru with cache := s.oru.cache.tail, hand := .claimStaging o } ∧ t.ctl = s.ctl ∧
          t.xpt = s.xpt ∧ t.stations = s.stations ∧ t.points = s.points ∧ t.lanes = s.lanes ∧ t.bar = s.bar ∧
          t.pending = s.pending)) ∧
  (∀ (s : State) (o : Order), s.Takes o .role → byteAt o.body 0 = 2 →
      (s.msu.role = .active →
        ∃ t, exec .yield s = .next t ∧ t.msu.role = .listen ∧ t.msu.shift = s.msu.shift ∧
          t.msu.markTimer = false ∧ t.msu.markClaim = false ∧ t.msu.windDown = some { awaitHand := false } ∧
          t.msu.roleDue =
            s.msu.roleDue ++
              [{ role := .listen, previous := .active, reason := .yielded, shift := s.msu.shift, foreignTag := none }] ∧
          t.msu.contestCount = s.msu.contestCount ∧ t.oru.hand = .yieldStaging o ∧ t.oru.cache = s.oru.cache.tail ∧
          t.oru.busQueue = s.oru.busQueue.filter (fun e => e.exchangeOpen) ∧
          t.oru.completion =
            (s.oru.busQueue.filter (fun e => !e.exchangeOpen)).map
              (fun e => { fromHand := false, result := e.result .notActive }) ∧
          t.exu.exchange = s.exu.exchange.map (fun x => { x with noRetry := true }) ∧ t.swe.state = .stopped ∧
          t.swe.sweepCount = s.swe.sweepCount ∧ t.ctl = s.ctl ∧ t.xpt = s.xpt ∧ t.stations = s.stations ∧
          t.points = s.points ∧ t.lanes = s.lanes ∧ t.bar = s.bar ∧ t.pending = s.pending) ∧
      (s.msu.role = .listen → exec .yield s = .next (s.finished o .done 0 (.values [])).settle))

/-- ORDER_RESULT_STAGE: the head of the completion list is staged when Staging has a free place, ORDER_ERR is set for
BAD_ORDER, and the hand becomes EMPTY if the result was that of its order (R134, R135, R176).
The fields of an ORDER result (R131, R132, R139): kind, order_id and flags as the order had them; REPEAT_IGNORED for a
recognised kind other than READ and SHAPE with a repeat other than 0; the station for a kind that uses it, 0 otherwise.
The outcome of a READ whose instances have all been made, from its tallies (R148). The result of an entry: a READ carries
its gathered entries and, as its detail, the number of instances made (R148, R149).
The close of a READ instance (R147, R149): the tally of its class, or MISS, and next instance go up by 1, and a GOOD
instance gathers its reading reports under its number; then the READ ends with the outcome of R148, or, with an instance
still to make, claims again, ends ABANDONED in a drain, or ends NOT_ACTIVE outside ACTIVE. That an entry whose exchange was open
as the role left ACTIVE in RUNNING, and closes only after a HALT, ends ABANDONED and not NOT_ACTIVE is log entry 37 (DESIGN CHOICE,
unsafe).
The close of a verification exchange (R145): a matching GOOD reply lets the entry go on, any other GOOD reply and a REFUSED
one end it MISMATCH, BUSY ends it BUSY, and MISS ends it NO_REPLY. The close of a STORE (R150): DONE, BUSY, REFUSED or
NO_REPLY. As an entry leaves the queue an order in QUEUE_WAIT joins it, and a MARKER completes if the queue is then empty
(R143, R153). -/
def Obligations.OrderResults : Prop :=
  (∀ (s : State) (c : Completed) (rest : List Completed), s.Hosting → s.oru.completion = c :: rest →
      s.rpu.staging.length + s.bar.reserved < 6 →
      ∃ t, exec .orderResultStage s = .next t ∧ t.rpu.staging = s.rpu.staging ++ [.order c.result] ∧
        t.oru =
          { s.oru with completion := rest, hand := if c.fromHand then .empty else s.oru.hand } ∧
        t.rpu.events =
          (if c.result.outcome = .badOrder then { s.rpu.events with orderErr := true } else s.rpu.events) ∧
        t.msu =
          { s.msu with
            windDown :=
              if c.fromHand then s.msu.windDown.map (fun _ => { awaitHand := false }) else s.msu.windDown } ∧
        t.ctl = s.ctl ∧ t.xpt = s.xpt ∧ t.stations = s.stations ∧ t.points = s.points ∧ t.swe = s.swe ∧ t.exu = s.exu ∧
        t.lanes = s.lanes ∧ t.bar = s.bar ∧ t.rpu.resultsWritten = s.rpu.resultsWritten ∧ t.pending = s.pending) ∧
  (∀ (o : Order) (outcome : OrderOutcome) (detail : Nat) (entries : Entries),
      let r := o.result outcome detail entries
      r.kind = o.kind ∧ r.orderId = o.orderId ∧ r.urgent = o.urgent ∧ r.reportNow = o.reportNow ∧
      r.outcome = outcome ∧ r.detail = detail ∧ r.entries = entries ∧
      (r.repeatIgnored = true ↔
        o.repeats ≠ 0 ∧ o.kind?.isSome ∧ o.kind? ≠ some .read ∧ o.kind? ≠ some .shape) ∧
      r.station =
        (if o.kind? ∈ [some .enrol, some .retire, some .shape, some .read, some .write, some .latch, some .snap,
            some .takeTotals] then o.station else 0)) ∧
  (∀ e : BusEntry,
      (0 < e.good → e.busy + e.refused + e.miss = 0 → e.readOutcome = .done) ∧
      (0 < e.good → 0 < e.busy + e.refused + e.miss → e.readOutcome = .partialReads) ∧
      (e.good = 0 → 0 < e.refused → e.readOutcome = .refused) ∧
      (e.good = 0 → e.refused = 0 → 0 < e.busy → e.readOutcome = .busy) ∧
      (e.good = 0 → e.refused = 0 → e.busy = 0 → e.readOutcome = .noReply)) ∧
  (∀ (e : BusEntry) (outcome : OrderOutcome),
      (e.order.kind? = some .read → e.result outcome = e.order.result outcome e.nextInstance (.values e.gathered)) ∧
      (e.order.kind? ≠ some .read → e.result outcome = e.order.result outcome 0 (.values []))) ∧
  (∀ (s : State) (x : Exchange) (front back : List BusEntry) (e : BusEntry), s.Hosting → x.claimant = .busEntry →
      s.OpenEntry front e back →
      (x.verb = .fetch → ∀ (o : ExchangeOutcome) (f : BusEntry),
        ((∃ q, o = .reply q ∧ q.cls = .good ∧
            f =
              { e with
                nextInstance := e.nextInstance + 1, good := e.good + 1
                gathered :=
                  e.gathered ++ (s.deliver x o).2.map (fun v => { v with instanceNo := e.nextInstance }) }) ∨
          (∃ q, o = .reply q ∧ q.cls = .busy ∧
            f = { e with nextInstance := e.nextInstance + 1, busy := e.busy + 1 }) ∨
          (∃ q, o = .reply q ∧ q.cls = .refused ∧
            f = { e with nextInstance := e.nextInstance + 1, refused := e.refused + 1 }) ∨
          (o = .miss ∧ f = { e with nextInstance := e.nextInstance + 1, miss := e.miss + 1 })) →
        (e.order.repeats ≤ e.nextInstance →
          (s.closeExchange x o).oru = s.entryEnds front f back f.readOutcome) ∧
        (e.nextInstance < e.order.repeats → (s.closeExchange x o).oru = s.entryGoesOn front f back)) ∧
      (x.verb = .query → ∀ r, s.station? x.address = some r → r.verified = false →
        (∀ q kind channels, q.cls = .good → q.identity = some (kind, channels) →
          (kind = r.kind → r.slotCount ≤ channels →
            (s.closeExchange x (.reply q)).oru = s.entryGoesOn front e back) ∧
          (kind ≠ r.kind ∨ channels < r.slotCount →
            (s.closeExchange x (.reply q)).oru = s.entryEnds front e back .mismatch)) ∧
        (∀ q, q.cls = .refused → (s.closeExchange x (.reply q)).oru = s.entryEnds front e back .mismatch) ∧
        (∀ q, q.cls = .busy → (s.closeExchange x (.reply q)).oru = s.entryEnds front e back .busy) ∧
        (s.closeExchange x .miss).oru = s.entryEnds front e back .noReply) ∧
      (x.verb = .store →
        (∀ q, q.cls = .good → (s.closeExchange x (.reply q)).oru = s.entryEnds front e back .done) ∧
        (∀ q, q.cls = .busy → (s.closeExchange x (.reply q)).oru = s.entryEnds front e back .busy) ∧
        (∀ q, q.cls = .refused → (s.closeExchange x (.reply q)).oru = s.entryEnds front e back .refused) ∧
        (s.closeExchange x .miss).oru = s.entryEnds front e back .noReply))

/-! ### The bus -/

/-- The arbiter's choice (R104): the oldest URGENT claim; else, where the oldest normal entry and the sweep both claim, the
one that the turn token names; else the one that claims; else a mark.
A grant is made only in ACTIVE and RUNNING, with no exchange open, three Staging places free, and no ROLE result due: one
that waits is to precede, in Staging, the results of every exchange of the new mastership (R102, R103, R112; that BUS_GRANT
waits for it is log entry 30, DEDUCED). A BUS_GRANT that finds no claim or is barred changes nothing.
BUS_GRANT of a sweep poll to an unverified station opens a QUERY, as at first contact (R9).
BUS_GRANT of a sweep poll to a verified station: a FETCH of the smaller of read_chunk and slot_count − read_cursor
channels from read_cursor opens with the sequence counter's value, two Staging places are reserved, the turn token names the
Bus Queue, and nothing else but the lanes changes (R9, R21, R77, R78, R103, R105). The request begins on the lanes that the
lane mode, the station's lane_pref as read at the grant, and the sweep's first-poll mark, which makes the poll a probe, give
(R3, R88, R94, R96; those lanes are stated in LanesOfAttempts); the other lane stays as it was. That a lane on which it begins is
quiet from then on, so that a telegram being received there is dropped uncounted, is log entry 9 (DEDUCED, unsafe). -/
def Obligations.BusIsGranted : Prop :=
  (∀ s : State,
      let urgent := s.oru.busQueue.findIdx? (fun e => e.order.urgent && !e.exchangeOpen)
      let normal := s.oru.busQueue.findIdx? (fun e => !e.order.urgent && !e.exchangeOpen)
      (∀ i, urgent = some i → s.chooseClaim = some (.entry i)) ∧
      (urgent = none →
        (∀ i a, normal = some i → s.swe.claim = some a →
          s.chooseClaim = some (if s.bar.token = .sweepEngine then .sweep a else .entry i)) ∧
        (∀ i, normal = some i → s.swe.claim = none → s.chooseClaim = some (.entry i)) ∧
        (∀ a, normal = none → s.swe.claim = some a → s.chooseClaim = some (.sweep a)) ∧
        (normal = none → s.swe.claim = none →
          s.chooseClaim = if s.msu.markClaim then some .mark else none))) ∧
  (∀ s : State,
      (s.grantOpen = true ↔
        s.msu.role = .active ∧ s.ctl.exchangeState = .running ∧ s.exu.exchange = none ∧
          s.rpu.staging.length + s.bar.reserved ≤ 3 ∧ s.msu.roleDue = []) ∧
      (s.grantOpen = false ∨ s.chooseClaim = none → exec .busGrant s = .next s)) ∧
  (∀ (s : State) (r : StationRecord) (a : Nat), s.msu.role = .active → s.ctl.exchangeState = .running →
      s.exu.exchange = none → s.rpu.staging.length + s.bar.reserved ≤ 3 → s.msu.roleDue = [] →
      s.chooseClaim = some (.sweep a) → s.station? a = some r → r.health ≠ .mismatch →
      let first := if r.verified then r.readCursor else 0
      let count := if r.verified then min r.readChunk (r.slotCount - r.readCursor) else 1
      let verb : Verb := if r.verified then .fetch else .query
      let telegram :=
        Request.telegram
          { address := r.address, tag := s.dir.masterTag, verb := verb, seq := s.exu.seqCounter, first := first
            count := count, values := [] }
      let lanes := s.firstLanes verb r.address r.lanePref s.swe.firstPoll
      ∃ t x, exec .busGrant s = .next t ∧ t.exu.exchange = some x ∧ x.claimant = .sweep ∧ x.address = r.address ∧
        x.verb = verb ∧ x.first = first ∧ x.count = count ∧ x.seq = s.exu.seqCounter ∧
        x.attempts = 1 + r.retryLimit ∧ x.attempt = 1 ∧ x.noRetry = false ∧
        t.exu.seqCounter = s.exu.seqCounter + 1 ∧ t.exu.overheard = s.exu.overheard ∧ t.bar.reserved = 2 ∧
        t.bar.token = .busQueue ∧ t.swe = { s.swe with claim := none, firstPoll := false } ∧
        (s.dir.laneMode = .mirror → x.partA = .sending ∧ x.partB = .sending) ∧
        (s.dir.laneMode = .singleA → x.partA = .sending ∧ x.partB = .unused) ∧
        (s.dir.laneMode = .singleB → x.partA = .unused ∧ x.partB = .sending) ∧
        x.lanePref = r.lanePref ∧ x.partA = (if lanes.1 then .sending else .unused) ∧
        x.partB = (if lanes.2 then .sending else .unused) ∧ x.failedA = false ∧ x.failedB = false ∧
        t.lanes =
          { s.lanes with
            a := if lanes.1 then { s.lanes.a with tx := .starting telegram, rx := .quiet } else s.lanes.a
            b := if lanes.2 then { s.lanes.b with tx := .starting telegram, rx := .quiet } else s.lanes.b } ∧
        t.ctl = s.ctl ∧ t.xpt = s.xpt ∧ t.stations = s.stations ∧ t.points = s.points ∧ t.msu = s.msu ∧
        t.oru = s.oru ∧ t.rpu.staging = s.rpu.staging ∧ t.rpu.events = s.rpu.events ∧ t.pending = s.pending)

/-- BUS_GRANT of a Bus Queue entry (R9, R78, R103, R105, R146, R147, R150, R151): to a verified station the order's own
exchange opens, to an unverified one a QUERY, and a LATCH to address 126 opens as it is; the entry is marked open, two
Staging places are reserved and the turn token names the Sweep Engine. The request begins on the lanes that the lane mode and
the station's lane_pref as read at the grant give, an entry's exchange being no probe (R88, R94, R96; those lanes are stated in
LanesOfAttempts), and the other lane stays as it was; that the receiver of a lane on which it begins is quiet from then on is log
entry 9 (DEDUCED, unsafe). An entry whose station is in MISMATCH ends MISMATCH
with no exchange, whatever the hand holds. That one BUS_GRANT makes one choice, so that the choice which R105 has follow at
once is the next BUS_GRANT's, is log entry 13 (DESIGN CHOICE).
BUS_GRANT of a mark: the MARK exchange opens on both lanes in every lane mode, the mark claim is withdrawn and the token stays
(R88, R105, R119).
BUS_GRANT of a poll whose station is in MISMATCH opens no exchange: the claim ends, its entry counts as skipped, and the walk
goes on at the next (R9, R58, R59); the walk is stated in SweepTimersAndClaims. -/
def Obligations.EntriesAndMarksAreGranted : Prop :=
  (∀ (s : State) (i : Nat) (e : BusEntry), s.grantOpen = true → s.chooseClaim = some (.entry i) →
      s.oru.busQueue[i]? = some e →
      let begins (pref : LaneId) (x : Exchange) (t : State) : Prop :=
        let lanes := s.firstLanes x.verb x.address pref false
        let telegram := (s.request x).telegram
        x.claimant = .busEntry ∧ x.seq = s.exu.seqCounter ∧ x.attempt = 1 ∧ x.noRetry = false ∧ x.lanePref = pref ∧
          x.failedA = false ∧ x.failedB = false ∧ x.partA = (if lanes.1 then .sending else .unused) ∧
          x.partB = (if lanes.2 then .sending else .unused) ∧
          t.exu = { s.exu with exchange := some x, seqCounter := s.exu.seqCounter + 1 } ∧
          t.lanes =
            { s.lanes with
              a := if lanes.1 then { s.lanes.a with tx := .starting telegram, rx := .quiet } else s.lanes.a
              b := if lanes.2 then { s.lanes.b with tx := .starting telegram, rx := .quiet } else s.lanes.b } ∧
          t.oru = { s.oru with busQueue := s.oru.busQueue.set i { e with exchangeOpen := true } } ∧
          t.bar = { token := .sweepEngine, reserved := 2 } ∧ t.ctl = s.ctl ∧ t.xpt = s.xpt ∧
          t.stations = s.stations ∧ t.points = s.points ∧ t.swe = s.swe ∧ t.msu = s.msu ∧
          t.rpu.staging = s.rpu.staging ∧ t.pending = s.pending
      (∀ r, e.order.station ≠ 126 → s.station? e.order.station = some r → r.health ≠ .mismatch →
        ∃ t x, exec .busGrant s = .next t ∧ begins r.lanePref x t ∧ x.address = r.address ∧
          (r.verified = false → x.verb = .query ∧ x.attempts = 1 + r.retryLimit) ∧
          (r.verified = true → e.order.kind? = some .read →
            x.verb = .fetch ∧ x.first = e.order.first ∧ x.count = e.order.count ∧ x.attempts = 1 + r.retryLimit) ∧
          (r.verified = true → e.order.kind? = some .write →
            x.verb = .store ∧ x.first = e.order.first ∧ x.count = e.order.count ∧ x.attempts = 1 + r.retryLimit ∧
            x.values = (List.range e.order.count).map (fun k => leWord e.order.body (4 * k))) ∧
          (r.verified = true → e.order.kind? = some .latch → x.verb = .latch ∧ x.attempts = 1)) ∧
      (e.order.station = 126 →
        ∃ t x, exec .busGrant s = .next t ∧ begins .a x t ∧ x.verb = .latch ∧ x.address = 126 ∧ x.attempts = 1) ∧
      (∀ r, e.order.station ≠ 126 → s.station? e.order.station = some r → r.health = .mismatch →
        ∃ t, exec .busGrant s = .next t ∧
          t.oru = s.oru.leaves false (s.oru.busQueue.eraseIdx i) (e.result .mismatch) ∧
          t.exu = s.exu ∧ t.bar = s.bar ∧ t.lanes = s.lanes ∧ t.ctl = s.ctl ∧ t.xpt = s.xpt ∧
          t.stations = s.stations ∧ t.points = s.points ∧ t.swe = s.swe ∧ t.msu = s.msu ∧
          t.rpu.staging = s.rpu.staging ∧ t.pending = s.pending)) ∧
  (∀ s : State, s.grantOpen = true → s.chooseClaim = some .mark →
      ∃ t x, exec .busGrant s = .next t ∧ t.exu.exchange = some x ∧ x.claimant = .mark ∧ x.verb = .mark ∧
        x.address = 127 ∧ x.attempts = 1 ∧ x.partA = .sending ∧ x.partB = .sending ∧ x.seq = s.exu.seqCounter ∧
        x.first = 0 ∧ x.count = 1 ∧ t.exu = { s.exu with exchange := some x, seqCounter := s.exu.seqCounter + 1 } ∧
        t.lanes =
          { s.lanes with
            a := { s.lanes.a with tx := .starting (s.request x).telegram, rx := .quiet }
            b := { s.lanes.b with tx := .starting (s.request x).telegram, rx := .quiet } } ∧
        t.msu = { s.msu with markClaim := false } ∧ t.bar = { s.bar with reserved := 2 } ∧ t.oru = s.oru ∧
        t.swe = s.swe ∧ t.stations = s.stations ∧ t.points = s.points ∧ t.rpu.staging = s.rpu.staging ∧
        t.ctl = s.ctl ∧ t.xpt = s.xpt ∧ t.pending = s.pending) ∧
  (∀ (s : State) (a : Nat) (r : StationRecord), s.grantOpen = true → s.chooseClaim = some (.sweep a) →
      s.station? a = some r → r.health = .mismatch →
      exec .busGrant s =
        .next
          ({ s with
              swe.claim := none, swe.cursor := s.swe.cursor + 1, swe.skipped := s.swe.skipped + 1 } :
            State).walk.settle)

/-- The lanes of the first attempt (R88, R94, R96, R98), and of a retry: the other lane in ALTERNATE (R95), and the same
lanes otherwise (R92, R98). -/
def Obligations.LanesOfAttempts : Prop :=
  (∀ (s : State) (address : Nat) (pref : LaneId) (verb : Verb) (probe : Bool),
    s.firstLanes .mark address pref probe = (true, true) ∧
    (s.dir.laneMode = .mirror → s.firstLanes verb address pref probe = (true, true)) ∧
    (s.dir.laneMode = .singleA → verb ≠ .mark → s.firstLanes verb address pref probe = (true, false)) ∧
    (s.dir.laneMode = .singleB → verb ≠ .mark → s.firstLanes verb address pref probe = (false, true)) ∧
    (s.dir.laneMode = .alternate → s.firstLanes .latch 126 pref probe = (true, true)) ∧
    (s.dir.laneMode = .alternate → verb ≠ .mark → address ≠ 126 →
      (s.lanes.a.up = true → s.lanes.b.up = false →
        s.firstLanes verb address pref true = (false, true) ∧
        s.firstLanes verb address pref false = (true, false)) ∧
      (s.lanes.a.up = false → s.lanes.b.up = true →
        s.firstLanes verb address pref true = (true, false) ∧
        s.firstLanes verb address pref false = (false, true)) ∧
      (s.lanes.a.up = true → s.lanes.b.up = true →
        s.firstLanes verb address .a probe = (true, false) ∧ s.firstLanes verb address .b probe = (false, true)) ∧
      (s.lanes.a.up = false → s.lanes.b.up = false →
        s.firstLanes verb address .a probe = (false, true) ∧ s.firstLanes verb address .b probe = (true, false)))) ∧
  (∀ (s : State) (x : Exchange),
      (s.dir.laneMode = .alternate →
        ((s.retryLanes x).1 = true ↔ x.partA = .unused) ∧ ((s.retryLanes x).2 = true ↔ x.partB = .unused)) ∧
      (s.dir.laneMode ≠ .alternate →
        ((s.retryLanes x).1 = true ↔ x.partA ≠ .unused) ∧ ((s.retryLanes x).2 = true ↔ x.partB ≠ .unused)))

/-- START_DELIMITER of an own telegram: it is counted on its lane, the lane sends it, and it is line activity, which in
RUNNING restarts the mark timer and withdraws a mark claim in ACTIVE and restarts the takeover timer in LISTEN (R69, R100,
R111, R119). That a readied telegram is sent in every role, LISTEN and OFF included, is the model's choice (log entry 31, DESIGN
CHOICE, unsafe: R79 lets a telegram begin only in ACTIVE), and that its delimiter is a command of its own, after the step that
readied it, is log entry 8 (DEDUCED).
START_DELIMITER heard, a hold of 1.5 to 2.5 bit-times after quiet on a lane that does not transmit: the lane receives,
the delimiter is line activity, which restarts the mark timer and withdraws a mark claim in ACTIVE and restarts the takeover
timer in LISTEN (R111, R119), and it begins the first telegram of a reply window that runs on the lane (R69, R80). In a
window of the overheard exchange that still runs it begins that lane's first telegram; on a lane not in the overheard exchange
it is late once the first lane's window has expired, so that its telegram cannot be the mirrored copy (R86). A hold
of less than 1.5 bit-times is no delimiter, reports nothing and discards the lane's transitions until it is quiet again
(R69). -/
def Obligations.DelimitersAndHolds : Prop :=
  (∀ (s : State) (lane : LaneId) (telegram : List Byte), (s.lanes.get lane).tx = .starting telegram →
      ∃ t, exec (.startDelimiter lane .sent) s = .next t ∧
        t.lanes.get lane =
          { s.lanes.get lane with tx := .sending telegram, sent := (s.lanes.get lane).sent + 1 } ∧
        t.lanes.get (otherLane lane) = s.lanes.get (otherLane lane) ∧
        t.lanes.silentWindows = s.lanes.silentWindows ∧ t.lanes.disagreements = s.lanes.disagreements ∧
        (s.ctl.exchangeState = .running → s.msu.role = .active →
          t.msu = { s.msu with markTimer := true, markClaim := false }) ∧
        (s.ctl.exchangeState = .running → s.msu.role = .listen →
          t.msu = { s.msu with takeoverTimer := s.msu.windDown.isNone }) ∧
        (s.ctl.exchangeState ≠ .running ∨ s.msu.role = .off → t.msu = s.msu) ∧
        t.exu = s.exu ∧ t.ctl = s.ctl ∧ t.xpt = s.xpt ∧ t.stations = s.stations ∧ t.points = s.points ∧ t.swe = s.swe ∧
        t.bar = s.bar ∧ t.oru = s.oru ∧ t.rpu.staging = s.rpu.staging ∧ t.pending = s.pending) ∧
  (∀ (s : State) (lane : LaneId) (d : Directory) (holdNs : Nat), s.xpt.directory = some d →
      (s.lanes.get lane).tx = .idle →
      ((s.lanes.get lane).rx = .quiet → 3 * d.bitRate.bitTime ≤ 2 * holdNs → 2 * holdNs ≤ 5 * d.bitRate.bitTime →
        ∃ t, exec (.startDelimiter lane (.heard holdNs)) s = .next t ∧
          t.lanes.get lane = { s.lanes.get lane with rx := .receiving } ∧
          t.lanes.get (otherLane lane) = s.lanes.get (otherLane lane) ∧
          t.exu.seqCounter = s.exu.seqCounter ∧
          (∀ x, s.exu.exchange = some x → x.verb ≠ .latch → x.part lane = .waiting →
            t.exu.exchange =
              some
                (match lane with
                | .a => { x with partA := .receiving }
                | .b => { x with partB := .receiving })) ∧
          (∀ x, s.exu.exchange = some x → x.verb = .latch ∨ x.part lane ≠ .waiting → t.exu.exchange = some x) ∧
          (s.exu.exchange = none → t.exu.exchange = none) ∧
          (∀ w l, s.exu.overheard = some w → w.lane lane = some l →
            (l.result = .waiting → l.windowExpired = false →
              t.exu.overheard = some (w.setLane lane { l with receiving := true })) ∧
            (l.result ≠ .waiting ∨ l.windowExpired = true → t.exu.overheard = some w)) ∧
          (∀ w l, s.exu.overheard = some w → w.lane lane = none → w.lane w.firstLane = some l →
            t.exu.overheard = some (w.setLate lane l.windowExpired)) ∧
          (s.exu.overheard = none → t.exu.overheard = none) ∧
          (s.ctl.exchangeState = .running → s.msu.role = .active →
            t.msu = { s.msu with markTimer := true, markClaim := false }) ∧
          (s.ctl.exchangeState = .running → s.msu.role = .listen →
            t.msu = { s.msu with takeoverTimer := s.msu.windDown.isNone }) ∧
          (s.ctl.exchangeState ≠ .running ∨ s.msu.role = .off → t.msu = s.msu) ∧
          t.ctl = s.ctl ∧ t.xpt = s.xpt ∧ t.stations = s.stations ∧ t.points = s.points ∧ t.swe = s.swe ∧
          t.bar = s.bar ∧ t.oru = s.oru ∧ t.rpu.staging = s.rpu.staging ∧ t.pending = s.pending) ∧
      ((s.lanes.get lane).rx = .quiet → 2 * holdNs < 3 * d.bitRate.bitTime →
        exec (.noDelimiter lane holdNs) s = .next (s.updateLane lane (fun l => { l with rx := .discarding }))) ∧
      ((s.lanes.get lane).rx = .discarding →
        exec (.laneQuiet lane) s = .next (s.updateLane lane (fun l => { l with rx := .quiet }))))

/-- TELEGRAM_SENT: the transmitter is disabled and the lane taken as quiet (R68). For every verb but MARK the reply window opens
on the lane (R80). A MARK's part on the lane is over: while its other copy is still being sent the exchange stays open, and
with its last copy it closes with nothing handed on (R83); the close also ends a drain's wait for the role, which becomes OFF
with the overheard exchange discarded, and in FAULTED a wind-down (R121, R123). -/
def Obligations.TelegramSent : Prop :=
  ∀ (s : State) (lane : LaneId) (telegram : List Byte) (x : Exchange),
    (s.lanes.get lane).tx = .sending telegram → s.exu.exchange = some x → x.part lane = .sending →
    let frame (t : State) : Prop :=
      t.lanes = (s.updateLane lane (fun l => { l with tx := .idle, rx := .quiet })).lanes ∧ t.ctl = s.ctl ∧
        t.xpt = s.xpt ∧ t.stations = s.stations ∧ t.points = s.points ∧ t.swe = s.swe ∧ t.oru = s.oru ∧
        t.rpu.staging = s.rpu.staging ∧ t.pending = s.pending
    (x.verb ≠ .mark →
      ∃ t, exec (.telegramSent lane) s = .next t ∧ frame t ∧
        t.exu = { s.exu with exchange := some (x.setPart lane .waiting) } ∧ t.bar = s.bar ∧ t.msu = s.msu) ∧
    (x.verb = .mark → x.part (otherLane lane) = .sending →
      ∃ t, exec (.telegramSent lane) s = .next t ∧ frame t ∧
        t.exu = { s.exu with exchange := some (x.setPart lane .closed) } ∧ t.bar = s.bar ∧ t.msu = s.msu) ∧
    (x.verb = .mark → x.claimant = .mark → x.part (otherLane lane) = .closed →
      ∃ t, exec (.telegramSent lane) s = .next t ∧ frame t ∧
        t.exu =
          { s.exu with
            exchange := none, overheard := if s.msu.offAtClose then none else s.exu.overheard } ∧
        t.bar = { s.bar with reserved := 0 } ∧ t.msu = s.mastershipAtClose)

/-- TELEGRAM_RECEIVED on a lane that receives: the lane is quiet again, and damaged received goes up by 1 exactly for a
damaged telegram and for a request that is the first telegram of an own reply window (R74, R100); no telegram is counted as
sent, and the other lane's counts stay. -/
def Obligations.TelegramIsCounted : Prop :=
  ∀ (s : State) (lane : LaneId) (d : Directory) (intervals : List Nat), s.xpt.directory = some d →
    (s.lanes.get lane).tx = .idle → (s.lanes.get lane).rx = .receiving →
    ∃ t, exec (.telegramReceived lane intervals) s = .next t ∧ (t.lanes.get lane).rx = .quiet ∧
      (t.lanes.get lane).damaged =
        (s.lanes.get lane).damaged +
          (match receive d.bitRate intervals with
            | none => 1
            | some (.request _) => if s.receivingReply lane then 1 else 0
            | some (.reply _) => 0) ∧
      (t.lanes.get (otherLane lane)).damaged = (s.lanes.get (otherLane lane)).damaged ∧
      (∀ l, (t.lanes.get l).sent = (s.lanes.get l).sent) ∧ t.xpt = s.xpt ∧ t.ctl = s.ctl ∧
      t.oru.cache = s.oru.cache ∧ t.rpu.resultsWritten = s.rpu.resultsWritten ∧ t.rpu.lastTag = s.rpu.lastTag ∧
      t.exu.seqCounter = s.exu.seqCounter ∧ t.pending = s.pending

/-- A GOOD reply that ends a sweep's FETCH on a single lane (R12, R15, R22, R28, R30, R60, R80, R103): the exchange closes
and its reservation is released; the station has miss_count 0, the reply's condition, its cursor moved, and is ONLINE; the
named points take their readings and no other point changes. -/
def Obligations.GoodReplyClosesAPoll : Prop :=
  ∀ (s : State) (d : Directory) (intervals : List Nat) (x : Exchange) (q : Reply) (r : StationRecord),
    s.xpt.directory = some d → d.laneMode = .singleA → s.lanes.a.tx = .idle → s.lanes.a.rx = .receiving →
    s.exu.exchange = some x → x.claimant = .sweep → x.verb = .fetch → x.partA = .receiving → x.partB = .unused →
    s.ctl.exchangeState = .running → s.msu.role = .active → s.msu.offAtClose = false →
    receive d.bitRate intervals = some (.reply q) → q.address = x.address → q.seq = x.seq → q.verb = .fetch →
    q.count = x.count → q.cls = .good → q.values.length = x.count →
    s.station? x.address = some r → r.verified = true →
    (r.health = .online ∨ r.health = .suspect ∨ r.health = .offline) →
    x.first + x.count ≤ r.slotCount → r.firstSlot + r.slotCount ≤ 384 →
    ∃ t, exec (.telegramReceived .a intervals) s = .next t ∧ t.exu.exchange = none ∧ t.bar.reserved = 0 ∧
      t.bar.token = s.bar.token ∧ t.msu = s.msu ∧ t.oru = s.oru ∧
      t.station? x.address =
        some
          { r with
            missCount := 0, lastCondition := some q.condition, health := .online
            readCursor := (r.readCursor + x.count) % r.slotCount } ∧
      (∀ b, b ≠ x.address → t.station? b = s.station? b) ∧
      (∀ slot, slot < 384 →
        t.point slot =
          if r.firstSlot + x.first ≤ slot ∧ slot < r.firstSlot + x.first + x.count then
            (conditionPoint s.swe.sweepCount (s.point slot)
              (q.values.getD (slot - (r.firstSlot + x.first)) 0)).point
          else s.point slot) ∧
      t.swe.misses = s.swe.misses ∧ t.lanes.a.faults = 0 ∧ t.lanes.a.up = true

/-- REPLY_WINDOW_EXPIRY, an attempt on a single lane silent with attempts left: in ACTIVE, with the no-retry mark clear, the
same request begins again on that lane, and the exchange stays open (R79, R82).
REPLY_WINDOW_EXPIRY, the last attempt on a single lane silent: the exchange closes MISS, the silent window is counted,
no lane is blamed, the station's record counts the miss, and the sweep counts it among its polls and its misses
(R13, R60, R80, R82, R98, R100): the cursor moves to the next entry, and past the last entry the sweep ends (R61).
A LATCH closes QUIET when its window has expired on its last lane: no record, point or lane count changes, and its entry, wherever
it stands in the queue, leaves it, its order ending DONE (R83, R99, R151); an order in QUEUE_WAIT then joins the queue, and a
MARKER ends if it is empty (R143, R153). While another lane's window runs, the exchange stays open. The close also ends a
drain's wait for the role, which becomes OFF with the overheard exchange discarded, and in FAULTED, where the entry no longer
exists, a wind-down (R121, R123, R156). -/
def Obligations.WindowsExpire : Prop :=
  (∀ (s : State) (d : Directory) (x : Exchange),
      s.xpt.directory = some d → d.laneMode = .singleA → s.exu.exchange = some x → x.verb = .fetch →
      x.partA = .waiting → x.partB = .unused → x.attempt < x.attempts → x.noRetry = false → s.msu.role = .active →
      ∃ t, exec (.replyWindowExpiry .a) s = .next t ∧
        t.exu =
          { s.exu with
            exchange := some { x with attempt := x.attempt + 1, partA := .sending, failedA := true } } ∧
        t.lanes.a.tx = .starting (s.request x).telegram ∧ t.lanes.a.sent = s.lanes.a.sent ∧ t.lanes.b = s.lanes.b ∧
        t.lanes.silentWindows = s.lanes.silentWindows + 1 ∧ t.lanes.disagreements = s.lanes.disagreements ∧
        t.ctl = s.ctl ∧ t.xpt = s.xpt ∧ t.stations = s.stations ∧ t.points = s.points ∧ t.swe = s.swe ∧ t.bar = s.bar ∧
        t.msu = s.msu ∧ t.oru = s.oru ∧ t.rpu.staging = s.rpu.staging ∧ t.pending = s.pending) ∧
  (∀ (s : State) (d : Directory) (x : Exchange) (r : StationRecord),
      s.xpt.directory = some d → d.laneMode = .singleA → s.exu.exchange = some x → x.claimant = .sweep →
      x.verb = .fetch → x.partA = .waiting → x.partB = .unused → x.attempt = x.attempts →
      s.ctl.exchangeState = .running → s.msu.role = .active → s.msu.offAtClose = false →
      s.station? x.address = some r →
      ∃ t, exec (.replyWindowExpiry .a) s = .next t ∧ t.exu.exchange = none ∧ t.bar.reserved = 0 ∧
        t.station? x.address = some r.missed ∧ (∀ b, b ≠ x.address → t.station? b = s.station? b) ∧
        t.lanes = { s.lanes with silentWindows := s.lanes.silentWindows + 1 } ∧ t.msu = s.msu ∧ t.oru = s.oru ∧
        t.ctl = s.ctl ∧ t.xpt = s.xpt ∧ t.pending = s.pending ∧
        (s.swe.state = .sweeping →
          (∀ a, s.swe.active[s.swe.cursor + 1]? = some a → a ≠ x.address → s.Polls a →
            t.swe =
              { s.swe with
                polls := s.swe.polls + 1, misses := s.swe.misses + 1, cursor := s.swe.cursor + 1 }) ∧
          (s.swe.active.length = s.swe.cursor + 1 → d.sweepResults = false →
            t.swe =
              { s.swe with
                state := .idle, polls := s.swe.polls + 1, misses := s.swe.misses + 1, cursor := 0, endWait := false
                sweepCount := s.swe.sweepCount + 1
                startDue := s.swe.startDue || decide (d.sweepPeriod = 0) }))) ∧
  (∀ (s : State) (x : Exchange) (lane : LaneId),
      s.exu.exchange = some x → x.claimant = .busEntry → x.verb = .latch → x.part lane = .waiting →
      let frame (t : State) : Prop :=
        t.stations = s.stations ∧ t.points = s.points ∧ t.lanes = s.lanes ∧ t.swe = s.swe ∧ t.ctl = s.ctl ∧
          t.xpt = s.xpt ∧ t.rpu.staging = s.rpu.staging ∧ t.rpu.events = s.rpu.events ∧ t.pending = s.pending
      (x.part (otherLane lane) = .sending ∨ x.part (otherLane lane) = .waiting →
        ∃ t, exec (.replyWindowExpiry lane) s = .next t ∧ frame t ∧
          t.exu = { s.exu with exchange := some (x.setPart lane .closed) } ∧ t.oru = s.oru ∧ t.msu = s.msu ∧
          t.bar = s.bar) ∧
      (x.part (otherLane lane) = .unused ∨ x.part (otherLane lane) = .closed →
        ∃ t, exec (.replyWindowExpiry lane) s = .next t ∧ frame t ∧
          t.exu =
            { s.exu with
              exchange := none, overheard := if s.msu.offAtClose then none else s.exu.overheard } ∧
          t.bar = { s.bar with reserved := 0 } ∧ t.msu = s.mastershipAtClose ∧
          (∀ front e back, s.OpenEntry front e back → t.oru = s.entryEnds front e back .done) ∧
          ((∀ e ∈ s.oru.busQueue, e.exchangeOpen = false) → t.oru = s.oru)))

/-- OVERHEARD_WINDOW_EXPIRY (R86, R87): a window in which no delimiter fell makes its lane SILENT. If the other lane is not in
the overheard exchange, or is SILENT or SPOILED, the exchange closes with nothing handed on; if it has a recorded reply, the
exchange closes and the one pair is handed on; if it still waits, the exchange stays open with this lane SILENT. A window that
runs out while its first telegram is being received leaves the lane to that telegram.
TELEGRAM_RECEIVED in LISTEN as the first telegram of such a window: an undamaged reply whose address, sequence echo, verb echo
and count are the request's is recorded, and any other reply or a damaged telegram spoils the lane (R86); with its last lane
decided the exchange closes, and identical replies are one pair while different ones hand nothing on (R87).
TELEGRAM_RECEIVED in LISTEN, an undamaged request outside an own reply window (R86, R116): with no overheard exchange open, one
opens on its lane if the request's address lies in 1..125, and nothing opens otherwise. The mirrored copy, the same request on a
lane not yet in the open exchange and not late, joins it on its lane. Any other request closes the open exchange as it stands,
the one reply recorded, or two identical ones, being handed on and nothing otherwise (R87), and then opens a new one as before.
That the second copy of a request which made the device yield is heard so is log entry 36 (DESIGN CHOICE).
What becomes of a pair handed on (R16, R127, R128): one that passes every test is learned, which applies the reply to the
record as a GOOD reply without moving the cursor and conditions its readings; any other pair is discarded. -/
def Obligations.OverheardWindowExpires : Prop :=
  (∀ (s : State) (o : Overheard) (lane : LaneId) (l : OverLane), s.exu.overheard = some o → o.lane lane = some l →
      l.result = .waiting → l.windowExpired = false →
      let other := o.lane (otherLane lane)
      let closed : State := { s with exu.overheard := none }
      (l.receiving = false →
        (other = none → exec (.overheardWindowExpiry lane) s = .next closed.settle) ∧
        (∀ m, other = some m →
          (m.result = .silent ∨ m.result = .spoiled → exec (.overheardWindowExpiry lane) s = .next closed.settle) ∧
          (∀ q, m.result = .recorded q →
            exec (.overheardWindowExpiry lane) s = .next (closed.overheardPair o.request q).settle) ∧
          (m.result = .waiting →
            exec (.overheardWindowExpiry lane) s =
              .next
                ({ s with
                    exu.overheard := some (o.setLane lane { l with result := .silent, windowExpired := true }) } :
                  State).settle))) ∧
      (l.receiving = true →
        exec (.overheardWindowExpiry lane) s =
          .next { s with exu.overheard := some (o.setLane lane { l with windowExpired := true }) })) ∧
  (∀ (s : State) (d : Directory) (o : Overheard) (lane : LaneId) (l : OverLane) (intervals : List Nat),
      s.xpt.directory = some d → (s.lanes.get lane).tx = .idle → (s.lanes.get lane).rx = .receiving →
      s.msu.role = .listen → (∀ x, s.exu.exchange = some x → x.part lane ≠ .receiving) → s.exu.overheard = some o →
      o.lane lane = some l → l.result = .waiting → l.receiving = true →
      (∀ q, receive d.bitRate intervals ≠ some (.request q)) →
      let other := o.lane (otherLane lane)
      let heard : State :=
        s.updateLane lane
          (fun c =>
            { c with rx := .quiet, damaged := c.damaged + if receive d.bitRate intervals = none then 1 else 0 })
      let closed : State := { heard with exu.overheard := none }
      let outcome (t : State) := exec (.telegramReceived lane intervals) s = .next t.settle
      (∀ q, receive d.bitRate intervals = some (.reply q) → q.address = o.request.address → q.seq = o.request.seq →
        q.verb = o.request.verb → q.count = o.request.count →
        (other = none → outcome (closed.overheardPair o.request q)) ∧
        (∀ m, other = some m →
          (m.result = .waiting →
            outcome
              { heard with
                exu.overheard := some (o.setLane lane { l with result := .recorded q, receiving := false }) }) ∧
          (m.result = .silent ∨ m.result = .spoiled ∨ m.result = .recorded q →
            outcome (closed.overheardPair o.request q)) ∧
          (∀ p, m.result = .recorded p → p ≠ q → outcome closed))) ∧
      (receive d.bitRate intervals = none ∨
          (∃ q, receive d.bitRate intervals = some (.reply q) ∧
            (q.address ≠ o.request.address ∨ q.seq ≠ o.request.seq ∨ q.verb ≠ o.request.verb ∨
              q.count ≠ o.request.count)) →
        (other = none → outcome closed) ∧
        (∀ m, other = some m →
          (m.result = .waiting →
            outcome
              { heard with
                exu.overheard := some (o.setLane lane { l with result := .spoiled, receiving := false }) }) ∧
          (m.result = .silent ∨ m.result = .spoiled → outcome closed) ∧
          (∀ p, m.result = .recorded p → outcome (closed.overheardPair o.request p))))) ∧
  (∀ (s : State) (d : Directory) (lane : LaneId) (intervals : List Nat) (q : Request),
      s.xpt.directory = some d → (s.lanes.get lane).tx = .idle → (s.lanes.get lane).rx = .receiving →
      s.msu.role = .listen → (∀ x, s.exu.exchange = some x → x.part lane ≠ .receiving) →
      receive d.bitRate intervals = some (.request q) →
      exec (.telegramReceived lane intervals) s =
        .next ((s.updateLane lane (fun c => { c with rx := .quiet })).overhearRequest lane q).settle) ∧
  (∀ (s : State) (lane : LaneId) (q : Request),
      let fresh : OverLane := { result := .waiting, receiving := false, windowExpired := false }
      let anew : Overheard :=
        { request := q, firstLane := lane, laneA := if lane = .a then some fresh else none
          laneB := if lane = .b then some fresh else none, lateA := false, lateB := false }
      let opens (t : State) : State :=
        if 1 ≤ q.address ∧ q.address ≤ 125 then { t with exu.overheard := some anew } else t
      let closed : State := { s with exu.overheard := none }
      (s.exu.overheard = none → s.overhearRequest lane q = opens s) ∧
      (∀ o, s.exu.overheard = some o →
        let copy : Prop := o.lane lane = none ∧ q = o.request ∧ o.late lane = false
        let recorded (l : LaneId) (r : Reply) : Prop := ∃ m, o.lane l = some m ∧ m.result = .recorded r
        (copy → s.overhearRequest lane q = { s with exu.overheard := some (o.setLane lane fresh) }) ∧
        (¬ copy →
          (∀ l r, recorded l r → (∀ p, recorded (otherLane l) p → p = r) →
            s.overhearRequest lane q = opens (closed.overheardPair o.request r)) ∧
          (∀ r p, recorded .a r → recorded .b p → r ≠ p → s.overhearRequest lane q = opens closed) ∧
          ((∀ l r, ¬ recorded l r) → s.overhearRequest lane q = opens closed)))) ∧
  (∀ (s : State) (q : Request) (r : Reply),
      let passes (rec : StationRecord) : Prop :=
        s.dir.listenLearn = true ∧ q.verb = .fetch ∧ r.cls = .good ∧ rec.verified = true ∧ rec.health ≠ .mismatch ∧
          (s.Hosting → s.rpu.staging.length + s.bar.reserved < 6)
      (s.station? q.address = none → s.overheardPair q r = s) ∧
      (∀ rec, s.station? q.address = some rec →
        (¬ passes rec → s.overheardPair q r = s) ∧
        (passes rec →
          s.overheardPair q r =
            ((s.changeRecord rec (rec.answered r.condition) none true).conditionReply rec true
              (readingsOf q.first r.values)).1)))

/-- An attempt's verdict from its two lane outcomes (R92; on a single lane, R80): identical replies or one good reply are
accepted, different replies are a disagreement, and no good reply is a failure.
The faults of an attempt (R90, R92, R97, R98): in MIRROR a lane that failed beside a good reply on the other is blamed, while
two failures or a disagreement blame neither; in ALTERNATE an exchange accepted after a failure on the other lane blames that
lane, and a lane_pref that named it now names the accepted one; on a single lane a damaged window blames the lane. A lane that
is blamed has its count raised by 1, stopping at 15, and at lane_fault_limit becomes DOWN with the LANE event.
A lane outcome handed to the lane logic (R91, R100): a good reply sets the lane's count to 0 and takes a DOWN lane UP with the
LANE event; a silent window is counted; a damaged one changes nothing more.
A further attempt (R79): the same request begins again on the lanes chosen for it, and the lanes of the failed attempt are
remembered. That a lane on which it begins is quiet from then on, so that a telegram being received there is dropped uncounted, is
log entry 9 (DEDUCED, unsafe).
REPLY_WINDOW_EXPIRY and TELEGRAM_RECEIVED in an attempt of any lane mode (R80, R82): the lane's part ends SILENT, with the
matching reply, or DAMAGED, a request that arrives first being DAMAGED and, in ACTIVE, a contest or clash as well (R74, R117).
In LISTEN the overhearing logic hears the telegram too, a request as one that may open or join an overheard exchange and any other
as a reply to the one open (R86, R116); in OFF it is not tested. That the contest, or the overhearing, comes before the retry
decision and the close is log entry 12 (DEDUCED).
While the other lane's part lasts the attempt goes on; with the last lane the lane outcomes and the faults are applied, an
accepted attempt closes the exchange REPLY, and a failed one is followed by the next attempt in ACTIVE with attempts left and
the no-retry mark clear, or closes it MISS. -/
def Obligations.VerdictAndFaults : Prop :=
  ((∀ r q : Reply, r = q → verdict (some (.goodReply r)) (some (.goodReply q)) = .accepted r .a) ∧
    (∀ r q : Reply, r ≠ q → verdict (some (.goodReply r)) (some (.goodReply q)) = .failed true) ∧
    (∀ (r : Reply) (o : Option LaneOutcome), (∀ q, o ≠ some (.goodReply q)) →
      verdict (some (.goodReply r)) o = .accepted r .a ∧ verdict o (some (.goodReply r)) = .accepted r .b) ∧
    (∀ o p : Option LaneOutcome, (∀ q, o ≠ some (.goodReply q)) → (∀ q, p ≠ some (.goodReply q)) →
      verdict o p = .failed false)) ∧
  (∀ (s : State) (x : Exchange),
      let blamed (lane : LaneId) (t : State) : Prop :=
        t.lanes.get lane =
            { s.lanes.get lane with
              faults := min 15 ((s.lanes.get lane).faults + 1)
              up := (s.lanes.get lane).up && decide (min 15 ((s.lanes.get lane).faults + 1) < s.dir.laneFaultLimit) } ∧
          t.lanes.get (otherLane lane) = s.lanes.get (otherLane lane) ∧
          t.lanes.silentWindows = s.lanes.silentWindows ∧ t.lanes.disagreements = s.lanes.disagreements ∧
          t.rpu.events =
            (if (s.lanes.get lane).up ∧ s.dir.laneFaultLimit ≤ min 15 ((s.lanes.get lane).faults + 1) then
              { s.rpu.events with lane := true }
            else s.rpu.events)
      let failed (lane : LaneId) : Prop :=
        (x.part lane).outcome? = some .silent ∨ (x.part lane).outcome? = some .damaged
      (s.dir.laneMode = .mirror →
        (∀ r lane,
          (failed (otherLane lane) →
            blamed (otherLane lane) (s.attribute x (.accepted r lane)) ∧
              (s.attribute x (.accepted r lane)).stations = s.stations) ∧
          (¬ failed (otherLane lane) → s.attribute x (.accepted r lane) = s)) ∧
        s.attribute x (.failed false) = s ∧
        s.attribute x (.failed true) = { s with lanes.disagreements := s.lanes.disagreements + 1 }) ∧
      (s.dir.laneMode = .alternate →
        (∀ r lane,
          (x.failedOn (otherLane lane) = false → s.attribute x (.accepted r lane) = s) ∧
          (x.failedOn (otherLane lane) = true →
            blamed (otherLane lane) (s.attribute x (.accepted r lane)) ∧
              (s.attribute x (.accepted r lane)).stations =
                if x.lanePref = otherLane lane then
                  s.stations.map (fun q => if q.address = x.address then { q with lanePref := lane } else q)
                else s.stations)) ∧
        (∀ disagree, s.attribute x (.failed disagree) = s)) ∧
      (∀ v, s.dir.laneMode = .singleA →
        (x.partA.outcome? = some .damaged → blamed .a (s.attribute x v) ∧ (s.attribute x v).stations = s.stations) ∧
        (x.partA.outcome? ≠ some .damaged → s.attribute x v = s)) ∧
      (∀ v, s.dir.laneMode = .singleB →
        (x.partB.outcome? = some .damaged → blamed .b (s.attribute x v) ∧ (s.attribute x v).stations = s.stations) ∧
        (x.partB.outcome? ≠ some .damaged → s.attribute x v = s))) ∧
  (∀ (s : State) (lane : LaneId),
      (∀ q,
        let t := s.laneOutcome lane (some (.goodReply q))
        t.lanes.get lane = { s.lanes.get lane with up := true, faults := 0 } ∧
          t.lanes.get (otherLane lane) = s.lanes.get (otherLane lane) ∧
          t.lanes.silentWindows = s.lanes.silentWindows ∧ t.lanes.disagreements = s.lanes.disagreements ∧
          t.rpu.events =
            (if (s.lanes.get lane).up then s.rpu.events else { s.rpu.events with lane := true }) ∧
          t.stations = s.stations ∧ t.exu = s.exu ∧ t.msu = s.msu ∧ t.rpu.staging = s.rpu.staging) ∧
      s.laneOutcome lane (some .silent) = { s with lanes.silentWindows := s.lanes.silentWindows + 1 } ∧
      s.laneOutcome lane (some .damaged) = s ∧ s.laneOutcome lane none = s) ∧
  (∀ (s : State) (x : Exchange),
      let onA := (s.retryLanes x).1
      let onB := (s.retryLanes x).2
      let telegram := (s.request x).telegram
      s.retry x =
        { s with
          exu.exchange := some
            { x with
              attempt := x.attempt + 1
              failedA := x.failedA || decide (x.partA ≠ .unused), failedB := x.failedB || decide (x.partB ≠ .unused)
              partA := if onA then .sending else .unused, partB := if onB then .sending else .unused }
          lanes.a := if onA then { s.lanes.a with tx := .starting telegram, rx := .quiet } else s.lanes.a
          lanes.b := if onB then { s.lanes.b with tx := .starting telegram, rx := .quiet } else s.lanes.b }) ∧
  (∀ (s : State) (x : Exchange) (lane : LaneId), s.exu.exchange = some x →
      (x.verb = .fetch ∨ x.verb = .store ∨ x.verb = .query) →
      let goesOn : Prop :=
        x.part (otherLane lane) = .sending ∨ x.part (otherLane lane) = .waiting ∨
          x.part (otherLane lane) = .receiving
      let ends : Prop :=
        x.part (otherLane lane) = .unused ∨ ∃ o, x.part (otherLane lane) = .ended o
      let weighed (t : State) (y : Exchange) : State :=
        let v := verdict y.partA.outcome? y.partB.outcome?
        let w := ((t.laneOutcome .a y.partA.outcome?).laneOutcome .b y.partB.outcome?).attribute y v
        match v with
        | .accepted q _ => w.closeExchange y (.reply q)
        | .failed _ =>
          if t.msu.role = .active ∧ y.noRetry = false ∧ y.attempt < y.attempts then w.retry y
          else w.closeExchange y .miss
      (x.part lane = .waiting →
        let y := x.setPart lane (.ended .silent)
        let t : State := { s with exu.exchange := some y }
        (goesOn → exec (.replyWindowExpiry lane) s = .next t.settle) ∧
        (ends → exec (.replyWindowExpiry lane) s = .next (weighed t y).settle)) ∧
      (∀ (d : Directory) (intervals : List Nat) (o : LaneOutcome),
        x.part lane = .receiving → s.xpt.directory = some d → (s.lanes.get lane).tx = .idle →
        (s.lanes.get lane).rx = .receiving →
        let y := x.setPart lane (.ended o)
        let heard : State :=
          { s.updateLane lane
              (fun c =>
                { c with
                  rx := .quiet
                  damaged :=
                    match receive d.bitRate intervals with
                    | some (.reply _) => c.damaged
                    | some (.request _) => c.damaged + 1
                    | none => c.damaged + 1 }) with
            exu.exchange := some y }
        ((∃ q, receive d.bitRate intervals = some (.reply q) ∧ q.address = x.address ∧ q.seq = x.seq ∧
              q.verb = x.verb ∧ q.count = x.count ∧ o = .goodReply q) ∨
            (∃ q, receive d.bitRate intervals = some (.reply q) ∧
              (q.address ≠ x.address ∨ q.seq ≠ x.seq ∨ q.verb ≠ x.verb ∨ q.count ≠ x.count) ∧ o = .damaged) ∨
            (receive d.bitRate intervals = none ∧ o = .damaged) →
          (s.msu.role = .listen → s.exu.overheard = none) →
          (goesOn → exec (.telegramReceived lane intervals) s = .next heard.settle) ∧
          (ends → exec (.telegramReceived lane intervals) s = .next (weighed heard y).settle)) ∧
        (∀ q, receive d.bitRate intervals = some (.request q) → o = .damaged → s.msu.role = .active →
          let z : Exchange := { y with noRetry := y.noRetry || decide (d.masterTag = 1#1 ∧ q.tag = 0#1) }
          (goesOn → exec (.telegramReceived lane intervals) s = .next (heard.contest q.tag).settle) ∧
          (ends →
            exec (.telegramReceived lane intervals) s = .next (weighed (heard.contest q.tag) z).settle)) ∧
        (∀ q, receive d.bitRate intervals = some (.request q) → o = .damaged →
          let told : State := if s.msu.role = .listen then heard.overhearRequest lane q else heard
          s.msu.role ≠ .active →
          (goesOn → exec (.telegramReceived lane intervals) s = .next told.settle) ∧
          (ends → exec (.telegramReceived lane intervals) s = .next (weighed told y).settle)) ∧
        (∀ r, ((∃ q, receive d.bitRate intervals = some (.reply q) ∧ q.address = x.address ∧ q.seq = x.seq ∧
                q.verb = x.verb ∧ q.count = x.count ∧ o = .goodReply q ∧ r = some q) ∨
              (∃ q, receive d.bitRate intervals = some (.reply q) ∧
                (q.address ≠ x.address ∨ q.seq ≠ x.seq ∨ q.verb ≠ x.verb ∨ q.count ≠ x.count) ∧ o = .damaged ∧
                r = some q) ∨
              (receive d.bitRate intervals = none ∧ o = .damaged ∧ r = none)) →
          s.msu.role = .listen →
          (goesOn → exec (.telegramReceived lane intervals) s = .next (heard.overhearReply lane r).settle) ∧
          (ends →
            exec (.telegramReceived lane intervals) s = .next (weighed (heard.overhearReply lane r) y).settle))))

/-- A miss of a station (R13): miss_count goes up by 1, stopping at 15; at miss_limit a station in UNKNOWN, ONLINE or SUSPECT
enters OFFLINE, and below it an ONLINE station becomes SUSPECT; verified, last_condition, read_cursor and the fields of
ENROL stay.
A QUERY reply (R10, R11): miss_count 0 and the reply's condition whatever its class; GOOD with the record's kind and
enough channels verifies the station and makes it ONLINE; GOOD otherwise, and REFUSED, take it to MISMATCH; BUSY leaves its
health. A reply to a verified station (R15): miss_count 0, the reply's condition, and a SUSPECT or OFFLINE station ONLINE. A sweep
FETCH answered GOOD or REFUSED moves read_cursor by its count modulo slot_count; BUSY, and any reply to another claimant, leaves
it (R22).
A change of record (R10, R14, R18, R19): entry to ONLINE from UNKNOWN or OFFLINE, to OFFLINE and to MISMATCH produces a STATION
result, staged in RUNNING and DRAINING with the STATION event; entry to OFFLINE makes the window's FRESH points STALE, and entry
to MISMATCH makes all of its points BAD. An own exchange's result takes a reserved place.
The readings of one reply (R28, R29, R30, R41, R42, R43): every named channel inside the window is conditioned by its own value,
its reading report is handed back, and the changes collected make one CHANGE result, staged in RUNNING and DRAINING: in a reserved
place for an own exchange, and if a place is free for a learned reply.
The close of an exchange with a station (R12, R15, R39, R85, R103): the record changes first, then the points are conditioned, or
marked BAD by a REFUSED FETCH; then the Exchange Unit is FREE, the reservation is released, and the claimant is told. An exchange that names no enrolled station,
a LATCH and a MARK change neither (R1, R12, R83). -/
def Obligations.MissesAndQueries : Prop :=
  (∀ r : StationRecord,
      r.missed.missCount = min 15 (r.missCount + 1) ∧
      (r.missLimit ≤ min 15 (r.missCount + 1) → r.health ≠ .mismatch → r.missed.health = .offline) ∧
      (min 15 (r.missCount + 1) < r.missLimit →
        r.missed.health = if r.health = .online then .suspect else r.health) ∧
      { r.missed with missCount := r.missCount, health := r.health } = r) ∧
  (∀ (r : StationRecord) (q : Reply),
      (r.queried q).missCount = 0 ∧ (r.queried q).lastCondition = some q.condition ∧
      (r.queried q).readCursor = r.readCursor ∧ (r.queried q).address = r.address ∧
      (∀ kind channels, q.cls = .good → q.identity = some (kind, channels) → kind = r.kind → r.slotCount ≤ channels →
        (r.queried q).verified = true ∧ (r.queried q).health = .online) ∧
      (∀ kind channels, q.cls = .good → q.identity = some (kind, channels) →
        kind ≠ r.kind ∨ channels < r.slotCount →
        (r.queried q).verified = r.verified ∧ (r.queried q).health = .mismatch) ∧
      (q.cls = .refused → (r.queried q).verified = r.verified ∧ (r.queried q).health = .mismatch) ∧
      (q.cls = .busy → (r.queried q).verified = r.verified ∧ (r.queried q).health = r.health)) ∧
  (∀ (r : StationRecord) (c : Byte),
      r.answered c =
        { r with
          missCount := 0, lastCondition := some c
          health := if r.health = .suspect ∨ r.health = .offline then .online else r.health }) ∧
  (∀ (r : StationRecord) (x : Exchange) (q : Reply),
      (x.claimant = .sweep → q.cls = .good ∨ q.cls = .refused →
        r.advance x q = { r with readCursor := (r.readCursor + x.count) % r.slotCount }) ∧
      (x.claimant ≠ .sweep ∨ q.cls = .busy → r.advance x q = r)) ∧
  (∀ (s : State) (old new : StationRecord) (identity : Option (Byte × Nat)) (learned : Bool),
      new.firstSlot + new.slotCount ≤ 384 →
      let toOnline : Prop := new.health = .online ∧ (old.health = .unknown ∨ old.health = .offline)
      let toOffline : Prop := new.health = .offline ∧ old.health ≠ .offline
      let toMismatch : Prop := new.health = .mismatch ∧ old.health ≠ .mismatch
      let produced : Prop := toOnline ∨ toOffline ∨ toMismatch
      let t := s.changeRecord old new identity learned
      t.stations = s.stations.map (fun q => if q.address = old.address then new else q) ∧
      (∀ slot, slot < 384 →
        let inside : Prop := new.firstSlot ≤ slot ∧ slot < new.firstSlot + new.slotCount
        (toOffline → inside → (s.point slot).image.quality = .fresh →
          t.point slot = { s.point slot with image := { (s.point slot).image with quality := .stale } }) ∧
        (toMismatch → inside →
          t.point slot = { s.point slot with image := { (s.point slot).image with quality := .bad } }) ∧
        (¬ toOffline ∧ ¬ toMismatch ∨ ¬ inside ∨ (toOffline ∧ (s.point slot).image.quality ≠ .fresh) →
          t.point slot = s.point slot)) ∧
      (produced → s.Hosting →
        t.rpu.staging =
            s.rpu.staging ++
              [.station { station := new.address, health := new.health, previous := old.health
                          verified := new.verified, missCount := new.missCount, condition := new.lastCondition
                          identity := identity, learned := learned }] ∧
          t.rpu.events = { s.rpu.events with station := true } ∧
          t.bar = { s.bar with reserved := if learned then s.bar.reserved else s.bar.reserved - 1 }) ∧
      (¬ produced ∨ ¬ s.Hosting → t.rpu = s.rpu ∧ t.bar = s.bar) ∧
      t.ctl = s.ctl ∧ t.xpt = s.xpt ∧ t.swe = s.swe ∧ t.exu = s.exu ∧ t.lanes = s.lanes ∧ t.msu = s.msu ∧
      t.oru = s.oru ∧ t.pending = s.pending) ∧
  (∀ (s : State) (r : StationRecord) (learned : Bool) (first : Nat) (values : List Word),
      r.firstSlot + r.slotCount ≤ 384 →
      let t := (s.conditionReply r learned (readingsOf first values)).1
      let mapped := ((List.range' first values.length).zip values).filter (fun reading => reading.1 < r.slotCount)
      let reading (c : Nat) (raw : Word) := conditionPoint s.swe.sweepCount (s.point (r.firstSlot + c)) raw
      let entry (c : Nat) (value : Word) (clipped rebased : Bool) : ValueEntry :=
        { value := value, channel := c, quality := .fresh, clipped := clipped, rebased := rebased, instanceNo := 0 }
      let changes : List Change :=
        mapped.filterMap (fun p =>
          match (reading p.1 p.2).change with
          | none => none
          | some (.flag, old) =>
            some
              { cause := .flag, old := old, entry := entry p.1 (reading p.1 p.2).point.image.value false false }
          | some (.jump, old) => some { cause := .jump, old := old, entry := entry p.1 p.2 false true })
      (∀ slot, slot < 384 →
        t.point slot =
          if r.firstSlot + first ≤ slot ∧ slot < r.firstSlot + min (first + values.length) r.slotCount then
            (conditionPoint s.swe.sweepCount (s.point slot) (values.getD (slot - (r.firstSlot + first)) 0)).point
          else s.point slot) ∧
      (s.conditionReply r learned (readingsOf first values)).2 =
        mapped.map (fun p =>
          entry p.1 (reading p.1 p.2).point.image.value (reading p.1 p.2).clipped (reading p.1 p.2).rebased) ∧
      (changes = [] ∨ ¬ s.Hosting ∨ (learned = true ∧ 6 ≤ s.rpu.staging.length + s.bar.reserved) →
        t.rpu = s.rpu ∧ t.bar = s.bar) ∧
      (changes ≠ [] → s.Hosting → learned = false ∨ s.rpu.staging.length + s.bar.reserved < 6 →
        ∃ c : ChangeResult, t.rpu = { s.rpu with staging := s.rpu.staging ++ [.change c] } ∧
          t.bar = { s.bar with reserved := if learned then s.bar.reserved else s.bar.reserved - 1 } ∧
          c.station = r.address ∧ (c.causeFlag = true ↔ ∃ k ∈ changes, k.cause = .flag) ∧
          (c.causeJump = true ↔ ∃ k ∈ changes, k.cause = .jump) ∧ c.changedCount = changes.length ∧
          (∀ k, changes.head? = some k → c.firstChannel = k.entry.channel) ∧ c.learned = learned ∧
          c.sweepCount = s.swe.sweepCount ∧ (∀ k, changes = [k] → c.oldValue = some k.old) ∧
          (2 ≤ changes.length → c.oldValue = none) ∧ c.entries = changes.map (fun k => k.entry)) ∧
      t.ctl = s.ctl ∧ t.xpt = s.xpt ∧ t.stations = s.stations ∧ t.swe = s.swe ∧ t.exu = s.exu ∧
      t.lanes = s.lanes ∧ t.msu = s.msu ∧ t.oru = s.oru ∧ t.pending = s.pending) ∧
  (∀ (s : State) (x : Exchange) (o : ExchangeOutcome), s.station? x.address = none ∨ o = .quiet ∨ o = .complete →
      s.deliver x o = (s, [])) ∧
  (∀ (s : State) (x : Exchange) (r : StationRecord), s.station? x.address = some r →
      s.deliver x .miss = (s.changeRecord r r.missed none false, []) ∧
      (x.verb = .query → ∀ q,
        s.deliver x (.reply q) =
          (s.changeRecord r (r.queried q) (if q.cls = .good then q.identity else none) false, [])) ∧
      (x.verb = .fetch → ∀ q,
        let t := s.changeRecord r ((r.answered q.condition).advance x q) none false
        (q.cls = .good → s.deliver x (.reply q) = t.conditionReply r false (readingsOf x.first q.values)) ∧
        (q.cls = .busy → s.deliver x (.reply q) = (t, [])) ∧
        (q.cls = .refused → r.firstSlot + r.slotCount ≤ 384 → x.first + x.count ≤ r.slotCount →
          (s.deliver x (.reply q)).2 = [] ∧ (s.deliver x (.reply q)).1.stations = t.stations ∧
          (s.deliver x (.reply q)).1.rpu = t.rpu ∧ (s.deliver x (.reply q)).1.bar = t.bar ∧
          ∀ slot, slot < 384 →
            (s.deliver x (.reply q)).1.point slot =
              if r.firstSlot + x.first ≤ slot ∧ slot < r.firstSlot + x.first + x.count then
                { t.point slot with image := { (t.point slot).image with quality := .bad } }
              else t.point slot)) ∧
      (x.verb = .store → ∀ q,
        let t := s.changeRecord r (r.answered q.condition) none false
        (q.cls = .good → s.deliver x (.reply q) = t.conditionReply r false (readingsOf x.first x.values)) ∧
        (q.cls = .busy ∨ q.cls = .refused → s.deliver x (.reply q) = (t, [])))) ∧
  (∀ (s : State) (x : Exchange) (o : ExchangeOutcome),
      let t := s.closeExchange x o
      t.stations = (s.deliver x o).1.stations ∧ t.points = (s.deliver x o).1.points ∧ t.exu.exchange = none ∧
      t.bar = { s.bar with reserved := 0 } ∧ (x.claimant ≠ .sweep → t.rpu = (s.deliver x o).1.rpu) ∧
      t.exu.seqCounter = s.exu.seqCounter)

/-! ### Mastership and the sweep -/

/-- TAKEOVER_TIMER_EXPIRY in LISTEN makes the device ACTIVE: the overheard exchange is discarded, the takeover timer stops
and the mark timer starts, the sweep is IDLE with a start due, takeover_shift is kept, and the ROLE result of reason
TAKEOVER is staged, or is due where Staging has no place or another is due (R111, R112, R125, R126).
ROLE_RESULT_STAGE in RUNNING or DRAINING stages the oldest ROLE result that is due, with the contest count as it stands and the
ROLE event (R125, R126). That of an entry to ACTIVE waits for a place alone (R112); that of a change to LISTEN waits as well for
the wind-down: no exchange open, the Bus Queue empty and its entries' results staged, no order in hand waited for, and no
abandoned sweep (R121). A CLAIM that waits for its ROLE result and a YIELD in ROLE_WAIT complete DONE behind it (R113, R114,
R152). With the ROLE result of a change to LISTEN the wind-down ends. In RUNNING and LISTEN the takeover timer then starts, and a
CLAIM deferred by the wind-down is carried out: takeover_shift 0, the role ACTIVE, the mark timer running, the overheard exchange
discarded, the sweep IDLE with a start due, and the ROLE result of reason CLAIMED staged with the CLAIM's DONE behind it, or,
with no place or another ROLE result due, due with the CLAIM waiting for it (R113, R121). In DRAINING no takeover timer starts
and no claim is carried out (R121, R123). -/
def Obligations.TakeoverAndWindDown : Prop :=
  (∀ s : State, s.msu.takeoverTimer = true → s.ctl.exchangeState = .running → s.msu.role = .listen →
      s.msu.windDown = none →
      ∃ t, exec .takeoverTimerExpiry s = .next t ∧ t.msu.role = .active ∧ t.msu.shift = s.msu.shift ∧
        t.msu.contestCount = s.msu.contestCount ∧ t.msu.takeoverTimer = false ∧ t.msu.markTimer = true ∧
        t.msu.windDown = none ∧ t.exu = { s.exu with overheard := none } ∧
        t.swe = { s.swe with state := .idle, startDue := true } ∧
        (s.msu.roleDue = [] → s.rpu.staging.length + s.bar.reserved < 6 →
          t.rpu.staging =
            s.rpu.staging ++
              [.role { role := .active, previous := .listen, reason := .takeover, shift := s.msu.shift
                       contestCount := s.msu.contestCount, foreignTag := none }] ∧
          t.rpu.events.role = true ∧ t.msu.roleDue = []) ∧
        (s.msu.roleDue ≠ [] ∨ 6 ≤ s.rpu.staging.length + s.bar.reserved →
          t.rpu.staging = s.rpu.staging ∧
          t.msu.roleDue =
            s.msu.roleDue ++
              [{ role := .active, previous := .listen, reason := .takeover, shift := s.msu.shift
                 foreignTag := none }]) ∧
        t.ctl = s.ctl ∧ t.xpt = s.xpt ∧ t.stations = s.stations ∧ t.points = s.points ∧ t.lanes = s.lanes ∧
        t.bar = s.bar ∧ t.oru = s.oru ∧ t.pending = s.pending) ∧
  (∀ (s : State) (c : RoleChange) (rest : List RoleChange), s.Hosting → s.msu.roleDue = c :: rest →
      let places := s.rpu.staging.length + s.bar.reserved
      let woundDown : Prop :=
        s.exu.exchange = none ∧ s.oru.busQueue = [] ∧ (∀ e ∈ s.oru.completion, e.fromHand = true) ∧
          s.msu.windDown ≠ some { awaitHand := true } ∧ s.swe.abandoning = false
      let staged : Result :=
        .role { role := c.role, previous := c.previous, reason := c.reason, shift := c.shift
                contestCount := s.msu.contestCount, foreignTag := c.foreignTag }
      let behind (u : OrderUnit) (o : Order) : OrderUnit :=
        { u with
          hand := .stageWait o
          completion := u.completion ++ [{ fromHand := true, result := o.result .done 0 (.values []) }] }
      let released : OrderUnit :=
        match s.oru.hand, c.reason with
        | .claimStaging o, .claimed => behind s.oru o
        | .yieldStaging o, .yielded => behind s.oru o
        | _, _ => s.oru
      let frame (t : State) : Prop :=
        t.rpu.events.role = true ∧ t.ctl = s.ctl ∧ t.xpt = s.xpt ∧ t.stations = s.stations ∧ t.points = s.points ∧
          t.lanes = s.lanes ∧ t.bar = s.bar ∧ t.pending = s.pending
      (6 ≤ places ∨ (c.role ≠ .active ∧ ¬ woundDown) → exec .roleResultStage s = .next s) ∧
      (places < 6 →
        (c.role = .active →
          ∃ t, exec .roleResultStage s = .next t ∧ frame t ∧ t.msu = { s.msu with roleDue := rest } ∧
            t.oru = released ∧ t.rpu.staging = s.rpu.staging ++ [staged] ∧ t.swe = s.swe ∧ t.exu = s.exu) ∧
        (c.role = .listen → woundDown →
          (s.ctl.exchangeState = .draining ∨ s.msu.role ≠ .listen →
            ∃ t, exec .roleResultStage s = .next t ∧ frame t ∧
              t.msu = { s.msu with roleDue := rest, windDown := none } ∧ t.oru = released ∧
              t.rpu.staging = s.rpu.staging ++ [staged] ∧ t.swe = s.swe ∧ t.exu = s.exu) ∧
          (s.ctl.exchangeState = .running → s.msu.role = .listen →
            ((∀ o, s.oru.hand ≠ .claimDeferred o) →
              ∃ t, exec .roleResultStage s = .next t ∧ frame t ∧
                t.msu = { s.msu with roleDue := rest, windDown := none, takeoverTimer := true } ∧ t.oru = released ∧
                t.rpu.staging = s.rpu.staging ++ [staged] ∧ t.swe = s.swe ∧ t.exu = s.exu) ∧
            (∀ o, s.oru.hand = .claimDeferred o →
              let entered : Mastership :=
                { s.msu with
                  role := .active, shift := 0, windDown := none, takeoverTimer := false, markTimer := true
                  roleDue := rest }
              let second : RoleChange :=
                { role := .active, previous := .listen, reason := .claimed, shift := 0, foreignTag := none }
              ∃ t, exec .roleResultStage s = .next t ∧ frame t ∧
                t.swe = { s.swe with state := .idle, startDue := true } ∧
                t.exu = { s.exu with overheard := none } ∧
                (rest = [] → places < 5 →
                  t.msu = entered ∧ t.oru = behind s.oru o ∧
                    t.rpu.staging =
                      s.rpu.staging ++
                        [staged, .role { role := .active, previous := .listen, reason := .claimed, shift := 0
                                         contestCount := s.msu.contestCount, foreignTag := none }]) ∧
                (rest ≠ [] ∨ places = 5 →
                  t.msu = { entered with roleDue := rest ++ [second] } ∧
                    t.oru = { s.oru with hand := .claimStaging o } ∧
                    t.rpu.staging = s.rpu.staging ++ [staged]))))))

/-- A foreign request in ACTIVE (R117, R176): every one raises the contest count and sets the ROLE event; a device with tag 1
that hears tag 0 goes to LISTEN with reason CONTEST and the foreign tag, its open exchange making no further attempt (R84, R120);
any other pair of tags keeps the role.
TELEGRAM_RECEIVED, an undamaged request that is not the first telegram of an own reply window (R74, R116): in ACTIVE it is tested as
above; in OFF it is not tested. That the copies of one mirrored request are a contest each is log entry 32 (DESIGN CHOICE).
MARK_TIMER_EXPIRY in ACTIVE raises a mark claim, and the timer does not restart by itself (R119). -/
def Obligations.ContestsAndMarks : Prop :=
  (∀ (s : State) (tag : BitVec 1), s.msu.role = .active →
      (s.contest tag).msu.contestCount = s.msu.contestCount + 1 ∧ (s.contest tag).msu.shift = s.msu.shift ∧
      (s.dir.masterTag = 1#1 → tag = 0#1 →
        (s.contest tag).msu.role = .listen ∧ (s.contest tag).rpu.events.role = true ∧
        (s.contest tag).exu = { s.exu with exchange := s.exu.exchange.map (fun x => { x with noRetry := true }) } ∧
        (s.contest tag).swe.state = .stopped ∧ (s.contest tag).msu.markTimer = false ∧
        (s.contest tag).msu.markClaim = false ∧ (s.contest tag).msu.windDown.isSome ∧
        (s.ctl.exchangeState = .running →
          (s.contest tag).msu.roleDue =
            s.msu.roleDue ++
              [{ role := .listen, previous := .active, reason := .contest, shift := s.msu.shift
                 foreignTag := some 0#1 }])) ∧
      (s.dir.masterTag = 0#1 ∨ tag = 1#1 →
        (s.contest tag).msu = { s.msu with contestCount := s.msu.contestCount + 1 } ∧
        (s.contest tag).rpu.events = { s.rpu.events with role := true } ∧
        (s.contest tag).rpu.staging = s.rpu.staging ∧ (s.contest tag).exu = s.exu ∧ (s.contest tag).swe = s.swe ∧
        (s.contest tag).oru = s.oru ∧ (s.contest tag).bar = s.bar ∧ (s.contest tag).lanes = s.lanes)) ∧
  (∀ (s : State) (lane : LaneId) (d : Directory) (intervals : List Nat) (q : Request), s.xpt.directory = some d →
      (s.lanes.get lane).tx = .idle → (s.lanes.get lane).rx = .receiving →
      receive d.bitRate intervals = some (.request q) →
      (∀ x, s.exu.exchange = some x → x.part lane ≠ .receiving) →
      let heard : State := s.updateLane lane (fun c => { c with rx := .quiet })
      (s.msu.role = .active →
        exec (.telegramReceived lane intervals) s = .next (heard.contest q.tag).settle) ∧
      (s.msu.role = .off → exec (.telegramReceived lane intervals) s = .next heard.settle)) ∧
  (∀ s : State, s.msu.markTimer = true → s.ctl.exchangeState = .running → s.msu.role = .active →
      exec .markTimerExpiry s = .next { s with msu.markTimer := false, msu.markClaim := true })

/-- SWEEP_START in IDLE with a start due: the swap comes first if pending_ready is set, the counts and marks are cleared, the
period timer starts, the first poll is marked, the cursor stands at the first entry, and the walk begins; at a first entry that
is to be polled it stops at once (R54, R56, R58); the walk is stated in SweepTimersAndClaims. With an empty list no sweep starts
and the start stays due (R56).
Which entries are skipped (R58): a station in MISMATCH, a held one, and an OFFLINE one in a sweep whose number is not a
multiple of its revisit_every. -/
def Obligations.SweepStarts : Prop :=
  (∀ s : State, s.swe.state = .idle → s.swe.startDue = true →
      let list := if s.swe.pendingReady then s.swe.pendingList else s.swe.active
      let rest := if s.swe.pendingReady then [] else s.swe.pendingList
      (list = [] →
        exec .sweepStart s =
          .next { s with swe.active := list, swe.pendingList := rest, swe.pendingReady := false }) ∧
      let begun : State :=
        { s with
          swe.state := .sweeping, swe.active := list, swe.pendingList := rest, swe.pendingReady := false
          swe.startDue := false, swe.cursor := 0, swe.polls := 0, swe.skipped := 0, swe.misses := 0
          swe.late := false, swe.sweepNumber := s.swe.sweepCount
          swe.periodTimer := decide (s.dir.sweepPeriod ≠ 0), swe.firstPoll := true }
      (list ≠ [] → exec .sweepStart s = .next begun.walk.settle) ∧
      (∀ a more r, list = a :: more → s.station? a = some r → r.held = false →
        (r.health = .unknown ∨ r.health = .online ∨ r.health = .suspect ∨
          (r.health = .offline ∧ s.swe.sweepCount.toNat % r.revisitEvery = 0)) →
        exec .sweepStart s = .next begun.settle)) ∧
  (∀ (s : State) (a : Nat) (r : StationRecord), s.station? a = some r →
      (s.skips a = true ↔
        r.health = .mismatch ∨ r.held = true ∨
          (r.health = .offline ∧ s.swe.sweepCount.toNat % r.revisitEvery ≠ 0)))

/-- PERIOD_TIMER_EXPIRY (R57): in IDLE a start is due; in SWEEPING the sweep is late, overrun_count goes up by 1 and the
OVERRUN event is set; the timer does not restart.
SWEEP_CLAIM raises the claim for the entry under the cursor when Staging has a place, counted with the places reserved as
section 5.7 counts them (R103; that the test of R59 does so is log entry 16, DEDUCED), whatever the station's health has become
since the entry was reached (log entry 15, DEDUCED); while it has none the engine holds with no claim raised (R59).
SWEEP_RESULT_STAGE: the SWEEP result of a sweep that has ended is staged when a place is free, and the engine enters
IDLE with the cursor at the first entry (R61, R62); that of an abandoned sweep is staged, once no poll of it is open, with ABANDONED
set, and the marks are cleared (R64).
The walk (R58, R61): every entry that is skipped adds 1 to skipped and is passed; at an entry that is not, the cursor stops; past
the last entry sweep_count goes up by 1, and the SWEEP result is staged, or waits for a place with the engine SWEEPING, or does not
arise where SWEEP results are disabled, the engine then being IDLE with the cursor at the first entry.
A sweep poll reported closed (R60, R64): it is counted, as a miss too if it closed MISS, the cursor moves on, and the walk or
the abandonment goes on.
Entry to STOPPED (R55, R64) by HALT in RUNNING, by YIELD or by any leaving of ACTIVE: from IDLE the period timer and the start-due
mark go; from SWEEPING the claim is withdrawn and the sweep is abandoned, its result staged with ABANDONED set once no poll of it
is open and a place is free, and sweep_count stays. That the period timer stops at this entry is log entry 17 (DEDUCED), and that
a sweep which has ended and waits for a place is abandoned too, its result carrying ABANDONED, is log entry 18 (DEDUCED,
unsafe). -/
def Obligations.SweepTimersAndClaims : Prop :=
  (∀ s : State, s.swe.periodTimer = true →
      (s.swe.state = .idle →
        exec .periodTimerExpiry s = .next { s with swe.periodTimer := false, swe.startDue := true }) ∧
      (s.swe.state = .sweeping →
        ∃ t, exec .periodTimerExpiry s = .next t ∧
          t.swe =
            { s.swe with
              periodTimer := false, startDue := true, late := true, overrunCount := s.swe.overrunCount + 1 } ∧
          t.rpu.events = { s.rpu.events with overrun := true } ∧ t.rpu.staging = s.rpu.staging ∧ t.ctl = s.ctl ∧
          t.xpt = s.xpt ∧ t.stations = s.stations ∧ t.points = s.points ∧ t.exu = s.exu ∧ t.lanes = s.lanes ∧
          t.bar = s.bar ∧ t.msu = s.msu ∧ t.oru = s.oru ∧ t.pending = s.pending)) ∧
  (∀ (s : State) (a : Nat) (r : StationRecord), s.swe.state = .sweeping → s.swe.endWait = false →
      s.swe.claim = none → (∀ x, s.exu.exchange = some x → x.claimant ≠ .sweep) → s.swe.active[s.swe.cursor]? = some a →
      s.station? a = some r → r.held = false →
      (s.rpu.staging.length + s.bar.reserved < 6 → exec .sweepClaim s = .next { s with swe.claim := some a }) ∧
      (6 ≤ s.rpu.staging.length + s.bar.reserved → exec .sweepClaim s = .next s)) ∧
  (∀ s : State, s.Hosting → s.swe.endWait = true → s.rpu.staging.length + s.bar.reserved < 6 →
      ∃ t, exec .sweepResultStage s = .next t ∧
        t.rpu.staging =
          s.rpu.staging ++
            [.sweep { number := s.swe.sweepNumber, polls := s.swe.polls, skipped := s.swe.skipped
                      misses := s.swe.misses, late := s.swe.late, abandoned := false }] ∧
        t.swe =
          { s.swe with
            state := .idle, cursor := 0, endWait := false
            startDue := s.swe.startDue || decide (s.dir.sweepPeriod = 0) } ∧
        t.rpu.events = s.rpu.events ∧ t.ctl = s.ctl ∧ t.xpt = s.xpt ∧ t.stations = s.stations ∧
        t.points = s.points ∧ t.exu = s.exu ∧ t.lanes = s.lanes ∧ t.bar = s.bar ∧ t.msu = s.msu ∧ t.oru = s.oru ∧
        t.pending = s.pending) ∧
  (∀ s : State, s.Hosting → s.swe.endWait = false → s.swe.abandoning = true →
      (∀ x, s.exu.exchange = some x → x.claimant ≠ .sweep) → s.dir.sweepResults = true →
      s.rpu.staging.length + s.bar.reserved < 6 →
      ∃ t, exec .sweepResultStage s = .next t ∧ t.swe = s.swe.stopped ∧
        t.rpu.staging = s.rpu.staging ++ [s.swe.abandoned] ∧ t.rpu.events = s.rpu.events ∧ t.ctl = s.ctl ∧
        t.xpt = s.xpt ∧ t.stations = s.stations ∧ t.points = s.points ∧ t.exu = s.exu ∧ t.lanes = s.lanes ∧
        t.bar = s.bar ∧ t.msu = s.msu ∧ t.oru = s.oru ∧ t.pending = s.pending) ∧
  (∀ (s : State) (skipped rest : List Nat), s.swe.active.drop s.swe.cursor = skipped ++ rest →
      (∀ a ∈ skipped, s.skips a = true) →
      let count := s.swe.skipped + skipped.length
      let idle : SweepEngine :=
        { s.swe with
          state := .idle, cursor := 0, skipped := count, sweepCount := s.swe.sweepCount + 1, endWait := false
          startDue := s.swe.startDue || decide (s.dir.sweepPeriod = 0) }
      (∀ a more, rest = a :: more → s.skips a = false →
        s.walk = { s with swe.cursor := s.swe.cursor + skipped.length, swe.skipped := count }) ∧
      (rest = [] →
        (s.dir.sweepResults = false → s.walk = { s with swe := idle }) ∧
        (s.dir.sweepResults = true → s.rpu.staging.length + s.bar.reserved < 6 →
          s.walk =
            { s with
              swe := idle
              rpu.staging :=
                s.rpu.staging ++
                  [.sweep { number := s.swe.sweepNumber, polls := s.swe.polls, skipped := count
                            misses := s.swe.misses, late := s.swe.late, abandoned := false }] }) ∧
        (s.dir.sweepResults = true → 6 ≤ s.rpu.staging.length + s.bar.reserved →
          s.walk =
            { s with
              swe.cursor := s.swe.cursor + skipped.length, swe.skipped := count
              swe.sweepCount := s.swe.sweepCount + 1, swe.endWait := true }))) ∧
  (∀ (s : State) (miss : Bool),
      let counted : State :=
        { s with
          swe.polls := s.swe.polls + 1, swe.misses := s.swe.misses + (if miss then 1 else 0)
          swe.cursor := s.swe.cursor + 1 }
      (s.swe.state = .sweeping → s.sweepPollClosed miss = counted.walk) ∧
      (s.swe.state = .stopped → s.swe.abandoning = true → s.exu.exchange = none →
        (s.dir.sweepResults = false → s.sweepPollClosed miss = { s with swe := counted.swe.stopped }) ∧
        (s.dir.sweepResults = true → s.rpu.staging.length + s.bar.reserved < 6 →
          s.sweepPollClosed miss =
            { s with
              swe := counted.swe.stopped, rpu.staging := s.rpu.staging ++ [counted.swe.abandoned] }) ∧
        (s.dir.sweepResults = true → 6 ≤ s.rpu.staging.length + s.bar.reserved →
          s.sweepPollClosed miss = counted))) ∧
  (∀ s t : State,
      (s.ctl.exchangeState = .running ∧ exec .halt s = .next t) ∨
        (∃ o, s.Takes o .role ∧ byteAt o.body 0 = 2 ∧ s.msu.role = .active ∧ exec .yield s = .next t) ∨
        (∃ reason tag, t = s.leaveActive reason tag) →
      let pollOpen : Prop := ∃ x, s.exu.exchange = some x ∧ x.claimant = .sweep
      let room : Prop := s.rpu.staging.length + s.bar.reserved < 6
      let waits : SweepEngine :=
        { s.swe with state := .stopped, periodTimer := false, claim := none, endWait := false, abandoning := true }
      (s.swe.state = .stopped → t.swe = s.swe ∧ t.rpu.staging = s.rpu.staging) ∧
      (s.swe.state = .idle →
        t.swe = { s.swe with state := .stopped, periodTimer := false, startDue := false } ∧
          t.rpu.staging = s.rpu.staging) ∧
      (s.swe.state = .sweeping →
        (pollOpen ∨ (s.dir.sweepResults = true ∧ ¬ room) → t.swe = waits ∧ t.rpu.staging = s.rpu.staging) ∧
        (¬ pollOpen → s.dir.sweepResults = false → t.swe = s.swe.stopped ∧ t.rpu.staging = s.rpu.staging) ∧
        (¬ pollOpen → s.dir.sweepResults = true → room →
          t.swe = s.swe.stopped ∧ t.rpu.staging = s.rpu.staging ++ [s.swe.abandoned])))

/-! ### Conditioning -/

/-- The exact shift of R31: with a shift of 0 or more a multiplication by 2^shift; with a negative one the quotient by
2^(−shift), rounded toward minus infinity.
An INSTANT reading (R31, R32): the exact sum saturated to the signed 32-bit range becomes the value; a sum that had to
be saturated adds 1 to clip_count, which stops at 65535, and sets CLIPPED; the rest of the image stays, and there is never a
change.
The reading of a point whose mode is INSTANT is that, with quality FRESH and the sweep count as its age (R26, R30). -/
def Obligations.InstantReading : Prop :=
  (∀ (x : Int) (n : Nat),
      shiftExact x n = x * 2 ^ n ∧
      (shiftExact x (-(n : Int)) * 2 ^ n ≤ x ∧ x < (shiftExact x (-(n : Int)) + 1) * 2 ^ n)) ∧
  (∀ (p : Point) (raw : Word),
      let sum := shiftExact (raw.toInt * p.conv.scale.toInt) p.conv.shift.toInt + p.conv.offset.toInt
      let r := conditionInstant p raw
      (-2147483648 ≤ sum → sum ≤ 2147483647 →
        r.point.image.value.toInt = sum ∧ r.clipped = false ∧ r.point.image.clipCount = p.image.clipCount) ∧
      (2147483647 < sum →
        r.point.image.value.toInt = 2147483647 ∧ r.clipped = true ∧
          r.point.image.clipCount = min 65535 (p.image.clipCount + 1)) ∧
      (sum < -2147483648 →
        r.point.image.value.toInt = -2147483648 ∧ r.clipped = true ∧
          r.point.image.clipCount = min 65535 (p.image.clipCount + 1)) ∧
      r.rebased = false ∧ r.change = none ∧ r.point.conv = p.conv ∧
      { r.point.image with value := p.image.value, clipCount := p.image.clipCount } = p.image) ∧
  (∀ (count raw : Word) (p : Point), p.conv.mode = .instant →
      let r := conditionInstant p raw
      conditionPoint count p raw =
        { r with point := { r.point with image := { r.point.image with quality := .fresh, age := count } } })

/-- A TOTAL reading (R33, R34, R35): a first one rebases without counting; one whose delta exceeds a jump_limit other than 0
is a jump, with last_raw taken, rebase_count up by 1 (stopping at 255) and total kept; any other adds its scaled delta to
total, saturated to the signed 64-bit range, with value the low 32 bits and last_raw taken.
Every accepted reading, whatever the mode, sets quality to FRESH and age to the sweep count (R30).
The reading of a point whose mode is TOTAL is that, with quality FRESH and the sweep count as its age (R26, R30). -/
def Obligations.TotalReading : Prop :=
  (∀ (p : Point) (raw last : Word),
      (p.image.lastRaw = none →
        conditionTotal p raw =
          { point := { p with image := { p.image with lastRaw := some raw } }
            clipped := false, rebased := false, change := none }) ∧
      (p.image.lastRaw = some last → p.conv.jumpLimit ≠ 0 → p.conv.jumpLimit.toNat < (raw - last).toNat →
        conditionTotal p raw =
          { point :=
              { p with image := { p.image with lastRaw := some raw, rebaseCount := min 255 (p.image.rebaseCount + 1) } }
            clipped := false, rebased := true
            change := if p.conv.notify then some (.jump, last) else none }) ∧
      (p.image.lastRaw = some last →
        (p.conv.jumpLimit = 0 ∨ (raw - last).toNat ≤ p.conv.jumpLimit.toNat) →
        let sum :=
          p.image.total.toInt + shiftExact (((raw - last).toNat : Int) * p.conv.scale.toInt) p.conv.shift.toInt
        let r := conditionTotal p raw
        r.rebased = false ∧ r.change = none ∧ r.point.image.lastRaw = some raw ∧
        r.point.image.rebaseCount = p.image.rebaseCount ∧ r.point.conv = p.conv ∧
        r.point.image.total.toInt = max (-9223372036854775808) (min 9223372036854775807 sum) ∧
        r.point.image.value = r.point.image.total.setWidth 32 ∧
        (r.clipped = true ↔ sum < -9223372036854775808 ∨ 9223372036854775807 < sum) ∧
        r.point.image.clipCount = (if r.clipped then min 65535 (p.image.clipCount + 1) else p.image.clipCount))) ∧
  (∀ (count raw : Word) (p : Point),
      (conditionPoint count p raw).point.image.quality = .fresh ∧
      (conditionPoint count p raw).point.image.age = count ∧
      (conditionPoint count p raw).point.conv = p.conv) ∧
  (∀ (count raw : Word) (p : Point), p.conv.mode = .total →
      let r := conditionTotal p raw
      conditionPoint count p raw =
        { r with point := { r.point with image := { r.point.image with quality := .fresh, age := count } } })

/-- A FLAG reading (R38, R41): the value is the raw value under the mask; it is a change exactly when notify is on, the
quality before was not NEVER, and the bits differ; it is never clipped.
The reading of a point whose mode is FLAG is that, with quality FRESH and the sweep count as its age (R26, R30). -/
def Obligations.FlagReading : Prop :=
  (∀ (p : Point) (raw : Word),
      let r := conditionFlag p raw
      r.point = { p with image := { p.image with value := raw &&& p.conv.offset } } ∧ r.clipped = false ∧
      r.rebased = false ∧
      (p.image.quality ≠ .never → raw &&& p.conv.offset ≠ p.image.value → p.conv.notify = true →
        r.change = some (.flag, p.image.value)) ∧
      (p.image.quality = .never ∨ raw &&& p.conv.offset = p.image.value ∨ p.conv.notify = false → r.change = none)) ∧
  (∀ (count raw : Word) (p : Point), p.conv.mode = .flag →
      let r := conditionFlag p raw
      conditionPoint count p raw =
        { r with point := { r.point with image := { r.point.image with quality := .fresh, age := count } } })

/-! ### The line -/

/-- The check of R71: the register starts at FFFFh, and each data bit in turn shifts it, combining it with 8005h where its top
bit differed; it follows the bytes, high byte first; the two examples; and running it over the check bytes as well leaves 0.
The bit-times of R68, in nanoseconds, and a telegram as sent: each byte most significant bit first, a 1 a whole cell and a 0 two
halves.
Telegrams written out bit by bit (section 10.5): the FETCH to station 23 with tag 0, channels 4 to 7 and sequence 5, and
the mark with tag 1 and sequence 0.
Which received telegrams are damaged (R70, R71, R74, R191). An interval of 0.25 up to 0.75 bit-times is a half, one of 0.75 to 1.25 a
whole, and one shorter or longer, up to 2.5, a coding error. After any number of sound cells, each a whole or two halves, a coding
error, a half that no half follows, or an end after a number of bits that is no multiple of 8 makes the telegram damaged. A
telegram of sound cells that make up whole bytes is damaged exactly if it holds more than 38 bytes, its check disagrees, or its
fields are not those of a request or a reply within their defined sets and of the length they give. How intervals are counted is
the model's choice (log entry 7). -/
def Obligations.CheckOfATelegram : Prop :=
  (check [0x00#8] = 0xFD02#16 ∧
    check [0x31#8, 0x32#8, 0x33#8, 0x34#8, 0x35#8, 0x36#8, 0x37#8, 0x38#8, 0x39#8] = 0xAEE7#16 ∧
    (∀ bytes : List Byte, check (withCheck bytes) = 0) ∧ check [] = 0xFFFF#16 ∧
    (∀ (bytes : List Byte) (b : Byte),
      check (bytes ++ [b]) =
        (List.range 8).foldl
          (fun (r : Half) k => if r.msb = b.getLsbD (7 - k) then r <<< 1 else (r <<< 1) ^^^ 0x8005#16) (check bytes)) ∧
    (∀ bytes : List Byte,
      withCheck bytes = bytes ++ [(check bytes).extractLsb' 8 8, (check bytes).extractLsb' 0 8])) ∧
  (BitRate.kbit125.bitTime = 8000 ∧ BitRate.kbit250.bitTime = 4000 ∧ BitRate.kbit500.bitTime = 2000 ∧
    ∀ (bitTime : Nat) (bytes : List Byte),
      waveform bitTime bytes =
        bytes.flatMap
          (fun b =>
            (List.range 8).flatMap
              (fun k => if b.getLsbD (7 - k) then [bitTime] else [bitTime / 2, bitTime / 2]))) ∧
  (Request.telegram
        { address := 23, tag := 0, verb := .fetch, seq := 5, first := 4, count := 4, values := [] } =
      withCheck [0x17#8, 0x14#8, 0xA4#8] ∧
    Request.telegram { address := 127, tag := 1, verb := .mark, seq := 0, first := 0, count := 1, values := [] } =
      withCheck [0x7F#8, 0xD1#8, 0x00#8]) ∧
  (∀ (rate : BitRate) (ns : Nat),
    (classify rate.bitTime ns = .half ↔ rate.bitTime ≤ 4 * ns ∧ 4 * ns < 3 * rate.bitTime) ∧
    (classify rate.bitTime ns = .whole ↔ 3 * rate.bitTime ≤ 4 * ns ∧ 4 * ns ≤ 5 * rate.bitTime) ∧
    (classify rate.bitTime ns = .error ↔
      4 * ns < rate.bitTime ∨ (5 * rate.bitTime < 4 * ns ∧ 2 * ns ≤ 5 * rate.bitTime))) ∧
  (∀ (rate : BitRate) (cells : List (List Nat)),
    (∀ c ∈ cells,
      (∃ w, c = [w] ∧ classify rate.bitTime w = .whole) ∨
        (∃ h k, c = [h, k] ∧ classify rate.bitTime h = .half ∧ classify rate.bitTime k = .half)) →
    let bits := cells.map (fun c => decide (c.length = 1))
    (∀ ns rest, classify rate.bitTime ns = .error → receive rate (cells.flatten ++ ns :: rest) = none) ∧
    (∀ ns, classify rate.bitTime ns = .half → receive rate (cells.flatten ++ [ns]) = none) ∧
    (∀ ns next rest, classify rate.bitTime ns = .half → classify rate.bitTime next ≠ .half →
      receive rate (cells.flatten ++ ns :: next :: rest) = none) ∧
    (bits.length % 8 ≠ 0 → receive rate cells.flatten = none) ∧
    (∀ bytes : List Byte, bits = bytes.flatMap (fun b => (List.range 8).map (fun k => b.getLsbD (7 - k))) →
      ((receive rate cells.flatten).isSome ↔
        bytes.length ≤ 38 ∧ ∃ fields, bytes = withCheck fields ∧ (soundRequest fields ∨ soundReply fields))))

/-- The field bytes of a request (R72, section 10.5): direction 0 and the address; the master tag, the verb code (1 FETCH, 2
STORE, 3 QUERY, 4 LATCH, 5 MARK) and the count; the sequence and the first channel; then the values of a STORE, each with its
most significant byte first; then the check.
What a request puts on a lane is what a receiver takes from it: every request within the ranges of R72, sent as bi-phase
cells with its check, is received undamaged with every field as sent. How the intervals heard are counted is the model's choice (log
entry 7). -/
def Obligations.RequestsAreReceivedAsSent : Prop :=
  (∀ q : Request, q.address ≤ 127 → q.first ≤ 31 → q.count ≤ 15 →
    let verb :=
      match q.verb with
      | .fetch => 1
      | .store => 2
      | .query => 3
      | .latch => 4
      | .mark => 5
    q.telegram =
      withCheck
        ([BitVec.ofNat 8 q.address, BitVec.ofNat 8 (128 * q.tag.toNat + 16 * verb + q.count),
            BitVec.ofNat 8 (32 * q.seq.toNat + q.first)] ++
          q.values.flatMap
            (fun v =>
              [BitVec.ofNat 8 (v.toNat / 0x1000000), BitVec.ofNat 8 (v.toNat / 0x10000),
                BitVec.ofNat 8 (v.toNat / 0x100), BitVec.ofNat 8 v.toNat]))) ∧
  (∀ (rate : BitRate) (q : Request), 1 ≤ q.address → q.address ≤ 127 → (q.address = 126 → q.verb = .latch) →
    (q.address = 127 ↔ q.verb = .mark) → q.first ≤ 31 → 1 ≤ q.count → q.count ≤ 8 →
    (q.verb = .store → q.values.length = q.count) → (q.verb ≠ .store → q.values = []) →
    receive rate (waveform rate.bitTime q.telegram) = some (.request q))

/-- The field bytes of a reply (R73, section 10.5): direction 1 and the address; the verb echo, the class code (1 GOOD, 2 BUSY, 3
REFUSED) and the sequence echo; the count; the station condition; then the values, each with its most significant byte first, or
the kind code and the channel count; then the check.
Every reply within the ranges of R73 is received with every field as sent (log entry 7). -/
def Obligations.RepliesAreReceivedAsSent : Prop :=
  (∀ r : Reply, r.address ≤ 127 →
    let verb :=
      match r.verb with
      | .fetch => 1
      | .store => 2
      | .query => 3
      | .latch => 4
      | .mark => 5
    let cls :=
      match r.cls with
      | .good => 1
      | .busy => 2
      | .refused => 3
    r.telegram =
      withCheck
        ([BitVec.ofNat 8 (128 + r.address), BitVec.ofNat 8 (32 * verb + 8 * cls + r.seq.toNat), BitVec.ofNat 8 r.count,
            r.condition] ++
          r.values.flatMap
            (fun v =>
              [BitVec.ofNat 8 (v.toNat / 0x1000000), BitVec.ofNat 8 (v.toNat / 0x10000),
                BitVec.ofNat 8 (v.toNat / 0x100), BitVec.ofNat 8 v.toNat]) ++
          (match r.identity with
          | some (kind, channels) => [kind, BitVec.ofNat 8 channels]
          | none => []))) ∧
  (∀ (rate : BitRate) (r : Reply), 1 ≤ r.address → r.address ≤ 125 →
    (r.verb = .fetch ∨ r.verb = .store ∨ r.verb = .query) → 1 ≤ r.count → r.count ≤ 8 →
    (r.cls = .good → r.verb = .fetch → r.values.length = r.count ∧ r.identity = none) →
    (r.cls = .good → r.verb = .query →
      r.values = [] ∧ ∃ kind channels, r.identity = some (kind, channels) ∧ 1 ≤ channels ∧ channels ≤ 32) →
    (r.cls ≠ .good ∨ r.verb = .store → r.values = [] ∧ r.identity = none) →
    receive rate (waveform rate.bitTime r.telegram) = some (.reply r))

/-! ### Invariants -/

/-- Every invariant holds right after reset. -/
def Obligations.InvariantsHoldAtReset : Prop :=
  State.reset.AreaAligned ∧ State.reset.StagingSound ∧ State.reset.QueuesSound ∧ State.reset.RoleSound ∧
    State.reset.StationsSound ∧ State.reset.ListsSound ∧ State.reset.CountsSound ∧ State.reset.PointsSound ∧
    State.reset.SweepSound ∧ State.reset.RecordsSound ∧ State.reset.HoldsSound ∧ State.reset.RingsSound

/-- Every step keeps the low 12 bits of the area base 0 (R158, R179).
Every step keeps the lanes' fault counts at most 15 and takeover_shift at most 3 (R90, R115).
Every step keeps results_written at most the Result Ring size past results_released, and the orders posted and not taken at most
the Order Ring size (R160).
Every step keeps the Sweep Engine STOPPED exactly unless the role is ACTIVE in RUNNING (R55).
Every step keeps every verified record ONLINE, SUSPECT or OFFLINE, every other UNKNOWN, OFFLINE or MISMATCH, and every read_cursor
below its slot_count (R4, R22).
Every step keeps a record held only for the order in HOLD_WAIT that names it (R8). -/
def Obligations.WidthsStayInRange : Prop :=
  (∀ s t : State, s.AreaAligned → step s = .next t → t.AreaAligned) ∧
  (∀ s t : State, s.CountsSound → step s = .next t → t.CountsSound) ∧
  (∀ s t : State, s.RingsSound → step s = .next t → t.RingsSound) ∧
  (∀ s t : State, s.SweepSound → step s = .next t → t.SweepSound) ∧
  (∀ s t : State, s.RecordsSound → step s = .next t → t.RecordsSound) ∧
  (∀ s t : State, s.HoldsSound → step s = .next t → t.HoldsSound)

/-- Every step keeps Staging within its six places, the reserved ones counted, with two places reserved for an open
exchange as it opens (R103, R165). -/
def Obligations.StagingNeverOverflows : Prop :=
  ∀ s t : State, s.StagingSound → step s = .next t → t.StagingSound

/-- Every step keeps the Bus Queue within 4 entries, the completion list within 5 results and the Order Cache within 8
orders (R133, R135, R143). -/
def Obligations.QueuesNeverOverflow : Prop :=
  ∀ s t : State, s.QueuesSound → step s = .next t → t.QueuesSound

/-- Every step keeps the role OFF in HALTED, and in DRAINING OFF once no exchange is open (R109, R123). -/
def Obligations.RoleFollowsTheExchangeState : Prop :=
  ∀ s t : State, s.RoleSound → step s = .next t → t.RoleSound

/-- Every step keeps the Station Table a map of at most 48 records whose windows share no slot (R1). -/
def Obligations.StationTableStaysSound : Prop :=
  ∀ s t : State, s.StationsSound → step s = .next t → t.StationsSound

/-- Every step keeps the Scan Lists within 64 entries, every one naming an enrolled station (R50). -/
def Obligations.ScanListsNameEnrolledStations : Prop :=
  ∀ s t : State, s.ListsSound → step s = .next t → t.ListsSound

/-- Every step keeps every slot outside all windows at the default point (R25). -/
def Obligations.FreeSlotsHoldTheDefaultPoint : Prop :=
  ∀ s t : State, s.PointsSound → step s = .next t → t.PointsSound

end
end

