-- ==== Sys2Proof/Laws/State.lean ====
section
/-! SUPPORT. What each small update of the state leaves alone, field by field, so that no later proof unfolds a
record update: the queue, `noteChange`, `setEvent`, `stage`, `settle` and its parts, the station and lane updates. -/

namespace Sys2Proof.Machine

/-! ### The queue -/

@[simp] theorem State.withPending_ctl (s : State) (q : List Instr) : (s.withPending q).ctl = s.ctl := rfl
@[simp] theorem State.withPending_xpt (s : State) (q : List Instr) : (s.withPending q).xpt = s.xpt := rfl
@[simp] theorem State.withPending_stations (s : State) (q : List Instr) : (s.withPending q).stations = s.stations := rfl
@[simp] theorem State.withPending_points (s : State) (q : List Instr) : (s.withPending q).points = s.points := rfl
@[simp] theorem State.withPending_swe (s : State) (q : List Instr) : (s.withPending q).swe = s.swe := rfl
@[simp] theorem State.withPending_exu (s : State) (q : List Instr) : (s.withPending q).exu = s.exu := rfl
@[simp] theorem State.withPending_lanes (s : State) (q : List Instr) : (s.withPending q).lanes = s.lanes := rfl
@[simp] theorem State.withPending_bar (s : State) (q : List Instr) : (s.withPending q).bar = s.bar := rfl
@[simp] theorem State.withPending_msu (s : State) (q : List Instr) : (s.withPending q).msu = s.msu := rfl
@[simp] theorem State.withPending_oru (s : State) (q : List Instr) : (s.withPending q).oru = s.oru := rfl
@[simp] theorem State.withPending_rpu (s : State) (q : List Instr) : (s.withPending q).rpu = s.rpu := rfl
@[simp] theorem State.withPending_pending (s : State) (q : List Instr) : (s.withPending q).pending = q := rfl

/-! ### `noteChange` -/

@[simp] theorem State.noteChange_ctl (s : State) : (s.noteChange).ctl = s.ctl := by
  unfold State.noteChange; split <;> rfl
@[simp] theorem State.noteChange_xpt (s : State) : (s.noteChange).xpt = s.xpt := by
  unfold State.noteChange; split <;> rfl
@[simp] theorem State.noteChange_stations (s : State) : (s.noteChange).stations = s.stations := by
  unfold State.noteChange; split <;> rfl
@[simp] theorem State.noteChange_points (s : State) : (s.noteChange).points = s.points := by
  unfold State.noteChange; split <;> rfl
@[simp] theorem State.noteChange_swe (s : State) : (s.noteChange).swe = s.swe := by
  unfold State.noteChange; split <;> rfl
@[simp] theorem State.noteChange_exu (s : State) : (s.noteChange).exu = s.exu := by
  unfold State.noteChange; split <;> rfl
@[simp] theorem State.noteChange_lanes (s : State) : (s.noteChange).lanes = s.lanes := by
  unfold State.noteChange; split <;> rfl
@[simp] theorem State.noteChange_bar (s : State) : (s.noteChange).bar = s.bar := by
  unfold State.noteChange; split <;> rfl
@[simp] theorem State.noteChange_msu (s : State) : (s.noteChange).msu = s.msu := by
  unfold State.noteChange; split <;> rfl
@[simp] theorem State.noteChange_oru (s : State) : (s.noteChange).oru = s.oru := by
  unfold State.noteChange; split <;> rfl
@[simp] theorem State.noteChange_pending (s : State) : (s.noteChange).pending = s.pending := by
  unfold State.noteChange; split <;> rfl
@[simp] theorem State.noteChange_rpu_staging (s : State) : (s.noteChange).rpu.staging = s.rpu.staging := by
  unfold State.noteChange; split <;> rfl
@[simp] theorem State.noteChange_rpu_head (s : State) : (s.noteChange).rpu.head = s.rpu.head := by
  unfold State.noteChange; split <;> rfl
@[simp] theorem State.noteChange_rpu_resultsWritten (s : State) : (s.noteChange).rpu.resultsWritten = s.rpu.resultsWritten := by
  unfold State.noteChange; split <;> rfl
@[simp] theorem State.noteChange_rpu_writePath (s : State) : (s.noteChange).rpu.writePath = s.rpu.writePath := by
  unfold State.noteChange; split <;> rfl
@[simp] theorem State.noteChange_rpu_recordsSinceReport (s : State) : (s.noteChange).rpu.recordsSinceReport = s.rpu.recordsSinceReport := by
  unfold State.noteChange; split <;> rfl
@[simp] theorem State.noteChange_rpu_reportDue (s : State) : (s.noteChange).rpu.reportDue = s.rpu.reportDue := by
  unfold State.noteChange; split <;> rfl
@[simp] theorem State.noteChange_rpu_bulkWaitTimer (s : State) : (s.noteChange).rpu.bulkWaitTimer = s.rpu.bulkWaitTimer := by
  unfold State.noteChange; split <;> rfl
@[simp] theorem State.noteChange_rpu_attention (s : State) : (s.noteChange).rpu.attention = s.rpu.attention := by
  unfold State.noteChange; split <;> rfl
@[simp] theorem State.noteChange_rpu_lastTag (s : State) : (s.noteChange).rpu.lastTag = s.rpu.lastTag := by
  unfold State.noteChange; split <;> rfl
@[simp] theorem State.noteChange_rpu_events (s : State) : (s.noteChange).rpu.events = s.rpu.events := by
  unfold State.noteChange; split <;> rfl

/-! ### `setEvent` -/

@[simp] theorem State.setEvent_ctl (s : State) (e : Event) : (s.setEvent e).ctl = s.ctl := by
  unfold State.setEvent; split <;> simp
@[simp] theorem State.setEvent_xpt (s : State) (e : Event) : (s.setEvent e).xpt = s.xpt := by
  unfold State.setEvent; split <;> simp
@[simp] theorem State.setEvent_stations (s : State) (e : Event) : (s.setEvent e).stations = s.stations := by
  unfold State.setEvent; split <;> simp
@[simp] theorem State.setEvent_points (s : State) (e : Event) : (s.setEvent e).points = s.points := by
  unfold State.setEvent; split <;> simp
@[simp] theorem State.setEvent_swe (s : State) (e : Event) : (s.setEvent e).swe = s.swe := by
  unfold State.setEvent; split <;> simp
@[simp] theorem State.setEvent_exu (s : State) (e : Event) : (s.setEvent e).exu = s.exu := by
  unfold State.setEvent; split <;> simp
@[simp] theorem State.setEvent_lanes (s : State) (e : Event) : (s.setEvent e).lanes = s.lanes := by
  unfold State.setEvent; split <;> simp
@[simp] theorem State.setEvent_bar (s : State) (e : Event) : (s.setEvent e).bar = s.bar := by
  unfold State.setEvent; split <;> simp
@[simp] theorem State.setEvent_msu (s : State) (e : Event) : (s.setEvent e).msu = s.msu := by
  unfold State.setEvent; split <;> simp
@[simp] theorem State.setEvent_oru (s : State) (e : Event) : (s.setEvent e).oru = s.oru := by
  unfold State.setEvent; split <;> simp
@[simp] theorem State.setEvent_pending (s : State) (e : Event) : (s.setEvent e).pending = s.pending := by
  unfold State.setEvent; split <;> simp
@[simp] theorem State.setEvent_rpu_staging (s : State) (e : Event) : (s.setEvent e).rpu.staging = s.rpu.staging := by
  unfold State.setEvent; split <;> simp
@[simp] theorem State.setEvent_rpu_head (s : State) (e : Event) : (s.setEvent e).rpu.head = s.rpu.head := by
  unfold State.setEvent; split <;> simp
@[simp] theorem State.setEvent_rpu_resultsWritten (s : State) (e : Event) : (s.setEvent e).rpu.resultsWritten = s.rpu.resultsWritten := by
  unfold State.setEvent; split <;> simp
@[simp] theorem State.setEvent_rpu_writePath (s : State) (e : Event) : (s.setEvent e).rpu.writePath = s.rpu.writePath := by
  unfold State.setEvent; split <;> simp
@[simp] theorem State.setEvent_rpu_recordsSinceReport (s : State) (e : Event) : (s.setEvent e).rpu.recordsSinceReport = s.rpu.recordsSinceReport := by
  unfold State.setEvent; split <;> simp
@[simp] theorem State.setEvent_rpu_reportDue (s : State) (e : Event) : (s.setEvent e).rpu.reportDue = s.rpu.reportDue := by
  unfold State.setEvent; split <;> simp
@[simp] theorem State.setEvent_rpu_bulkWaitTimer (s : State) (e : Event) : (s.setEvent e).rpu.bulkWaitTimer = s.rpu.bulkWaitTimer := by
  unfold State.setEvent; split <;> simp
@[simp] theorem State.setEvent_rpu_attention (s : State) (e : Event) : (s.setEvent e).rpu.attention = s.rpu.attention := by
  unfold State.setEvent; split <;> simp
@[simp] theorem State.setEvent_rpu_lastTag (s : State) (e : Event) : (s.setEvent e).rpu.lastTag = s.rpu.lastTag := by
  unfold State.setEvent; split <;> simp

/-! ### `setEvent?` -/

@[simp] theorem State.setEventOpt_ctl (s : State) (e : Option Event) : (s.setEvent? e).ctl = s.ctl := by
  cases e <;> simp [State.setEvent?]
@[simp] theorem State.setEventOpt_xpt (s : State) (e : Option Event) : (s.setEvent? e).xpt = s.xpt := by
  cases e <;> simp [State.setEvent?]
@[simp] theorem State.setEventOpt_stations (s : State) (e : Option Event) : (s.setEvent? e).stations = s.stations := by
  cases e <;> simp [State.setEvent?]
@[simp] theorem State.setEventOpt_points (s : State) (e : Option Event) : (s.setEvent? e).points = s.points := by
  cases e <;> simp [State.setEvent?]
@[simp] theorem State.setEventOpt_swe (s : State) (e : Option Event) : (s.setEvent? e).swe = s.swe := by
  cases e <;> simp [State.setEvent?]
@[simp] theorem State.setEventOpt_exu (s : State) (e : Option Event) : (s.setEvent? e).exu = s.exu := by
  cases e <;> simp [State.setEvent?]
@[simp] theorem State.setEventOpt_lanes (s : State) (e : Option Event) : (s.setEvent? e).lanes = s.lanes := by
  cases e <;> simp [State.setEvent?]
@[simp] theorem State.setEventOpt_bar (s : State) (e : Option Event) : (s.setEvent? e).bar = s.bar := by
  cases e <;> simp [State.setEvent?]
@[simp] theorem State.setEventOpt_msu (s : State) (e : Option Event) : (s.setEvent? e).msu = s.msu := by
  cases e <;> simp [State.setEvent?]
@[simp] theorem State.setEventOpt_oru (s : State) (e : Option Event) : (s.setEvent? e).oru = s.oru := by
  cases e <;> simp [State.setEvent?]
@[simp] theorem State.setEventOpt_pending (s : State) (e : Option Event) : (s.setEvent? e).pending = s.pending := by
  cases e <;> simp [State.setEvent?]
@[simp] theorem State.setEventOpt_rpu_staging (s : State) (e : Option Event) : (s.setEvent? e).rpu.staging = s.rpu.staging := by
  cases e <;> simp [State.setEvent?]
@[simp] theorem State.setEventOpt_rpu_head (s : State) (e : Option Event) : (s.setEvent? e).rpu.head = s.rpu.head := by
  cases e <;> simp [State.setEvent?]
@[simp] theorem State.setEventOpt_rpu_resultsWritten (s : State) (e : Option Event) : (s.setEvent? e).rpu.resultsWritten = s.rpu.resultsWritten := by
  cases e <;> simp [State.setEvent?]
@[simp] theorem State.setEventOpt_rpu_writePath (s : State) (e : Option Event) : (s.setEvent? e).rpu.writePath = s.rpu.writePath := by
  cases e <;> simp [State.setEvent?]
@[simp] theorem State.setEventOpt_rpu_recordsSinceReport (s : State) (e : Option Event) : (s.setEvent? e).rpu.recordsSinceReport = s.rpu.recordsSinceReport := by
  cases e <;> simp [State.setEvent?]
@[simp] theorem State.setEventOpt_rpu_reportDue (s : State) (e : Option Event) : (s.setEvent? e).rpu.reportDue = s.rpu.reportDue := by
  cases e <;> simp [State.setEvent?]
@[simp] theorem State.setEventOpt_rpu_bulkWaitTimer (s : State) (e : Option Event) : (s.setEvent? e).rpu.bulkWaitTimer = s.rpu.bulkWaitTimer := by
  cases e <;> simp [State.setEvent?]
@[simp] theorem State.setEventOpt_rpu_attention (s : State) (e : Option Event) : (s.setEvent? e).rpu.attention = s.rpu.attention := by
  cases e <;> simp [State.setEvent?]
@[simp] theorem State.setEventOpt_rpu_lastTag (s : State) (e : Option Event) : (s.setEvent? e).rpu.lastTag = s.rpu.lastTag := by
  cases e <;> simp [State.setEvent?]

/-! ### `stage` -/

@[simp] theorem State.stage_ctl (s : State) (r : Result) : (s.stage r).ctl = s.ctl := by
  simp [State.stage]
@[simp] theorem State.stage_xpt (s : State) (r : Result) : (s.stage r).xpt = s.xpt := by
  simp [State.stage]
@[simp] theorem State.stage_stations (s : State) (r : Result) : (s.stage r).stations = s.stations := by
  simp [State.stage]
@[simp] theorem State.stage_points (s : State) (r : Result) : (s.stage r).points = s.points := by
  simp [State.stage]
@[simp] theorem State.stage_swe (s : State) (r : Result) : (s.stage r).swe = s.swe := by
  simp [State.stage]
@[simp] theorem State.stage_exu (s : State) (r : Result) : (s.stage r).exu = s.exu := by
  simp [State.stage]
@[simp] theorem State.stage_lanes (s : State) (r : Result) : (s.stage r).lanes = s.lanes := by
  simp [State.stage]
@[simp] theorem State.stage_bar (s : State) (r : Result) : (s.stage r).bar = s.bar := by
  simp [State.stage]
@[simp] theorem State.stage_msu (s : State) (r : Result) : (s.stage r).msu = s.msu := by
  simp [State.stage]
@[simp] theorem State.stage_oru (s : State) (r : Result) : (s.stage r).oru = s.oru := by
  simp [State.stage]
@[simp] theorem State.stage_pending (s : State) (r : Result) : (s.stage r).pending = s.pending := by
  simp [State.stage]
@[simp] theorem State.stage_rpu_head (s : State) (r : Result) : (s.stage r).rpu.head = s.rpu.head := by
  simp [State.stage]
@[simp] theorem State.stage_rpu_resultsWritten (s : State) (r : Result) : (s.stage r).rpu.resultsWritten = s.rpu.resultsWritten := by
  simp [State.stage]
@[simp] theorem State.stage_rpu_writePath (s : State) (r : Result) : (s.stage r).rpu.writePath = s.rpu.writePath := by
  simp [State.stage]
@[simp] theorem State.stage_rpu_recordsSinceReport (s : State) (r : Result) : (s.stage r).rpu.recordsSinceReport = s.rpu.recordsSinceReport := by
  simp [State.stage]
@[simp] theorem State.stage_rpu_reportDue (s : State) (r : Result) : (s.stage r).rpu.reportDue = s.rpu.reportDue := by
  simp [State.stage]
@[simp] theorem State.stage_rpu_bulkWaitTimer (s : State) (r : Result) : (s.stage r).rpu.bulkWaitTimer = s.rpu.bulkWaitTimer := by
  simp [State.stage]
@[simp] theorem State.stage_rpu_attention (s : State) (r : Result) : (s.stage r).rpu.attention = s.rpu.attention := by
  simp [State.stage]
@[simp] theorem State.stage_rpu_lastTag (s : State) (r : Result) : (s.stage r).rpu.lastTag = s.rpu.lastTag := by
  simp [State.stage]
@[simp] theorem State.stage_rpu_staging (s : State) (r : Result) : (s.stage r).rpu.staging = s.rpu.staging ++ [r] := by
  simp [State.stage]

/-! ### `settleHead` -/

@[simp] theorem State.settleHead_ctl (s : State) : (s.settleHead).ctl = s.ctl := by
  unfold State.settleHead; split
  · split <;> rfl
  · rfl
@[simp] theorem State.settleHead_xpt (s : State) : (s.settleHead).xpt = s.xpt := by
  unfold State.settleHead; split
  · split <;> rfl
  · rfl
@[simp] theorem State.settleHead_stations (s : State) : (s.settleHead).stations = s.stations := by
  unfold State.settleHead; split
  · split <;> rfl
  · rfl
@[simp] theorem State.settleHead_points (s : State) : (s.settleHead).points = s.points := by
  unfold State.settleHead; split
  · split <;> rfl
  · rfl
@[simp] theorem State.settleHead_swe (s : State) : (s.settleHead).swe = s.swe := by
  unfold State.settleHead; split
  · split <;> rfl
  · rfl
@[simp] theorem State.settleHead_exu (s : State) : (s.settleHead).exu = s.exu := by
  unfold State.settleHead; split
  · split <;> rfl
  · rfl
@[simp] theorem State.settleHead_lanes (s : State) : (s.settleHead).lanes = s.lanes := by
  unfold State.settleHead; split
  · split <;> rfl
  · rfl
@[simp] theorem State.settleHead_bar (s : State) : (s.settleHead).bar = s.bar := by
  unfold State.settleHead; split
  · split <;> rfl
  · rfl
@[simp] theorem State.settleHead_msu (s : State) : (s.settleHead).msu = s.msu := by
  unfold State.settleHead; split
  · split <;> rfl
  · rfl
@[simp] theorem State.settleHead_oru (s : State) : (s.settleHead).oru = s.oru := by
  unfold State.settleHead; split
  · split <;> rfl
  · rfl
@[simp] theorem State.settleHead_pending (s : State) : (s.settleHead).pending = s.pending := by
  unfold State.settleHead; split
  · split <;> rfl
  · rfl
@[simp] theorem State.settleHead_rpu_staging (s : State) : (s.settleHead).rpu.staging = s.rpu.staging := by
  unfold State.settleHead; split
  · split <;> rfl
  · rfl
@[simp] theorem State.settleHead_rpu_resultsWritten (s : State) : (s.settleHead).rpu.resultsWritten = s.rpu.resultsWritten := by
  unfold State.settleHead; split
  · split <;> rfl
  · rfl
@[simp] theorem State.settleHead_rpu_writePath (s : State) : (s.settleHead).rpu.writePath = s.rpu.writePath := by
  unfold State.settleHead; split
  · split <;> rfl
  · rfl
@[simp] theorem State.settleHead_rpu_recordsSinceReport (s : State) : (s.settleHead).rpu.recordsSinceReport = s.rpu.recordsSinceReport := by
  unfold State.settleHead; split
  · split <;> rfl
  · rfl
@[simp] theorem State.settleHead_rpu_reportDue (s : State) : (s.settleHead).rpu.reportDue = s.rpu.reportDue := by
  unfold State.settleHead; split
  · split <;> rfl
  · rfl
@[simp] theorem State.settleHead_rpu_changed (s : State) : (s.settleHead).rpu.changed = s.rpu.changed := by
  unfold State.settleHead; split
  · split <;> rfl
  · rfl
@[simp] theorem State.settleHead_rpu_holdTimer (s : State) : (s.settleHead).rpu.holdTimer = s.rpu.holdTimer := by
  unfold State.settleHead; split
  · split <;> rfl
  · rfl
@[simp] theorem State.settleHead_rpu_attention (s : State) : (s.settleHead).rpu.attention = s.rpu.attention := by
  unfold State.settleHead; split
  · split <;> rfl
  · rfl
@[simp] theorem State.settleHead_rpu_lastTag (s : State) : (s.settleHead).rpu.lastTag = s.rpu.lastTag := by
  unfold State.settleHead; split
  · split <;> rfl
  · rfl
@[simp] theorem State.settleHead_rpu_events (s : State) : (s.settleHead).rpu.events = s.rpu.events := by
  unfold State.settleHead; split
  · split <;> rfl
  · rfl

/-! ### `settleReport` -/

@[simp] theorem State.settleReport_ctl (s : State) : (s.settleReport).ctl = s.ctl := by
  unfold State.settleReport; split <;> rfl
@[simp] theorem State.settleReport_xpt (s : State) : (s.settleReport).xpt = s.xpt := by
  unfold State.settleReport; split <;> rfl
@[simp] theorem State.settleReport_stations (s : State) : (s.settleReport).stations = s.stations := by
  unfold State.settleReport; split <;> rfl
@[simp] theorem State.settleReport_points (s : State) : (s.settleReport).points = s.points := by
  unfold State.settleReport; split <;> rfl
@[simp] theorem State.settleReport_swe (s : State) : (s.settleReport).swe = s.swe := by
  unfold State.settleReport; split <;> rfl
@[simp] theorem State.settleReport_exu (s : State) : (s.settleReport).exu = s.exu := by
  unfold State.settleReport; split <;> rfl
@[simp] theorem State.settleReport_lanes (s : State) : (s.settleReport).lanes = s.lanes := by
  unfold State.settleReport; split <;> rfl
@[simp] theorem State.settleReport_bar (s : State) : (s.settleReport).bar = s.bar := by
  unfold State.settleReport; split <;> rfl
@[simp] theorem State.settleReport_msu (s : State) : (s.settleReport).msu = s.msu := by
  unfold State.settleReport; split <;> rfl
@[simp] theorem State.settleReport_oru (s : State) : (s.settleReport).oru = s.oru := by
  unfold State.settleReport; split <;> rfl
@[simp] theorem State.settleReport_pending (s : State) : (s.settleReport).pending = s.pending := by
  unfold State.settleReport; split <;> rfl
@[simp] theorem State.settleReport_rpu_staging (s : State) : (s.settleReport).rpu.staging = s.rpu.staging := by
  unfold State.settleReport; split <;> rfl
@[simp] theorem State.settleReport_rpu_head (s : State) : (s.settleReport).rpu.head = s.rpu.head := by
  unfold State.settleReport; split <;> rfl
@[simp] theorem State.settleReport_rpu_resultsWritten (s : State) : (s.settleReport).rpu.resultsWritten = s.rpu.resultsWritten := by
  unfold State.settleReport; split <;> rfl
@[simp] theorem State.settleReport_rpu_writePath (s : State) : (s.settleReport).rpu.writePath = s.rpu.writePath := by
  unfold State.settleReport; split <;> rfl
@[simp] theorem State.settleReport_rpu_recordsSinceReport (s : State) : (s.settleReport).rpu.recordsSinceReport = s.rpu.recordsSinceReport := by
  unfold State.settleReport; split <;> rfl
@[simp] theorem State.settleReport_rpu_changed (s : State) : (s.settleReport).rpu.changed = s.rpu.changed := by
  unfold State.settleReport; split <;> rfl
@[simp] theorem State.settleReport_rpu_holdTimer (s : State) : (s.settleReport).rpu.holdTimer = s.rpu.holdTimer := by
  unfold State.settleReport; split <;> rfl
@[simp] theorem State.settleReport_rpu_bulkWaitTimer (s : State) : (s.settleReport).rpu.bulkWaitTimer = s.rpu.bulkWaitTimer := by
  unfold State.settleReport; split <;> rfl
@[simp] theorem State.settleReport_rpu_attention (s : State) : (s.settleReport).rpu.attention = s.rpu.attention := by
  unfold State.settleReport; split <;> rfl
@[simp] theorem State.settleReport_rpu_lastTag (s : State) : (s.settleReport).rpu.lastTag = s.rpu.lastTag := by
  unfold State.settleReport; split <;> rfl
@[simp] theorem State.settleReport_rpu_events (s : State) : (s.settleReport).rpu.events = s.rpu.events := by
  unfold State.settleReport; split <;> rfl

/-! ### `settleAttention` -/

@[simp] theorem State.settleAttention_ctl (s : State) : (s.settleAttention).ctl = s.ctl := by
  unfold State.settleAttention; split
  · split <;> rfl
  · rfl
@[simp] theorem State.settleAttention_xpt (s : State) : (s.settleAttention).xpt = s.xpt := by
  unfold State.settleAttention; split
  · split <;> rfl
  · rfl
@[simp] theorem State.settleAttention_stations (s : State) : (s.settleAttention).stations = s.stations := by
  unfold State.settleAttention; split
  · split <;> rfl
  · rfl
@[simp] theorem State.settleAttention_points (s : State) : (s.settleAttention).points = s.points := by
  unfold State.settleAttention; split
  · split <;> rfl
  · rfl
@[simp] theorem State.settleAttention_swe (s : State) : (s.settleAttention).swe = s.swe := by
  unfold State.settleAttention; split
  · split <;> rfl
  · rfl
@[simp] theorem State.settleAttention_exu (s : State) : (s.settleAttention).exu = s.exu := by
  unfold State.settleAttention; split
  · split <;> rfl
  · rfl
@[simp] theorem State.settleAttention_lanes (s : State) : (s.settleAttention).lanes = s.lanes := by
  unfold State.settleAttention; split
  · split <;> rfl
  · rfl
@[simp] theorem State.settleAttention_bar (s : State) : (s.settleAttention).bar = s.bar := by
  unfold State.settleAttention; split
  · split <;> rfl
  · rfl
@[simp] theorem State.settleAttention_msu (s : State) : (s.settleAttention).msu = s.msu := by
  unfold State.settleAttention; split
  · split <;> rfl
  · rfl
@[simp] theorem State.settleAttention_oru (s : State) : (s.settleAttention).oru = s.oru := by
  unfold State.settleAttention; split
  · split <;> rfl
  · rfl
@[simp] theorem State.settleAttention_pending (s : State) : (s.settleAttention).pending = s.pending := by
  unfold State.settleAttention; split
  · split <;> rfl
  · rfl
@[simp] theorem State.settleAttention_rpu_staging (s : State) : (s.settleAttention).rpu.staging = s.rpu.staging := by
  unfold State.settleAttention; split
  · split <;> rfl
  · rfl
@[simp] theorem State.settleAttention_rpu_head (s : State) : (s.settleAttention).rpu.head = s.rpu.head := by
  unfold State.settleAttention; split
  · split <;> rfl
  · rfl
@[simp] theorem State.settleAttention_rpu_resultsWritten (s : State) : (s.settleAttention).rpu.resultsWritten = s.rpu.resultsWritten := by
  unfold State.settleAttention; split
  · split <;> rfl
  · rfl
@[simp] theorem State.settleAttention_rpu_writePath (s : State) : (s.settleAttention).rpu.writePath = s.rpu.writePath := by
  unfold State.settleAttention; split
  · split <;> rfl
  · rfl
@[simp] theorem State.settleAttention_rpu_recordsSinceReport (s : State) : (s.settleAttention).rpu.recordsSinceReport = s.rpu.recordsSinceReport := by
  unfold State.settleAttention; split
  · split <;> rfl
  · rfl
@[simp] theorem State.settleAttention_rpu_reportDue (s : State) : (s.settleAttention).rpu.reportDue = s.rpu.reportDue := by
  unfold State.settleAttention; split
  · split <;> rfl
  · rfl
@[simp] theorem State.settleAttention_rpu_changed (s : State) : (s.settleAttention).rpu.changed = s.rpu.changed := by
  unfold State.settleAttention; split
  · split <;> rfl
  · rfl
@[simp] theorem State.settleAttention_rpu_holdTimer (s : State) : (s.settleAttention).rpu.holdTimer = s.rpu.holdTimer := by
  unfold State.settleAttention; split
  · split <;> rfl
  · rfl
@[simp] theorem State.settleAttention_rpu_bulkWaitTimer (s : State) : (s.settleAttention).rpu.bulkWaitTimer = s.rpu.bulkWaitTimer := by
  unfold State.settleAttention; split
  · split <;> rfl
  · rfl
@[simp] theorem State.settleAttention_rpu_lastTag (s : State) : (s.settleAttention).rpu.lastTag = s.rpu.lastTag := by
  unfold State.settleAttention; split
  · split <;> rfl
  · rfl
@[simp] theorem State.settleAttention_rpu_events (s : State) : (s.settleAttention).rpu.events = s.rpu.events := by
  unfold State.settleAttention; split
  · split <;> rfl
  · rfl

/-! ### `settle` -/

@[simp] theorem State.settle_ctl (s : State) : (s.settle).ctl = s.ctl := by
  simp [State.settle]
@[simp] theorem State.settle_xpt (s : State) : (s.settle).xpt = s.xpt := by
  simp [State.settle]
@[simp] theorem State.settle_stations (s : State) : (s.settle).stations = s.stations := by
  simp [State.settle]
@[simp] theorem State.settle_points (s : State) : (s.settle).points = s.points := by
  simp [State.settle]
@[simp] theorem State.settle_swe (s : State) : (s.settle).swe = s.swe := by
  simp [State.settle]
@[simp] theorem State.settle_exu (s : State) : (s.settle).exu = s.exu := by
  simp [State.settle]
@[simp] theorem State.settle_lanes (s : State) : (s.settle).lanes = s.lanes := by
  simp [State.settle]
@[simp] theorem State.settle_bar (s : State) : (s.settle).bar = s.bar := by
  simp [State.settle]
@[simp] theorem State.settle_msu (s : State) : (s.settle).msu = s.msu := by
  simp [State.settle]
@[simp] theorem State.settle_oru (s : State) : (s.settle).oru = s.oru := by
  simp [State.settle]
@[simp] theorem State.settle_pending (s : State) : (s.settle).pending = s.pending := by
  simp [State.settle]
@[simp] theorem State.settle_rpu_staging (s : State) : (s.settle).rpu.staging = s.rpu.staging := by
  simp [State.settle]
@[simp] theorem State.settle_rpu_resultsWritten (s : State) : (s.settle).rpu.resultsWritten = s.rpu.resultsWritten := by
  simp [State.settle]
@[simp] theorem State.settle_rpu_writePath (s : State) : (s.settle).rpu.writePath = s.rpu.writePath := by
  simp [State.settle]
@[simp] theorem State.settle_rpu_recordsSinceReport (s : State) : (s.settle).rpu.recordsSinceReport = s.rpu.recordsSinceReport := by
  simp [State.settle]
@[simp] theorem State.settle_rpu_changed (s : State) : (s.settle).rpu.changed = s.rpu.changed := by
  simp [State.settle]
@[simp] theorem State.settle_rpu_holdTimer (s : State) : (s.settle).rpu.holdTimer = s.rpu.holdTimer := by
  simp [State.settle]
@[simp] theorem State.settle_rpu_lastTag (s : State) : (s.settle).rpu.lastTag = s.rpu.lastTag := by
  simp [State.settle]
@[simp] theorem State.settle_rpu_events (s : State) : (s.settle).rpu.events = s.rpu.events := by
  simp [State.settle]

/-! ### `updateStation` -/

@[simp] theorem State.updateStation_ctl (s : State) (a : Nat) (f : StationRecord → StationRecord) : (s.updateStation a f).ctl = s.ctl := rfl
@[simp] theorem State.updateStation_xpt (s : State) (a : Nat) (f : StationRecord → StationRecord) : (s.updateStation a f).xpt = s.xpt := rfl
@[simp] theorem State.updateStation_points (s : State) (a : Nat) (f : StationRecord → StationRecord) : (s.updateStation a f).points = s.points := rfl
@[simp] theorem State.updateStation_swe (s : State) (a : Nat) (f : StationRecord → StationRecord) : (s.updateStation a f).swe = s.swe := rfl
@[simp] theorem State.updateStation_exu (s : State) (a : Nat) (f : StationRecord → StationRecord) : (s.updateStation a f).exu = s.exu := rfl
@[simp] theorem State.updateStation_lanes (s : State) (a : Nat) (f : StationRecord → StationRecord) : (s.updateStation a f).lanes = s.lanes := rfl
@[simp] theorem State.updateStation_bar (s : State) (a : Nat) (f : StationRecord → StationRecord) : (s.updateStation a f).bar = s.bar := rfl
@[simp] theorem State.updateStation_msu (s : State) (a : Nat) (f : StationRecord → StationRecord) : (s.updateStation a f).msu = s.msu := rfl
@[simp] theorem State.updateStation_oru (s : State) (a : Nat) (f : StationRecord → StationRecord) : (s.updateStation a f).oru = s.oru := rfl
@[simp] theorem State.updateStation_pending (s : State) (a : Nat) (f : StationRecord → StationRecord) : (s.updateStation a f).pending = s.pending := rfl
@[simp] theorem State.updateStation_rpu (s : State) (a : Nat) (f : StationRecord → StationRecord) : (s.updateStation a f).rpu = s.rpu := rfl

/-! ### `updateStationWindow` -/

@[simp] theorem State.updateStationWindow_ctl (s : State) (f : Point → Point) (r : StationRecord) : (s.updateStationWindow f r).ctl = s.ctl := rfl
@[simp] theorem State.updateStationWindow_xpt (s : State) (f : Point → Point) (r : StationRecord) : (s.updateStationWindow f r).xpt = s.xpt := rfl
@[simp] theorem State.updateStationWindow_stations (s : State) (f : Point → Point) (r : StationRecord) : (s.updateStationWindow f r).stations = s.stations := rfl
@[simp] theorem State.updateStationWindow_swe (s : State) (f : Point → Point) (r : StationRecord) : (s.updateStationWindow f r).swe = s.swe := rfl
@[simp] theorem State.updateStationWindow_exu (s : State) (f : Point → Point) (r : StationRecord) : (s.updateStationWindow f r).exu = s.exu := rfl
@[simp] theorem State.updateStationWindow_lanes (s : State) (f : Point → Point) (r : StationRecord) : (s.updateStationWindow f r).lanes = s.lanes := rfl
@[simp] theorem State.updateStationWindow_bar (s : State) (f : Point → Point) (r : StationRecord) : (s.updateStationWindow f r).bar = s.bar := rfl
@[simp] theorem State.updateStationWindow_msu (s : State) (f : Point → Point) (r : StationRecord) : (s.updateStationWindow f r).msu = s.msu := rfl
@[simp] theorem State.updateStationWindow_oru (s : State) (f : Point → Point) (r : StationRecord) : (s.updateStationWindow f r).oru = s.oru := rfl
@[simp] theorem State.updateStationWindow_pending (s : State) (f : Point → Point) (r : StationRecord) : (s.updateStationWindow f r).pending = s.pending := rfl
@[simp] theorem State.updateStationWindow_rpu (s : State) (f : Point → Point) (r : StationRecord) : (s.updateStationWindow f r).rpu = s.rpu := rfl

/-! ### `updateLane` -/

@[simp] theorem State.updateLane_ctl (s : State) (lane : LaneId) (f : LaneController → LaneController) : (s.updateLane lane f).ctl = s.ctl := by
  cases lane <;> rfl
@[simp] theorem State.updateLane_xpt (s : State) (lane : LaneId) (f : LaneController → LaneController) : (s.updateLane lane f).xpt = s.xpt := by
  cases lane <;> rfl
@[simp] theorem State.updateLane_stations (s : State) (lane : LaneId) (f : LaneController → LaneController) : (s.updateLane lane f).stations = s.stations := by
  cases lane <;> rfl
@[simp] theorem State.updateLane_points (s : State) (lane : LaneId) (f : LaneController → LaneController) : (s.updateLane lane f).points = s.points := by
  cases lane <;> rfl
@[simp] theorem State.updateLane_swe (s : State) (lane : LaneId) (f : LaneController → LaneController) : (s.updateLane lane f).swe = s.swe := by
  cases lane <;> rfl
@[simp] theorem State.updateLane_exu (s : State) (lane : LaneId) (f : LaneController → LaneController) : (s.updateLane lane f).exu = s.exu := by
  cases lane <;> rfl
@[simp] theorem State.updateLane_bar (s : State) (lane : LaneId) (f : LaneController → LaneController) : (s.updateLane lane f).bar = s.bar := by
  cases lane <;> rfl
@[simp] theorem State.updateLane_msu (s : State) (lane : LaneId) (f : LaneController → LaneController) : (s.updateLane lane f).msu = s.msu := by
  cases lane <;> rfl
@[simp] theorem State.updateLane_oru (s : State) (lane : LaneId) (f : LaneController → LaneController) : (s.updateLane lane f).oru = s.oru := by
  cases lane <;> rfl
@[simp] theorem State.updateLane_pending (s : State) (lane : LaneId) (f : LaneController → LaneController) : (s.updateLane lane f).pending = s.pending := by
  cases lane <;> rfl
@[simp] theorem State.updateLane_rpu (s : State) (lane : LaneId) (f : LaneController → LaneController) : (s.updateLane lane f).rpu = s.rpu := by
  cases lane <;> rfl

/-! ### `popOrder` -/

@[simp] theorem State.popOrder_ctl (s : State) : (s.popOrder).ctl = s.ctl := rfl
@[simp] theorem State.popOrder_xpt (s : State) : (s.popOrder).xpt = s.xpt := rfl
@[simp] theorem State.popOrder_stations (s : State) : (s.popOrder).stations = s.stations := rfl
@[simp] theorem State.popOrder_points (s : State) : (s.popOrder).points = s.points := rfl
@[simp] theorem State.popOrder_swe (s : State) : (s.popOrder).swe = s.swe := rfl
@[simp] theorem State.popOrder_exu (s : State) : (s.popOrder).exu = s.exu := rfl
@[simp] theorem State.popOrder_lanes (s : State) : (s.popOrder).lanes = s.lanes := rfl
@[simp] theorem State.popOrder_bar (s : State) : (s.popOrder).bar = s.bar := rfl
@[simp] theorem State.popOrder_msu (s : State) : (s.popOrder).msu = s.msu := rfl
@[simp] theorem State.popOrder_pending (s : State) : (s.popOrder).pending = s.pending := rfl
@[simp] theorem State.popOrder_rpu (s : State) : (s.popOrder).rpu = s.rpu := rfl

/-! ### `completeHand` -/

@[simp] theorem State.completeHand_ctl (s : State) (o : Order) (c : OrderOutcome) (d : Nat) (e : Entries) : (s.completeHand o c d e).ctl = s.ctl := rfl
@[simp] theorem State.completeHand_xpt (s : State) (o : Order) (c : OrderOutcome) (d : Nat) (e : Entries) : (s.completeHand o c d e).xpt = s.xpt := rfl
@[simp] theorem State.completeHand_stations (s : State) (o : Order) (c : OrderOutcome) (d : Nat) (e : Entries) : (s.completeHand o c d e).stations = s.stations := rfl
@[simp] theorem State.completeHand_points (s : State) (o : Order) (c : OrderOutcome) (d : Nat) (e : Entries) : (s.completeHand o c d e).points = s.points := rfl
@[simp] theorem State.completeHand_swe (s : State) (o : Order) (c : OrderOutcome) (d : Nat) (e : Entries) : (s.completeHand o c d e).swe = s.swe := rfl
@[simp] theorem State.completeHand_exu (s : State) (o : Order) (c : OrderOutcome) (d : Nat) (e : Entries) : (s.completeHand o c d e).exu = s.exu := rfl
@[simp] theorem State.completeHand_lanes (s : State) (o : Order) (c : OrderOutcome) (d : Nat) (e : Entries) : (s.completeHand o c d e).lanes = s.lanes := rfl
@[simp] theorem State.completeHand_bar (s : State) (o : Order) (c : OrderOutcome) (d : Nat) (e : Entries) : (s.completeHand o c d e).bar = s.bar := rfl
@[simp] theorem State.completeHand_msu (s : State) (o : Order) (c : OrderOutcome) (d : Nat) (e : Entries) : (s.completeHand o c d e).msu = s.msu := rfl
@[simp] theorem State.completeHand_pending (s : State) (o : Order) (c : OrderOutcome) (d : Nat) (e : Entries) : (s.completeHand o c d e).pending = s.pending := rfl
@[simp] theorem State.completeHand_rpu (s : State) (o : Order) (c : OrderOutcome) (d : Nat) (e : Entries) : (s.completeHand o c d e).rpu = s.rpu := rfl

/-! ### `answer` -/

@[simp] theorem State.answer_ctl (s : State) (o : Order) (c : OrderOutcome) : (s.answer o c).ctl = s.ctl := rfl
@[simp] theorem State.answer_xpt (s : State) (o : Order) (c : OrderOutcome) : (s.answer o c).xpt = s.xpt := rfl
@[simp] theorem State.answer_stations (s : State) (o : Order) (c : OrderOutcome) : (s.answer o c).stations = s.stations := rfl
@[simp] theorem State.answer_points (s : State) (o : Order) (c : OrderOutcome) : (s.answer o c).points = s.points := rfl
@[simp] theorem State.answer_swe (s : State) (o : Order) (c : OrderOutcome) : (s.answer o c).swe = s.swe := rfl
@[simp] theorem State.answer_exu (s : State) (o : Order) (c : OrderOutcome) : (s.answer o c).exu = s.exu := rfl
@[simp] theorem State.answer_lanes (s : State) (o : Order) (c : OrderOutcome) : (s.answer o c).lanes = s.lanes := rfl
@[simp] theorem State.answer_bar (s : State) (o : Order) (c : OrderOutcome) : (s.answer o c).bar = s.bar := rfl
@[simp] theorem State.answer_msu (s : State) (o : Order) (c : OrderOutcome) : (s.answer o c).msu = s.msu := rfl
@[simp] theorem State.answer_pending (s : State) (o : Order) (c : OrderOutcome) : (s.answer o c).pending = s.pending := rfl
@[simp] theorem State.answer_rpu (s : State) (o : Order) (c : OrderOutcome) : (s.answer o c).rpu = s.rpu := rfl

/-! ### `forbidRetry` -/

@[simp] theorem State.forbidRetry_ctl (s : State) : (s.forbidRetry).ctl = s.ctl := rfl
@[simp] theorem State.forbidRetry_xpt (s : State) : (s.forbidRetry).xpt = s.xpt := rfl
@[simp] theorem State.forbidRetry_stations (s : State) : (s.forbidRetry).stations = s.stations := rfl
@[simp] theorem State.forbidRetry_points (s : State) : (s.forbidRetry).points = s.points := rfl
@[simp] theorem State.forbidRetry_swe (s : State) : (s.forbidRetry).swe = s.swe := rfl
@[simp] theorem State.forbidRetry_lanes (s : State) : (s.forbidRetry).lanes = s.lanes := rfl
@[simp] theorem State.forbidRetry_bar (s : State) : (s.forbidRetry).bar = s.bar := rfl
@[simp] theorem State.forbidRetry_msu (s : State) : (s.forbidRetry).msu = s.msu := rfl
@[simp] theorem State.forbidRetry_oru (s : State) : (s.forbidRetry).oru = s.oru := rfl
@[simp] theorem State.forbidRetry_pending (s : State) : (s.forbidRetry).pending = s.pending := rfl
@[simp] theorem State.forbidRetry_rpu (s : State) : (s.forbidRetry).rpu = s.rpu := rfl

/-! ### `stageReserved` -/

@[simp] theorem State.stageReserved_ctl (s : State) (r : Result) : (s.stageReserved r).ctl = s.ctl := by
  simp [State.stageReserved]
@[simp] theorem State.stageReserved_xpt (s : State) (r : Result) : (s.stageReserved r).xpt = s.xpt := by
  simp [State.stageReserved]
@[simp] theorem State.stageReserved_stations (s : State) (r : Result) : (s.stageReserved r).stations = s.stations := by
  simp [State.stageReserved]
@[simp] theorem State.stageReserved_points (s : State) (r : Result) : (s.stageReserved r).points = s.points := by
  simp [State.stageReserved]
@[simp] theorem State.stageReserved_swe (s : State) (r : Result) : (s.stageReserved r).swe = s.swe := by
  simp [State.stageReserved]
@[simp] theorem State.stageReserved_exu (s : State) (r : Result) : (s.stageReserved r).exu = s.exu := by
  simp [State.stageReserved]
@[simp] theorem State.stageReserved_lanes (s : State) (r : Result) : (s.stageReserved r).lanes = s.lanes := by
  simp [State.stageReserved]
@[simp] theorem State.stageReserved_msu (s : State) (r : Result) : (s.stageReserved r).msu = s.msu := by
  simp [State.stageReserved]
@[simp] theorem State.stageReserved_oru (s : State) (r : Result) : (s.stageReserved r).oru = s.oru := by
  simp [State.stageReserved]
@[simp] theorem State.stageReserved_pending (s : State) (r : Result) : (s.stageReserved r).pending = s.pending := by
  simp [State.stageReserved]
@[simp] theorem State.stageReserved_rpu_head (s : State) (r : Result) : (s.stageReserved r).rpu.head = s.rpu.head := by
  simp [State.stageReserved]
@[simp] theorem State.stageReserved_rpu_resultsWritten (s : State) (r : Result) : (s.stageReserved r).rpu.resultsWritten = s.rpu.resultsWritten := by
  simp [State.stageReserved]
@[simp] theorem State.stageReserved_rpu_writePath (s : State) (r : Result) : (s.stageReserved r).rpu.writePath = s.rpu.writePath := by
  simp [State.stageReserved]
@[simp] theorem State.stageReserved_rpu_recordsSinceReport (s : State) (r : Result) : (s.stageReserved r).rpu.recordsSinceReport = s.rpu.recordsSinceReport := by
  simp [State.stageReserved]
@[simp] theorem State.stageReserved_rpu_reportDue (s : State) (r : Result) : (s.stageReserved r).rpu.reportDue = s.rpu.reportDue := by
  simp [State.stageReserved]
@[simp] theorem State.stageReserved_rpu_bulkWaitTimer (s : State) (r : Result) : (s.stageReserved r).rpu.bulkWaitTimer = s.rpu.bulkWaitTimer := by
  simp [State.stageReserved]
@[simp] theorem State.stageReserved_rpu_attention (s : State) (r : Result) : (s.stageReserved r).rpu.attention = s.rpu.attention := by
  simp [State.stageReserved]
@[simp] theorem State.stageReserved_rpu_lastTag (s : State) (r : Result) : (s.stageReserved r).rpu.lastTag = s.rpu.lastTag := by
  simp [State.stageReserved]

/-- A lane update changes that lane as told. -/
theorem State.updateLane_get (s : State) (lane : LaneId) (f : LaneController → LaneController) :
    (s.updateLane lane f).lanes.get lane = f (s.lanes.get lane) := by
  cases lane <;> rfl

/-- A lane update leaves the other lane as it was. -/
theorem State.updateLane_get_other (s : State) (lane : LaneId) (f : LaneController → LaneController) :
    (s.updateLane lane f).lanes.get (otherLane lane) = s.lanes.get (otherLane lane) := by
  cases lane <;> rfl

/-- `done` is the next state with its levels brought up to date. -/
@[simp] theorem done_eq (s : State) : done s = .next s.settle := rfl

end Sys2Proof.Machine
end

