-- ==== Sys2Proof/Laws/Tables.lean ====
section
/-! SUPPORT. What the operations over the Point Table and the Station Table do: a window update read back at any
slot, and a record inserted, found and changed. -/

namespace Sys2Proof.Machine

/-- The point of a slot of a table; the default point outside 0..383. -/
def pointAt (v : Vector Point Config.slotCount) (slot : Nat) : Point := (v[slot]?).getD Point.default

theorem State.point_eq (s : State) (slot : Nat) : s.point slot = pointAt s.points slot := rfl

/-- One slot updated, read back at any slot. -/
theorem updatePoint_at (f : Point → Point) (v : Vector Point Config.slotCount) (slot i : Nat)
    (h : i < Config.slotCount) :
    pointAt (updatePoint f v slot) i = if slot = i then f (pointAt v i) else pointAt v i := by
  unfold pointAt updatePoint
  by_cases e : slot = i
  · subst e; simp [h]
  · simp [e]

/-- A run of slots updated one after the other, read back at any slot. -/
theorem foldl_updatePoint_at (f : Point → Point) (count : Nat) :
    ∀ (first : Nat) (v : Vector Point Config.slotCount) (i : Nat), i < Config.slotCount →
      pointAt ((List.range' first count).foldl (updatePoint f) v) i =
        if first ≤ i ∧ i < first + count then f (pointAt v i) else pointAt v i := by
  induction count with
  | zero => intro first v i _; simp
  | succ n ih =>
    intro first v i h
    rw [List.range'_succ, List.foldl_cons, ih _ _ i h, updatePoint_at f v first i h]
    by_cases e : first = i
    · subst e; simp
    · by_cases e2 : first + 1 ≤ i ∧ i < first + 1 + n
      · rw [if_pos e2, if_neg e, if_pos (by omega)]
      · rw [if_neg e2, if_neg e, if_neg (by omega)]

/-- A window update changes exactly the slots `first .. first + count − 1`. -/
theorem updateWindow_at (f : Point → Point) (first count : Nat) (v : Vector Point Config.slotCount) (i : Nat)
    (h : i < Config.slotCount) :
    pointAt (updateWindow f first count v) i =
      if first ≤ i ∧ i < first + count then f (pointAt v i) else pointAt v i :=
  foldl_updatePoint_at f count first v i h

/-- The records after an insertion. -/
theorem mem_insertRecord (r q : StationRecord) (l : List StationRecord) :
    q ∈ insertRecord r l ↔ q = r ∨ q ∈ l := by
  induction l with
  | nil => simp [insertRecord]
  | cons a rest ih =>
    unfold insertRecord
    split
    · simp
    · simp only [List.mem_cons, ih]
      constructor <;> (intro h; rcases h with h | h | h <;> simp_all)

/-- An insertion adds one record. -/
theorem length_insertRecord (r : StationRecord) (l : List StationRecord) :
    (insertRecord r l).length = l.length + 1 := by
  induction l with
  | nil => rfl
  | cons a rest ih =>
    unfold insertRecord
    split
    · rfl
    · simp [ih]

/-- A record found names the station looked up. -/
theorem State.station?_address {s : State} {a : Nat} {r : StationRecord} (h : s.station? a = some r) :
    r.address = a := by
  unfold State.station? at h
  simpa using List.find?_some h

/-- A record found is in the table. -/
theorem State.station?_mem {s : State} {a : Nat} {r : StationRecord} (h : s.station? a = some r) :
    r ∈ s.stations :=
  List.mem_of_find?_eq_some h

/-- A list of records changed at one address by an update that keeps addresses, looked up. -/
theorem find?_map_update (a b : Nat) (f : StationRecord → StationRecord)
    (keeps : ∀ r, r.address = a → (f r).address = a) (l : List StationRecord) :
    (l.map (fun r => if r.address = a then f r else r)).find? (fun r => r.address = b) =
      (l.find? (fun r => r.address = b)).map (fun r => if r.address = a then f r else r) := by
  induction l with
  | nil => rfl
  | cons q rest ih =>
    have key : (if q.address = a then f q else q).address = q.address := by
      split
      · rename_i h; rw [keeps q h, h]
      · rfl
    rw [List.map_cons, List.find?_cons, List.find?_cons, key, ih]
    split <;> rfl

/-- A station is changed by an update that keeps addresses: its own record as told, every other record kept. -/
theorem State.updateStation_station? (s : State) (a b : Nat) (f : StationRecord → StationRecord)
    (keeps : ∀ r, r.address = a → (f r).address = a) :
    (s.updateStation a f).station? b = (s.station? b).map (fun r => if r.address = a then f r else r) :=
  find?_map_update a b f keeps s.stations

end Sys2Proof.Machine
end

