-- ==== Sys2Proof/Laws/Conditioning.lean ====
section
/-! SUPPORT. What conditioning the readings of one reply does (R28, R29): the points after it, the reading reports and
the changes, each from the points as they stood before it. -/

namespace Sys2Proof.Machine

/-- The readings of a reply after the first channel's. -/
theorem readingsOf_cons (first : Nat) (v : Word) (values : List Word) :
    readingsOf first (v :: values) = (first, v) :: readingsOf (first + 1) values := by
  simp [readingsOf, List.range'_succ]

/-- One reading of a reply: its own point changes, and its report and its change are taken. -/
theorem Conditioned.step_mapped (n : Word) (rec : StationRecord) (c : Conditioned) (ch : Nat) (raw : Word)
    (h : ch < rec.slotCount) :
    c.step n rec (ch, raw) =
      { points := updatePoint (fun _ => (conditionPoint n (pointAt c.points (rec.firstSlot + ch)) raw).point) c.points
          (rec.firstSlot + ch)
        reports := c.reports ++ [(conditionPoint n (pointAt c.points (rec.firstSlot + ch)) raw).report ch]
        changes := c.changes ++ (conditionPoint n (pointAt c.points (rec.firstSlot + ch)) raw).collected ch raw } := by
  simp only [Conditioned.step, if_pos h, pointAt]

/-- A reading of a channel that is not mapped does nothing. -/
theorem Conditioned.step_unmapped (n : Word) (rec : StationRecord) (c : Conditioned) (ch : Nat) (raw : Word)
    (h : rec.slotCount ≤ ch) : c.step n rec (ch, raw) = c := by
  simp only [Conditioned.step, if_neg (Nat.not_lt.2 h)]

/-- What the fold over the readings of a reply does, read back: every mapped channel's point is conditioned once, by its
own value, and the reports and changes are those of the mapped channels in ascending order. -/
theorem Conditioned.foldl_step (n : Word) (rec : StationRecord) (h : rec.firstSlot + rec.slotCount ≤ Config.slotCount)
    (values : List Word) :
    ∀ (first : Nat) (c : Conditioned),
      let d := (readingsOf first values).foldl (Conditioned.step n rec) c
      let z (reading : Nat × Word) := conditionPoint n (pointAt c.points (rec.firstSlot + reading.1)) reading.2
      let mapped := (readingsOf first values).filter (fun reading => reading.1 < rec.slotCount)
      (∀ i, i < Config.slotCount →
        pointAt d.points i =
          if rec.firstSlot + first ≤ i ∧ i < rec.firstSlot + min (first + values.length) rec.slotCount then
            (conditionPoint n (pointAt c.points i) (values.getD (i - (rec.firstSlot + first)) 0)).point
          else pointAt c.points i) ∧
      d.reports = c.reports ++ mapped.map (fun reading => (z reading).report reading.1) ∧
      d.changes = c.changes ++ mapped.flatMap (fun reading => (z reading).collected reading.1 reading.2) := by
  induction values with
  | nil =>
    intro first c
    refine ⟨fun i _ => ?_, by simp [readingsOf], by simp [readingsOf]⟩
    rw [if_neg (by simp; omega)]; rfl
  | cons v values ih =>
    intro first c
    rw [readingsOf_cons]
    simp only [List.foldl_cons]
    by_cases hf : first < rec.slotCount
    · rw [Conditioned.step_mapped n rec c first v hf]
      obtain ⟨k1, k2, k3⟩ := ih (first + 1)
        { points := updatePoint (fun _ => (conditionPoint n (pointAt c.points (rec.firstSlot + first)) v).point) c.points
            (rec.firstSlot + first)
          reports := c.reports ++ [(conditionPoint n (pointAt c.points (rec.firstSlot + first)) v).report first]
          changes := c.changes ++ (conditionPoint n (pointAt c.points (rec.firstSlot + first)) v).collected first v }
      have other : ∀ reading ∈ (readingsOf (first + 1) values).filter (fun reading => reading.1 < rec.slotCount),
          pointAt (updatePoint (fun _ => (conditionPoint n (pointAt c.points (rec.firstSlot + first)) v).point) c.points
            (rec.firstSlot + first)) (rec.firstSlot + reading.1) =
            pointAt c.points (rec.firstSlot + reading.1) := by
        intro (ch, raw) hm
        have hm := List.mem_filter.1 hm
        have h1 : first + 1 ≤ ch := by
          have := (List.of_mem_zip hm.1).1
          simp at this; omega
        have h2 : ch < rec.slotCount := by simpa using hm.2
        show pointAt _ (rec.firstSlot + ch) = pointAt _ (rec.firstSlot + ch)
        rw [updatePoint_at _ _ _ _ (by omega), if_neg (by omega)]
      refine ⟨fun i hi => ?_, ?_, ?_⟩
      · rw [k1 i hi, updatePoint_at _ _ _ _ hi]
        simp only [List.length_cons]
        by_cases e : rec.firstSlot + first = i
        · subst e
          rw [if_neg (by omega), if_pos rfl, if_pos (by omega)]
          simp
        · rw [if_neg e]
          by_cases e2 : rec.firstSlot + (first + 1) ≤ i ∧ i < rec.firstSlot + min (first + 1 + values.length) rec.slotCount
          · rw [if_pos e2, if_pos (by omega)]
            have : i - (rec.firstSlot + first) = (i - (rec.firstSlot + (first + 1))) + 1 := by omega
            rw [this, List.getD_cons_succ]
          · rw [if_neg e2, if_neg (by omega)]
      · rw [k2, List.filter_cons_of_pos (by simpa using hf), List.map_cons, List.append_assoc, List.singleton_append]
        congr 2
        exact List.map_congr_left (fun reading hm => by dsimp only; rw [other reading hm])
      · rw [k3, List.filter_cons_of_pos (by simpa using hf), List.flatMap_cons, List.append_assoc]
        congr 2
        exact List.flatMap_congr (fun reading hm => by dsimp only; rw [other reading hm])
    · rw [Conditioned.step_unmapped n rec c first v (by omega)]
      obtain ⟨k1, k2, k3⟩ := ih (first + 1) c
      refine ⟨fun i hi => ?_, ?_, ?_⟩
      · rw [k1 i hi, if_neg (by simp; omega), if_neg (by simp; omega)]
      · rw [k2, List.filter_cons_of_neg (by simpa using hf)]
      · rw [k3, List.filter_cons_of_neg (by simpa using hf)]

end Sys2Proof.Machine
end

