-- ==== Sys2Proof/Laws/Sweep.lean ====
section
/-! SUPPORT. What the shared operations of the Sweep Engine leave alone and what they change: the walk, the end and the
abandonment of a sweep, holds and retirement. -/

namespace Sys2Proof.Machine

/-! ### `rest` -/

@[simp] theorem SweepEngine.rest_active (e : SweepEngine) : e.rest.active = e.active := rfl
@[simp] theorem SweepEngine.rest_pendingList (e : SweepEngine) : e.rest.pendingList = e.pendingList := rfl
@[simp] theorem SweepEngine.rest_pendingReady (e : SweepEngine) : e.rest.pendingReady = e.pendingReady := rfl
@[simp] theorem SweepEngine.rest_sweepCount (e : SweepEngine) : e.rest.sweepCount = e.sweepCount := rfl
@[simp] theorem SweepEngine.rest_overrunCount (e : SweepEngine) : e.rest.overrunCount = e.overrunCount := rfl

/-! ### `finishSweep` -/

@[simp] theorem State.finishSweep_ctl (s : State) : (s.finishSweep).ctl = s.ctl := rfl
@[simp] theorem State.finishSweep_xpt (s : State) : (s.finishSweep).xpt = s.xpt := rfl
@[simp] theorem State.finishSweep_stations (s : State) : (s.finishSweep).stations = s.stations := rfl
@[simp] theorem State.finishSweep_points (s : State) : (s.finishSweep).points = s.points := rfl
@[simp] theorem State.finishSweep_exu (s : State) : (s.finishSweep).exu = s.exu := rfl
@[simp] theorem State.finishSweep_lanes (s : State) : (s.finishSweep).lanes = s.lanes := rfl
@[simp] theorem State.finishSweep_bar (s : State) : (s.finishSweep).bar = s.bar := rfl
@[simp] theorem State.finishSweep_msu (s : State) : (s.finishSweep).msu = s.msu := rfl
@[simp] theorem State.finishSweep_oru (s : State) : (s.finishSweep).oru = s.oru := rfl
@[simp] theorem State.finishSweep_pending (s : State) : (s.finishSweep).pending = s.pending := rfl
@[simp] theorem State.finishSweep_swe_claim (s : State) : (s.finishSweep).swe.claim = s.swe.claim := rfl
@[simp] theorem State.finishSweep_swe_active (s : State) : (s.finishSweep).swe.active = s.swe.active := rfl
@[simp] theorem State.finishSweep_swe_pendingList (s : State) : (s.finishSweep).swe.pendingList = s.swe.pendingList := rfl
@[simp] theorem State.finishSweep_swe_pendingReady (s : State) : (s.finishSweep).swe.pendingReady = s.swe.pendingReady := rfl
@[simp] theorem State.finishSweep_rpu (s : State) : (s.finishSweep).rpu = s.rpu := rfl

/-! ### `endSweep` -/

@[simp] theorem State.endSweep_ctl (s : State) : (s.endSweep).ctl = s.ctl := by
  unfold State.endSweep
  dsimp only
  split
  · split <;> simp
  · simp
@[simp] theorem State.endSweep_xpt (s : State) : (s.endSweep).xpt = s.xpt := by
  unfold State.endSweep
  dsimp only
  split
  · split <;> simp
  · simp
@[simp] theorem State.endSweep_stations (s : State) : (s.endSweep).stations = s.stations := by
  unfold State.endSweep
  dsimp only
  split
  · split <;> simp
  · simp
@[simp] theorem State.endSweep_points (s : State) : (s.endSweep).points = s.points := by
  unfold State.endSweep
  dsimp only
  split
  · split <;> simp
  · simp
@[simp] theorem State.endSweep_exu (s : State) : (s.endSweep).exu = s.exu := by
  unfold State.endSweep
  dsimp only
  split
  · split <;> simp
  · simp
@[simp] theorem State.endSweep_lanes (s : State) : (s.endSweep).lanes = s.lanes := by
  unfold State.endSweep
  dsimp only
  split
  · split <;> simp
  · simp
@[simp] theorem State.endSweep_bar (s : State) : (s.endSweep).bar = s.bar := by
  unfold State.endSweep
  dsimp only
  split
  · split <;> simp
  · simp
@[simp] theorem State.endSweep_msu (s : State) : (s.endSweep).msu = s.msu := by
  unfold State.endSweep
  dsimp only
  split
  · split <;> simp
  · simp
@[simp] theorem State.endSweep_oru (s : State) : (s.endSweep).oru = s.oru := by
  unfold State.endSweep
  dsimp only
  split
  · split <;> simp
  · simp
@[simp] theorem State.endSweep_pending (s : State) : (s.endSweep).pending = s.pending := by
  unfold State.endSweep
  dsimp only
  split
  · split <;> simp
  · simp
@[simp] theorem State.endSweep_swe_claim (s : State) : (s.endSweep).swe.claim = s.swe.claim := by
  unfold State.endSweep
  dsimp only
  split
  · split <;> simp
  · simp
@[simp] theorem State.endSweep_swe_active (s : State) : (s.endSweep).swe.active = s.swe.active := by
  unfold State.endSweep
  dsimp only
  split
  · split <;> simp
  · simp
@[simp] theorem State.endSweep_swe_pendingList (s : State) : (s.endSweep).swe.pendingList = s.swe.pendingList := by
  unfold State.endSweep
  dsimp only
  split
  · split <;> simp
  · simp
@[simp] theorem State.endSweep_swe_pendingReady (s : State) : (s.endSweep).swe.pendingReady = s.swe.pendingReady := by
  unfold State.endSweep
  dsimp only
  split
  · split <;> simp
  · simp
@[simp] theorem State.endSweep_rpu_head (s : State) : (s.endSweep).rpu.head = s.rpu.head := by
  unfold State.endSweep
  dsimp only
  split
  · split <;> simp
  · simp
@[simp] theorem State.endSweep_rpu_resultsWritten (s : State) : (s.endSweep).rpu.resultsWritten = s.rpu.resultsWritten := by
  unfold State.endSweep
  dsimp only
  split
  · split <;> simp
  · simp
@[simp] theorem State.endSweep_rpu_writePath (s : State) : (s.endSweep).rpu.writePath = s.rpu.writePath := by
  unfold State.endSweep
  dsimp only
  split
  · split <;> simp
  · simp
@[simp] theorem State.endSweep_rpu_lastTag (s : State) : (s.endSweep).rpu.lastTag = s.rpu.lastTag := by
  unfold State.endSweep
  dsimp only
  split
  · split <;> simp
  · simp

/-! ### `walk` -/

@[simp] theorem State.walk_ctl (s : State) : (s.walk).ctl = s.ctl := by
  unfold State.walk
  dsimp only
  split <;> simp
@[simp] theorem State.walk_xpt (s : State) : (s.walk).xpt = s.xpt := by
  unfold State.walk
  dsimp only
  split <;> simp
@[simp] theorem State.walk_stations (s : State) : (s.walk).stations = s.stations := by
  unfold State.walk
  dsimp only
  split <;> simp
@[simp] theorem State.walk_points (s : State) : (s.walk).points = s.points := by
  unfold State.walk
  dsimp only
  split <;> simp
@[simp] theorem State.walk_exu (s : State) : (s.walk).exu = s.exu := by
  unfold State.walk
  dsimp only
  split <;> simp
@[simp] theorem State.walk_lanes (s : State) : (s.walk).lanes = s.lanes := by
  unfold State.walk
  dsimp only
  split <;> simp
@[simp] theorem State.walk_bar (s : State) : (s.walk).bar = s.bar := by
  unfold State.walk
  dsimp only
  split <;> simp
@[simp] theorem State.walk_msu (s : State) : (s.walk).msu = s.msu := by
  unfold State.walk
  dsimp only
  split <;> simp
@[simp] theorem State.walk_oru (s : State) : (s.walk).oru = s.oru := by
  unfold State.walk
  dsimp only
  split <;> simp
@[simp] theorem State.walk_pending (s : State) : (s.walk).pending = s.pending := by
  unfold State.walk
  dsimp only
  split <;> simp
@[simp] theorem State.walk_swe_claim (s : State) : (s.walk).swe.claim = s.swe.claim := by
  unfold State.walk
  dsimp only
  split <;> simp
@[simp] theorem State.walk_swe_active (s : State) : (s.walk).swe.active = s.swe.active := by
  unfold State.walk
  dsimp only
  split <;> simp
@[simp] theorem State.walk_swe_pendingList (s : State) : (s.walk).swe.pendingList = s.swe.pendingList := by
  unfold State.walk
  dsimp only
  split <;> simp
@[simp] theorem State.walk_swe_pendingReady (s : State) : (s.walk).swe.pendingReady = s.swe.pendingReady := by
  unfold State.walk
  dsimp only
  split <;> simp
@[simp] theorem State.walk_rpu_head (s : State) : (s.walk).rpu.head = s.rpu.head := by
  unfold State.walk
  dsimp only
  split <;> simp
@[simp] theorem State.walk_rpu_resultsWritten (s : State) : (s.walk).rpu.resultsWritten = s.rpu.resultsWritten := by
  unfold State.walk
  dsimp only
  split <;> simp
@[simp] theorem State.walk_rpu_writePath (s : State) : (s.walk).rpu.writePath = s.rpu.writePath := by
  unfold State.walk
  dsimp only
  split <;> simp
@[simp] theorem State.walk_rpu_lastTag (s : State) : (s.walk).rpu.lastTag = s.rpu.lastTag := by
  unfold State.walk
  dsimp only
  split <;> simp

/-! ### `skipClaim` -/

@[simp] theorem State.skipClaim_ctl (s : State) : (s.skipClaim).ctl = s.ctl := by
  unfold State.skipClaim
  simp
@[simp] theorem State.skipClaim_xpt (s : State) : (s.skipClaim).xpt = s.xpt := by
  unfold State.skipClaim
  simp
@[simp] theorem State.skipClaim_stations (s : State) : (s.skipClaim).stations = s.stations := by
  unfold State.skipClaim
  simp
@[simp] theorem State.skipClaim_points (s : State) : (s.skipClaim).points = s.points := by
  unfold State.skipClaim
  simp
@[simp] theorem State.skipClaim_exu (s : State) : (s.skipClaim).exu = s.exu := by
  unfold State.skipClaim
  simp
@[simp] theorem State.skipClaim_lanes (s : State) : (s.skipClaim).lanes = s.lanes := by
  unfold State.skipClaim
  simp
@[simp] theorem State.skipClaim_bar (s : State) : (s.skipClaim).bar = s.bar := by
  unfold State.skipClaim
  simp
@[simp] theorem State.skipClaim_msu (s : State) : (s.skipClaim).msu = s.msu := by
  unfold State.skipClaim
  simp
@[simp] theorem State.skipClaim_oru (s : State) : (s.skipClaim).oru = s.oru := by
  unfold State.skipClaim
  simp
@[simp] theorem State.skipClaim_pending (s : State) : (s.skipClaim).pending = s.pending := by
  unfold State.skipClaim
  simp
@[simp] theorem State.skipClaim_swe_claim (s : State) : (s.skipClaim).swe.claim = none := by
  unfold State.skipClaim
  simp
@[simp] theorem State.skipClaim_swe_active (s : State) : (s.skipClaim).swe.active = s.swe.active := by
  unfold State.skipClaim
  simp
@[simp] theorem State.skipClaim_swe_pendingList (s : State) : (s.skipClaim).swe.pendingList = s.swe.pendingList := by
  unfold State.skipClaim
  simp
@[simp] theorem State.skipClaim_swe_pendingReady (s : State) : (s.skipClaim).swe.pendingReady = s.swe.pendingReady := by
  unfold State.skipClaim
  simp
@[simp] theorem State.skipClaim_rpu_head (s : State) : (s.skipClaim).rpu.head = s.rpu.head := by
  unfold State.skipClaim
  simp
@[simp] theorem State.skipClaim_rpu_resultsWritten (s : State) : (s.skipClaim).rpu.resultsWritten = s.rpu.resultsWritten := by
  unfold State.skipClaim
  simp
@[simp] theorem State.skipClaim_rpu_writePath (s : State) : (s.skipClaim).rpu.writePath = s.rpu.writePath := by
  unfold State.skipClaim
  simp
@[simp] theorem State.skipClaim_rpu_lastTag (s : State) : (s.skipClaim).rpu.lastTag = s.rpu.lastTag := by
  unfold State.skipClaim
  simp

/-! ### `finishAbandon` -/

@[simp] theorem State.finishAbandon_ctl (s : State) : (s.finishAbandon).ctl = s.ctl := by
  unfold State.finishAbandon
  split
  · split
    · split <;> simp
    · simp
  · rfl
@[simp] theorem State.finishAbandon_xpt (s : State) : (s.finishAbandon).xpt = s.xpt := by
  unfold State.finishAbandon
  split
  · split
    · split <;> simp
    · simp
  · rfl
@[simp] theorem State.finishAbandon_stations (s : State) : (s.finishAbandon).stations = s.stations := by
  unfold State.finishAbandon
  split
  · split
    · split <;> simp
    · simp
  · rfl
@[simp] theorem State.finishAbandon_points (s : State) : (s.finishAbandon).points = s.points := by
  unfold State.finishAbandon
  split
  · split
    · split <;> simp
    · simp
  · rfl
@[simp] theorem State.finishAbandon_exu (s : State) : (s.finishAbandon).exu = s.exu := by
  unfold State.finishAbandon
  split
  · split
    · split <;> simp
    · simp
  · rfl
@[simp] theorem State.finishAbandon_lanes (s : State) : (s.finishAbandon).lanes = s.lanes := by
  unfold State.finishAbandon
  split
  · split
    · split <;> simp
    · simp
  · rfl
@[simp] theorem State.finishAbandon_bar (s : State) : (s.finishAbandon).bar = s.bar := by
  unfold State.finishAbandon
  split
  · split
    · split <;> simp
    · simp
  · rfl
@[simp] theorem State.finishAbandon_msu (s : State) : (s.finishAbandon).msu = s.msu := by
  unfold State.finishAbandon
  split
  · split
    · split <;> simp
    · simp
  · rfl
@[simp] theorem State.finishAbandon_oru (s : State) : (s.finishAbandon).oru = s.oru := by
  unfold State.finishAbandon
  split
  · split
    · split <;> simp
    · simp
  · rfl
@[simp] theorem State.finishAbandon_pending (s : State) : (s.finishAbandon).pending = s.pending := by
  unfold State.finishAbandon
  split
  · split
    · split <;> simp
    · simp
  · rfl
@[simp] theorem State.finishAbandon_swe_active (s : State) : (s.finishAbandon).swe.active = s.swe.active := by
  unfold State.finishAbandon
  split
  · split
    · split <;> simp
    · simp
  · rfl
@[simp] theorem State.finishAbandon_swe_pendingList (s : State) : (s.finishAbandon).swe.pendingList = s.swe.pendingList := by
  unfold State.finishAbandon
  split
  · split
    · split <;> simp
    · simp
  · rfl
@[simp] theorem State.finishAbandon_swe_pendingReady (s : State) : (s.finishAbandon).swe.pendingReady = s.swe.pendingReady := by
  unfold State.finishAbandon
  split
  · split
    · split <;> simp
    · simp
  · rfl
@[simp] theorem State.finishAbandon_rpu_head (s : State) : (s.finishAbandon).rpu.head = s.rpu.head := by
  unfold State.finishAbandon
  split
  · split
    · split <;> simp
    · simp
  · rfl
@[simp] theorem State.finishAbandon_rpu_resultsWritten (s : State) : (s.finishAbandon).rpu.resultsWritten = s.rpu.resultsWritten := by
  unfold State.finishAbandon
  split
  · split
    · split <;> simp
    · simp
  · rfl
@[simp] theorem State.finishAbandon_rpu_writePath (s : State) : (s.finishAbandon).rpu.writePath = s.rpu.writePath := by
  unfold State.finishAbandon
  split
  · split
    · split <;> simp
    · simp
  · rfl
@[simp] theorem State.finishAbandon_rpu_lastTag (s : State) : (s.finishAbandon).rpu.lastTag = s.rpu.lastTag := by
  unfold State.finishAbandon
  split
  · split
    · split <;> simp
    · simp
  · rfl

/-! ### `stopSweep` -/

@[simp] theorem State.stopSweep_ctl (s : State) : (s.stopSweep).ctl = s.ctl := by
  unfold State.stopSweep
  split <;> simp
@[simp] theorem State.stopSweep_xpt (s : State) : (s.stopSweep).xpt = s.xpt := by
  unfold State.stopSweep
  split <;> simp
@[simp] theorem State.stopSweep_stations (s : State) : (s.stopSweep).stations = s.stations := by
  unfold State.stopSweep
  split <;> simp
@[simp] theorem State.stopSweep_points (s : State) : (s.stopSweep).points = s.points := by
  unfold State.stopSweep
  split <;> simp
@[simp] theorem State.stopSweep_exu (s : State) : (s.stopSweep).exu = s.exu := by
  unfold State.stopSweep
  split <;> simp
@[simp] theorem State.stopSweep_lanes (s : State) : (s.stopSweep).lanes = s.lanes := by
  unfold State.stopSweep
  split <;> simp
@[simp] theorem State.stopSweep_bar (s : State) : (s.stopSweep).bar = s.bar := by
  unfold State.stopSweep
  split <;> simp
@[simp] theorem State.stopSweep_msu (s : State) : (s.stopSweep).msu = s.msu := by
  unfold State.stopSweep
  split <;> simp
@[simp] theorem State.stopSweep_oru (s : State) : (s.stopSweep).oru = s.oru := by
  unfold State.stopSweep
  split <;> simp
@[simp] theorem State.stopSweep_pending (s : State) : (s.stopSweep).pending = s.pending := by
  unfold State.stopSweep
  split <;> simp
@[simp] theorem State.stopSweep_swe_active (s : State) : (s.stopSweep).swe.active = s.swe.active := by
  unfold State.stopSweep
  split <;> simp
@[simp] theorem State.stopSweep_swe_pendingList (s : State) : (s.stopSweep).swe.pendingList = s.swe.pendingList := by
  unfold State.stopSweep
  split <;> simp
@[simp] theorem State.stopSweep_swe_pendingReady (s : State) : (s.stopSweep).swe.pendingReady = s.swe.pendingReady := by
  unfold State.stopSweep
  split <;> simp
@[simp] theorem State.stopSweep_rpu_head (s : State) : (s.stopSweep).rpu.head = s.rpu.head := by
  unfold State.stopSweep
  split <;> simp
@[simp] theorem State.stopSweep_rpu_resultsWritten (s : State) : (s.stopSweep).rpu.resultsWritten = s.rpu.resultsWritten := by
  unfold State.stopSweep
  split <;> simp
@[simp] theorem State.stopSweep_rpu_writePath (s : State) : (s.stopSweep).rpu.writePath = s.rpu.writePath := by
  unfold State.stopSweep
  split <;> simp
@[simp] theorem State.stopSweep_rpu_lastTag (s : State) : (s.stopSweep).rpu.lastTag = s.rpu.lastTag := by
  unfold State.stopSweep
  split <;> simp

/-! ### `sweepPollClosed` -/

@[simp] theorem State.sweepPollClosed_ctl (s : State) (miss : Bool) : (s.sweepPollClosed miss).ctl = s.ctl := by
  unfold State.sweepPollClosed
  dsimp only
  split
  · simp
  · split <;> simp
@[simp] theorem State.sweepPollClosed_xpt (s : State) (miss : Bool) : (s.sweepPollClosed miss).xpt = s.xpt := by
  unfold State.sweepPollClosed
  dsimp only
  split
  · simp
  · split <;> simp
@[simp] theorem State.sweepPollClosed_stations (s : State) (miss : Bool) : (s.sweepPollClosed miss).stations = s.stations := by
  unfold State.sweepPollClosed
  dsimp only
  split
  · simp
  · split <;> simp
@[simp] theorem State.sweepPollClosed_points (s : State) (miss : Bool) : (s.sweepPollClosed miss).points = s.points := by
  unfold State.sweepPollClosed
  dsimp only
  split
  · simp
  · split <;> simp
@[simp] theorem State.sweepPollClosed_exu (s : State) (miss : Bool) : (s.sweepPollClosed miss).exu = s.exu := by
  unfold State.sweepPollClosed
  dsimp only
  split
  · simp
  · split <;> simp
@[simp] theorem State.sweepPollClosed_lanes (s : State) (miss : Bool) : (s.sweepPollClosed miss).lanes = s.lanes := by
  unfold State.sweepPollClosed
  dsimp only
  split
  · simp
  · split <;> simp
@[simp] theorem State.sweepPollClosed_bar (s : State) (miss : Bool) : (s.sweepPollClosed miss).bar = s.bar := by
  unfold State.sweepPollClosed
  dsimp only
  split
  · simp
  · split <;> simp
@[simp] theorem State.sweepPollClosed_msu (s : State) (miss : Bool) : (s.sweepPollClosed miss).msu = s.msu := by
  unfold State.sweepPollClosed
  dsimp only
  split
  · simp
  · split <;> simp
@[simp] theorem State.sweepPollClosed_oru (s : State) (miss : Bool) : (s.sweepPollClosed miss).oru = s.oru := by
  unfold State.sweepPollClosed
  dsimp only
  split
  · simp
  · split <;> simp
@[simp] theorem State.sweepPollClosed_pending (s : State) (miss : Bool) : (s.sweepPollClosed miss).pending = s.pending := by
  unfold State.sweepPollClosed
  dsimp only
  split
  · simp
  · split <;> simp
@[simp] theorem State.sweepPollClosed_swe_active (s : State) (miss : Bool) : (s.sweepPollClosed miss).swe.active = s.swe.active := by
  unfold State.sweepPollClosed
  dsimp only
  split
  · simp
  · split <;> simp
@[simp] theorem State.sweepPollClosed_swe_pendingList (s : State) (miss : Bool) : (s.sweepPollClosed miss).swe.pendingList = s.swe.pendingList := by
  unfold State.sweepPollClosed
  dsimp only
  split
  · simp
  · split <;> simp
@[simp] theorem State.sweepPollClosed_swe_pendingReady (s : State) (miss : Bool) : (s.sweepPollClosed miss).swe.pendingReady = s.swe.pendingReady := by
  unfold State.sweepPollClosed
  dsimp only
  split
  · simp
  · split <;> simp
@[simp] theorem State.sweepPollClosed_rpu_head (s : State) (miss : Bool) : (s.sweepPollClosed miss).rpu.head = s.rpu.head := by
  unfold State.sweepPollClosed
  dsimp only
  split
  · simp
  · split <;> simp
@[simp] theorem State.sweepPollClosed_rpu_resultsWritten (s : State) (miss : Bool) : (s.sweepPollClosed miss).rpu.resultsWritten = s.rpu.resultsWritten := by
  unfold State.sweepPollClosed
  dsimp only
  split
  · simp
  · split <;> simp
@[simp] theorem State.sweepPollClosed_rpu_writePath (s : State) (miss : Bool) : (s.sweepPollClosed miss).rpu.writePath = s.rpu.writePath := by
  unfold State.sweepPollClosed
  dsimp only
  split
  · simp
  · split <;> simp
@[simp] theorem State.sweepPollClosed_rpu_lastTag (s : State) (miss : Bool) : (s.sweepPollClosed miss).rpu.lastTag = s.rpu.lastTag := by
  unfold State.sweepPollClosed
  dsimp only
  split
  · simp
  · split <;> simp

/-! ### `holdStation` -/

@[simp] theorem State.holdStation_ctl (s : State) (a : Nat) : (s.holdStation a).ctl = s.ctl := by
  unfold State.holdStation
  dsimp only
  split <;> simp
@[simp] theorem State.holdStation_xpt (s : State) (a : Nat) : (s.holdStation a).xpt = s.xpt := by
  unfold State.holdStation
  dsimp only
  split <;> simp
@[simp] theorem State.holdStation_points (s : State) (a : Nat) : (s.holdStation a).points = s.points := by
  unfold State.holdStation
  dsimp only
  split <;> simp
@[simp] theorem State.holdStation_exu (s : State) (a : Nat) : (s.holdStation a).exu = s.exu := by
  unfold State.holdStation
  dsimp only
  split <;> simp
@[simp] theorem State.holdStation_lanes (s : State) (a : Nat) : (s.holdStation a).lanes = s.lanes := by
  unfold State.holdStation
  dsimp only
  split <;> simp
@[simp] theorem State.holdStation_bar (s : State) (a : Nat) : (s.holdStation a).bar = s.bar := by
  unfold State.holdStation
  dsimp only
  split <;> simp
@[simp] theorem State.holdStation_msu (s : State) (a : Nat) : (s.holdStation a).msu = s.msu := by
  unfold State.holdStation
  dsimp only
  split <;> simp
@[simp] theorem State.holdStation_oru (s : State) (a : Nat) : (s.holdStation a).oru = s.oru := by
  unfold State.holdStation
  dsimp only
  split <;> simp
@[simp] theorem State.holdStation_pending (s : State) (a : Nat) : (s.holdStation a).pending = s.pending := by
  unfold State.holdStation
  dsimp only
  split <;> simp
@[simp] theorem State.holdStation_swe_active (s : State) (a : Nat) : (s.holdStation a).swe.active = s.swe.active := by
  unfold State.holdStation
  dsimp only
  split <;> simp
@[simp] theorem State.holdStation_swe_pendingList (s : State) (a : Nat) : (s.holdStation a).swe.pendingList = s.swe.pendingList := by
  unfold State.holdStation
  dsimp only
  split <;> simp
@[simp] theorem State.holdStation_swe_pendingReady (s : State) (a : Nat) : (s.holdStation a).swe.pendingReady = s.swe.pendingReady := by
  unfold State.holdStation
  dsimp only
  split <;> simp
@[simp] theorem State.holdStation_rpu_head (s : State) (a : Nat) : (s.holdStation a).rpu.head = s.rpu.head := by
  unfold State.holdStation
  dsimp only
  split <;> simp
@[simp] theorem State.holdStation_rpu_resultsWritten (s : State) (a : Nat) : (s.holdStation a).rpu.resultsWritten = s.rpu.resultsWritten := by
  unfold State.holdStation
  dsimp only
  split <;> simp
@[simp] theorem State.holdStation_rpu_writePath (s : State) (a : Nat) : (s.holdStation a).rpu.writePath = s.rpu.writePath := by
  unfold State.holdStation
  dsimp only
  split <;> simp
@[simp] theorem State.holdStation_rpu_lastTag (s : State) (a : Nat) : (s.holdStation a).rpu.lastTag = s.rpu.lastTag := by
  unfold State.holdStation
  dsimp only
  split <;> simp

@[simp] theorem State.holdStation_stations (s : State) (a : Nat) :
    (s.holdStation a).stations = s.stations.map (fun r => if r.address = a then { r with held := true } else r) := by
  unfold State.holdStation
  dsimp only
  split <;> simp [State.updateStation]

/-! ### `retireStation` -/

@[simp] theorem State.retireStation_ctl (s : State) (a : Nat) : (s.retireStation a).ctl = s.ctl := by
  unfold State.retireStation
  split
  · rfl
  · dsimp only
    split <;> simp [State.resetWindow]
@[simp] theorem State.retireStation_xpt (s : State) (a : Nat) : (s.retireStation a).xpt = s.xpt := by
  unfold State.retireStation
  split
  · rfl
  · dsimp only
    split <;> simp [State.resetWindow]
@[simp] theorem State.retireStation_exu (s : State) (a : Nat) : (s.retireStation a).exu = s.exu := by
  unfold State.retireStation
  split
  · rfl
  · dsimp only
    split <;> simp [State.resetWindow]
@[simp] theorem State.retireStation_lanes (s : State) (a : Nat) : (s.retireStation a).lanes = s.lanes := by
  unfold State.retireStation
  split
  · rfl
  · dsimp only
    split <;> simp [State.resetWindow]
@[simp] theorem State.retireStation_bar (s : State) (a : Nat) : (s.retireStation a).bar = s.bar := by
  unfold State.retireStation
  split
  · rfl
  · dsimp only
    split <;> simp [State.resetWindow]
@[simp] theorem State.retireStation_msu (s : State) (a : Nat) : (s.retireStation a).msu = s.msu := by
  unfold State.retireStation
  split
  · rfl
  · dsimp only
    split <;> simp [State.resetWindow]
@[simp] theorem State.retireStation_oru (s : State) (a : Nat) : (s.retireStation a).oru = s.oru := by
  unfold State.retireStation
  split
  · rfl
  · dsimp only
    split <;> simp [State.resetWindow]
@[simp] theorem State.retireStation_pending (s : State) (a : Nat) : (s.retireStation a).pending = s.pending := by
  unfold State.retireStation
  split
  · rfl
  · dsimp only
    split <;> simp [State.resetWindow]
@[simp] theorem State.retireStation_rpu_head (s : State) (a : Nat) : (s.retireStation a).rpu.head = s.rpu.head := by
  unfold State.retireStation
  split
  · rfl
  · dsimp only
    split <;> simp [State.resetWindow]
@[simp] theorem State.retireStation_rpu_resultsWritten (s : State) (a : Nat) : (s.retireStation a).rpu.resultsWritten = s.rpu.resultsWritten := by
  unfold State.retireStation
  split
  · rfl
  · dsimp only
    split <;> simp [State.resetWindow]
@[simp] theorem State.retireStation_rpu_writePath (s : State) (a : Nat) : (s.retireStation a).rpu.writePath = s.rpu.writePath := by
  unfold State.retireStation
  split
  · rfl
  · dsimp only
    split <;> simp [State.resetWindow]
@[simp] theorem State.retireStation_rpu_lastTag (s : State) (a : Nat) : (s.retireStation a).rpu.lastTag = s.rpu.lastTag := by
  unfold State.retireStation
  split
  · rfl
  · dsimp only
    split <;> simp [State.resetWindow]

/-! ### Staging

Each of these stages at most one result, and only into a free place. -/

/-- Result Staging and the places reserved stay within its six places (R103, R165). -/
def State.Roomy (s : State) : Prop := s.rpu.staging.length + s.bar.reserved ≤ Config.stagingResults

theorem State.freePlaces_pos {s : State} :
    0 < s.freePlaces ↔ s.rpu.staging.length + s.bar.reserved < Config.stagingResults := by
  unfold State.freePlaces
  omega

@[simp] theorem State.finishSweep_roomy (s : State) : s.finishSweep.Roomy ↔ s.Roomy := Iff.rfl

theorem State.stage_roomy {s : State} (r : Result) (h : 0 < s.freePlaces) : (s.stage r).Roomy := by
  rw [State.freePlaces_pos] at h
  unfold State.Roomy
  simp
  omega

theorem State.endSweep_roomy {s : State} (h : s.Roomy) : s.endSweep.Roomy := by
  unfold State.endSweep
  dsimp only
  split
  · split
    · rename_i hp
      exact State.stage_roomy (s := { s with swe.sweepCount := s.swe.sweepCount + 1 }) _ hp
    · exact h
  · exact h

theorem State.walk_roomy {s : State} (h : s.Roomy) : s.walk.Roomy := by
  unfold State.walk
  dsimp only
  split
  · exact State.endSweep_roomy (s := { s with swe.cursor := _, swe.skipped := _ }) h
  · exact h

theorem State.skipClaim_roomy {s : State} (h : s.Roomy) : s.skipClaim.Roomy :=
  State.walk_roomy (s := { s with swe.claim := none, swe.cursor := _, swe.skipped := _ }) h

theorem State.finishAbandon_roomy {s : State} (h : s.Roomy) : s.finishAbandon.Roomy := by
  unfold State.finishAbandon
  split
  · split
    · split
      · rename_i hp
        exact State.stage_roomy (s := s) _ hp
      · exact h
    · exact h
  · exact h

theorem State.stopSweep_roomy {s : State} (h : s.Roomy) : s.stopSweep.Roomy := by
  unfold State.stopSweep
  split
  · exact h
  · exact h
  · exact State.finishAbandon_roomy (s := { s with
      swe.state := .stopped, swe.periodTimer := false, swe.claim := none, swe.endWait := false
      swe.abandoning := true }) h

theorem State.sweepPollClosed_roomy {s : State} (miss : Bool) (h : s.Roomy) : (s.sweepPollClosed miss).Roomy := by
  unfold State.sweepPollClosed
  dsimp only
  split
  · exact State.walk_roomy (s := { s with swe.polls := _, swe.misses := _, swe.cursor := _ }) h
  · split
    · exact State.finishAbandon_roomy (s := { s with swe.polls := _, swe.misses := _, swe.cursor := _ }) h
    · exact h

theorem State.holdStation_roomy {s : State} (a : Nat) (h : s.Roomy) : (s.holdStation a).Roomy := by
  unfold State.holdStation
  dsimp only
  split
  · exact State.skipClaim_roomy (s := s.updateStation a _) h
  · exact h

theorem State.retireStation_roomy {s : State} (a : Nat) (h : s.Roomy) : (s.retireStation a).Roomy := by
  unfold State.retireStation
  split
  · exact h
  · dsimp only
    split
    · exact State.walk_roomy (s := { s.resetWindow _ with stations := _, swe.active := _, swe.pendingList := _, swe.cursor := _ }) h
    · exact h

end Sys2Proof.Machine
end

