-- ==== Sys2Proof/Laws/Orders.lean ====
section
/-! SUPPORT. What the shared operations of the Order Unit and of the Mastership Unit leave alone and what they change. -/

namespace Sys2Proof.Machine

/-! ### `markerCheck` -/

@[simp] theorem State.markerCheck_ctl (s : State) : (s.markerCheck).ctl = s.ctl := by
  unfold State.markerCheck
  split
  · split <;> simp [State.answer, State.completeHand]
  · rfl
@[simp] theorem State.markerCheck_xpt (s : State) : (s.markerCheck).xpt = s.xpt := by
  unfold State.markerCheck
  split
  · split <;> simp [State.answer, State.completeHand]
  · rfl
@[simp] theorem State.markerCheck_stations (s : State) : (s.markerCheck).stations = s.stations := by
  unfold State.markerCheck
  split
  · split <;> simp [State.answer, State.completeHand]
  · rfl
@[simp] theorem State.markerCheck_points (s : State) : (s.markerCheck).points = s.points := by
  unfold State.markerCheck
  split
  · split <;> simp [State.answer, State.completeHand]
  · rfl
@[simp] theorem State.markerCheck_swe (s : State) : (s.markerCheck).swe = s.swe := by
  unfold State.markerCheck
  split
  · split <;> simp [State.answer, State.completeHand]
  · rfl
@[simp] theorem State.markerCheck_exu (s : State) : (s.markerCheck).exu = s.exu := by
  unfold State.markerCheck
  split
  · split <;> simp [State.answer, State.completeHand]
  · rfl
@[simp] theorem State.markerCheck_lanes (s : State) : (s.markerCheck).lanes = s.lanes := by
  unfold State.markerCheck
  split
  · split <;> simp [State.answer, State.completeHand]
  · rfl
@[simp] theorem State.markerCheck_bar (s : State) : (s.markerCheck).bar = s.bar := by
  unfold State.markerCheck
  split
  · split <;> simp [State.answer, State.completeHand]
  · rfl
@[simp] theorem State.markerCheck_msu (s : State) : (s.markerCheck).msu = s.msu := by
  unfold State.markerCheck
  split
  · split <;> simp [State.answer, State.completeHand]
  · rfl
@[simp] theorem State.markerCheck_rpu (s : State) : (s.markerCheck).rpu = s.rpu := by
  unfold State.markerCheck
  split
  · split <;> simp [State.answer, State.completeHand]
  · rfl
@[simp] theorem State.markerCheck_pending (s : State) : (s.markerCheck).pending = s.pending := by
  unfold State.markerCheck
  split
  · split <;> simp [State.answer, State.completeHand]
  · rfl
@[simp] theorem State.markerCheck_oru_cache (s : State) : (s.markerCheck).oru.cache = s.oru.cache := by
  unfold State.markerCheck
  split
  · split <;> simp [State.answer, State.completeHand]
  · rfl
@[simp] theorem State.markerCheck_oru_busQueue (s : State) : (s.markerCheck).oru.busQueue = s.oru.busQueue := by
  unfold State.markerCheck
  split
  · split <;> simp [State.answer, State.completeHand]
  · rfl

/-! ### `entryLeft` -/

@[simp] theorem State.entryLeft_ctl (s : State) : (s.entryLeft).ctl = s.ctl := by
  unfold State.entryLeft
  split <;> simp
@[simp] theorem State.entryLeft_xpt (s : State) : (s.entryLeft).xpt = s.xpt := by
  unfold State.entryLeft
  split <;> simp
@[simp] theorem State.entryLeft_stations (s : State) : (s.entryLeft).stations = s.stations := by
  unfold State.entryLeft
  split <;> simp
@[simp] theorem State.entryLeft_points (s : State) : (s.entryLeft).points = s.points := by
  unfold State.entryLeft
  split <;> simp
@[simp] theorem State.entryLeft_swe (s : State) : (s.entryLeft).swe = s.swe := by
  unfold State.entryLeft
  split <;> simp
@[simp] theorem State.entryLeft_exu (s : State) : (s.entryLeft).exu = s.exu := by
  unfold State.entryLeft
  split <;> simp
@[simp] theorem State.entryLeft_lanes (s : State) : (s.entryLeft).lanes = s.lanes := by
  unfold State.entryLeft
  split <;> simp
@[simp] theorem State.entryLeft_bar (s : State) : (s.entryLeft).bar = s.bar := by
  unfold State.entryLeft
  split <;> simp
@[simp] theorem State.entryLeft_msu (s : State) : (s.entryLeft).msu = s.msu := by
  unfold State.entryLeft
  split <;> simp
@[simp] theorem State.entryLeft_rpu (s : State) : (s.entryLeft).rpu = s.rpu := by
  unfold State.entryLeft
  split <;> simp
@[simp] theorem State.entryLeft_pending (s : State) : (s.entryLeft).pending = s.pending := by
  unfold State.entryLeft
  split <;> simp
@[simp] theorem State.entryLeft_oru_cache (s : State) : (s.entryLeft).oru.cache = s.oru.cache := by
  unfold State.entryLeft
  split <;> simp

/-! ### `endEntry` -/

@[simp] theorem State.endEntry_ctl (s : State) (i : Nat) (e : BusEntry) (outcome : OrderOutcome) : (s.endEntry i e outcome).ctl = s.ctl := by
  unfold State.endEntry
  simp
@[simp] theorem State.endEntry_xpt (s : State) (i : Nat) (e : BusEntry) (outcome : OrderOutcome) : (s.endEntry i e outcome).xpt = s.xpt := by
  unfold State.endEntry
  simp
@[simp] theorem State.endEntry_stations (s : State) (i : Nat) (e : BusEntry) (outcome : OrderOutcome) : (s.endEntry i e outcome).stations = s.stations := by
  unfold State.endEntry
  simp
@[simp] theorem State.endEntry_points (s : State) (i : Nat) (e : BusEntry) (outcome : OrderOutcome) : (s.endEntry i e outcome).points = s.points := by
  unfold State.endEntry
  simp
@[simp] theorem State.endEntry_swe (s : State) (i : Nat) (e : BusEntry) (outcome : OrderOutcome) : (s.endEntry i e outcome).swe = s.swe := by
  unfold State.endEntry
  simp
@[simp] theorem State.endEntry_exu (s : State) (i : Nat) (e : BusEntry) (outcome : OrderOutcome) : (s.endEntry i e outcome).exu = s.exu := by
  unfold State.endEntry
  simp
@[simp] theorem State.endEntry_lanes (s : State) (i : Nat) (e : BusEntry) (outcome : OrderOutcome) : (s.endEntry i e outcome).lanes = s.lanes := by
  unfold State.endEntry
  simp
@[simp] theorem State.endEntry_bar (s : State) (i : Nat) (e : BusEntry) (outcome : OrderOutcome) : (s.endEntry i e outcome).bar = s.bar := by
  unfold State.endEntry
  simp
@[simp] theorem State.endEntry_msu (s : State) (i : Nat) (e : BusEntry) (outcome : OrderOutcome) : (s.endEntry i e outcome).msu = s.msu := by
  unfold State.endEntry
  simp
@[simp] theorem State.endEntry_rpu (s : State) (i : Nat) (e : BusEntry) (outcome : OrderOutcome) : (s.endEntry i e outcome).rpu = s.rpu := by
  unfold State.endEntry
  simp
@[simp] theorem State.endEntry_pending (s : State) (i : Nat) (e : BusEntry) (outcome : OrderOutcome) : (s.endEntry i e outcome).pending = s.pending := by
  unfold State.endEntry
  simp
@[simp] theorem State.endEntry_oru_cache (s : State) (i : Nat) (e : BusEntry) (outcome : OrderOutcome) : (s.endEntry i e outcome).oru.cache = s.oru.cache := by
  unfold State.endEntry
  simp

/-! ### `continueEntry` -/

@[simp] theorem State.continueEntry_ctl (s : State) (i : Nat) (e : BusEntry) : (s.continueEntry i e).ctl = s.ctl := by
  unfold State.continueEntry
  split
  · simp
  · split <;> simp
@[simp] theorem State.continueEntry_xpt (s : State) (i : Nat) (e : BusEntry) : (s.continueEntry i e).xpt = s.xpt := by
  unfold State.continueEntry
  split
  · simp
  · split <;> simp
@[simp] theorem State.continueEntry_stations (s : State) (i : Nat) (e : BusEntry) : (s.continueEntry i e).stations = s.stations := by
  unfold State.continueEntry
  split
  · simp
  · split <;> simp
@[simp] theorem State.continueEntry_points (s : State) (i : Nat) (e : BusEntry) : (s.continueEntry i e).points = s.points := by
  unfold State.continueEntry
  split
  · simp
  · split <;> simp
@[simp] theorem State.continueEntry_swe (s : State) (i : Nat) (e : BusEntry) : (s.continueEntry i e).swe = s.swe := by
  unfold State.continueEntry
  split
  · simp
  · split <;> simp
@[simp] theorem State.continueEntry_exu (s : State) (i : Nat) (e : BusEntry) : (s.continueEntry i e).exu = s.exu := by
  unfold State.continueEntry
  split
  · simp
  · split <;> simp
@[simp] theorem State.continueEntry_lanes (s : State) (i : Nat) (e : BusEntry) : (s.continueEntry i e).lanes = s.lanes := by
  unfold State.continueEntry
  split
  · simp
  · split <;> simp
@[simp] theorem State.continueEntry_bar (s : State) (i : Nat) (e : BusEntry) : (s.continueEntry i e).bar = s.bar := by
  unfold State.continueEntry
  split
  · simp
  · split <;> simp
@[simp] theorem State.continueEntry_msu (s : State) (i : Nat) (e : BusEntry) : (s.continueEntry i e).msu = s.msu := by
  unfold State.continueEntry
  split
  · simp
  · split <;> simp
@[simp] theorem State.continueEntry_rpu (s : State) (i : Nat) (e : BusEntry) : (s.continueEntry i e).rpu = s.rpu := by
  unfold State.continueEntry
  split
  · simp
  · split <;> simp
@[simp] theorem State.continueEntry_pending (s : State) (i : Nat) (e : BusEntry) : (s.continueEntry i e).pending = s.pending := by
  unfold State.continueEntry
  split
  · simp
  · split <;> simp
@[simp] theorem State.continueEntry_oru_cache (s : State) (i : Nat) (e : BusEntry) : (s.continueEntry i e).oru.cache = s.oru.cache := by
  unfold State.continueEntry
  split
  · simp
  · split <;> simp

/-! ### `endClosedEntries` -/

@[simp] theorem State.endClosedEntries_ctl (s : State) (outcome : OrderOutcome) : (s.endClosedEntries outcome).ctl = s.ctl := rfl
@[simp] theorem State.endClosedEntries_xpt (s : State) (outcome : OrderOutcome) : (s.endClosedEntries outcome).xpt = s.xpt := rfl
@[simp] theorem State.endClosedEntries_stations (s : State) (outcome : OrderOutcome) : (s.endClosedEntries outcome).stations = s.stations := rfl
@[simp] theorem State.endClosedEntries_points (s : State) (outcome : OrderOutcome) : (s.endClosedEntries outcome).points = s.points := rfl
@[simp] theorem State.endClosedEntries_swe (s : State) (outcome : OrderOutcome) : (s.endClosedEntries outcome).swe = s.swe := rfl
@[simp] theorem State.endClosedEntries_exu (s : State) (outcome : OrderOutcome) : (s.endClosedEntries outcome).exu = s.exu := rfl
@[simp] theorem State.endClosedEntries_lanes (s : State) (outcome : OrderOutcome) : (s.endClosedEntries outcome).lanes = s.lanes := rfl
@[simp] theorem State.endClosedEntries_bar (s : State) (outcome : OrderOutcome) : (s.endClosedEntries outcome).bar = s.bar := rfl
@[simp] theorem State.endClosedEntries_msu (s : State) (outcome : OrderOutcome) : (s.endClosedEntries outcome).msu = s.msu := rfl
@[simp] theorem State.endClosedEntries_rpu (s : State) (outcome : OrderOutcome) : (s.endClosedEntries outcome).rpu = s.rpu := rfl
@[simp] theorem State.endClosedEntries_pending (s : State) (outcome : OrderOutcome) : (s.endClosedEntries outcome).pending = s.pending := rfl
@[simp] theorem State.endClosedEntries_oru_cache (s : State) (outcome : OrderOutcome) : (s.endClosedEntries outcome).oru.cache = s.oru.cache := rfl
@[simp] theorem State.endClosedEntries_oru_hand (s : State) (outcome : OrderOutcome) : (s.endClosedEntries outcome).oru.hand = s.oru.hand := rfl

/-! ### `endNotActive` -/

@[simp] theorem State.endNotActive_ctl (s : State) : (s.endNotActive).ctl = s.ctl := by
  unfold State.endNotActive
  dsimp only
  split <;> simp [State.answer, State.completeHand]
@[simp] theorem State.endNotActive_xpt (s : State) : (s.endNotActive).xpt = s.xpt := by
  unfold State.endNotActive
  dsimp only
  split <;> simp [State.answer, State.completeHand]
@[simp] theorem State.endNotActive_stations (s : State) : (s.endNotActive).stations = s.stations := by
  unfold State.endNotActive
  dsimp only
  split <;> simp [State.answer, State.completeHand]
@[simp] theorem State.endNotActive_points (s : State) : (s.endNotActive).points = s.points := by
  unfold State.endNotActive
  dsimp only
  split <;> simp [State.answer, State.completeHand]
@[simp] theorem State.endNotActive_swe (s : State) : (s.endNotActive).swe = s.swe := by
  unfold State.endNotActive
  dsimp only
  split <;> simp [State.answer, State.completeHand]
@[simp] theorem State.endNotActive_exu (s : State) : (s.endNotActive).exu = s.exu := by
  unfold State.endNotActive
  dsimp only
  split <;> simp [State.answer, State.completeHand]
@[simp] theorem State.endNotActive_lanes (s : State) : (s.endNotActive).lanes = s.lanes := by
  unfold State.endNotActive
  dsimp only
  split <;> simp [State.answer, State.completeHand]
@[simp] theorem State.endNotActive_bar (s : State) : (s.endNotActive).bar = s.bar := by
  unfold State.endNotActive
  dsimp only
  split <;> simp [State.answer, State.completeHand]
@[simp] theorem State.endNotActive_msu (s : State) : (s.endNotActive).msu = s.msu := by
  unfold State.endNotActive
  dsimp only
  split <;> simp [State.answer, State.completeHand]
@[simp] theorem State.endNotActive_rpu (s : State) : (s.endNotActive).rpu = s.rpu := by
  unfold State.endNotActive
  dsimp only
  split <;> simp [State.answer, State.completeHand]
@[simp] theorem State.endNotActive_pending (s : State) : (s.endNotActive).pending = s.pending := by
  unfold State.endNotActive
  dsimp only
  split <;> simp [State.answer, State.completeHand]
@[simp] theorem State.endNotActive_oru_cache (s : State) : (s.endNotActive).oru.cache = s.oru.cache := by
  unfold State.endNotActive
  dsimp only
  split <;> simp [State.answer, State.completeHand]

/-! ### `abandonOrders` -/

@[simp] theorem State.abandonOrders_ctl (s : State) : (s.abandonOrders).ctl = s.ctl := by
  unfold State.abandonOrders
  dsimp only
  split <;> simp [State.answer, State.completeHand, State.clearHeld, State.updateStation]
@[simp] theorem State.abandonOrders_xpt (s : State) : (s.abandonOrders).xpt = s.xpt := by
  unfold State.abandonOrders
  dsimp only
  split <;> simp [State.answer, State.completeHand, State.clearHeld, State.updateStation]
@[simp] theorem State.abandonOrders_points (s : State) : (s.abandonOrders).points = s.points := by
  unfold State.abandonOrders
  dsimp only
  split <;> simp [State.answer, State.completeHand, State.clearHeld, State.updateStation]
@[simp] theorem State.abandonOrders_swe (s : State) : (s.abandonOrders).swe = s.swe := by
  unfold State.abandonOrders
  dsimp only
  split <;> simp [State.answer, State.completeHand, State.clearHeld, State.updateStation]
@[simp] theorem State.abandonOrders_exu (s : State) : (s.abandonOrders).exu = s.exu := by
  unfold State.abandonOrders
  dsimp only
  split <;> simp [State.answer, State.completeHand, State.clearHeld, State.updateStation]
@[simp] theorem State.abandonOrders_lanes (s : State) : (s.abandonOrders).lanes = s.lanes := by
  unfold State.abandonOrders
  dsimp only
  split <;> simp [State.answer, State.completeHand, State.clearHeld, State.updateStation]
@[simp] theorem State.abandonOrders_bar (s : State) : (s.abandonOrders).bar = s.bar := by
  unfold State.abandonOrders
  dsimp only
  split <;> simp [State.answer, State.completeHand, State.clearHeld, State.updateStation]
@[simp] theorem State.abandonOrders_msu (s : State) : (s.abandonOrders).msu = s.msu := by
  unfold State.abandonOrders
  dsimp only
  split <;> simp [State.answer, State.completeHand, State.clearHeld, State.updateStation]
@[simp] theorem State.abandonOrders_rpu (s : State) : (s.abandonOrders).rpu = s.rpu := by
  unfold State.abandonOrders
  dsimp only
  split <;> simp [State.answer, State.completeHand, State.clearHeld, State.updateStation]
@[simp] theorem State.abandonOrders_pending (s : State) : (s.abandonOrders).pending = s.pending := by
  unfold State.abandonOrders
  dsimp only
  split <;> simp [State.answer, State.completeHand, State.clearHeld, State.updateStation]
@[simp] theorem State.abandonOrders_oru_cache (s : State) : (s.abandonOrders).oru.cache = s.oru.cache := by
  unfold State.abandonOrders
  dsimp only
  split <;> simp [State.answer, State.completeHand, State.clearHeld, State.updateStation]

/-! ### `applyShape` -/

@[simp] theorem State.applyShape_ctl (s : State) (o : Order) (c : Conversion) : (s.applyShape o c).ctl = s.ctl := by
  unfold State.applyShape
  split <;> rfl
@[simp] theorem State.applyShape_xpt (s : State) (o : Order) (c : Conversion) : (s.applyShape o c).xpt = s.xpt := by
  unfold State.applyShape
  split <;> rfl
@[simp] theorem State.applyShape_stations (s : State) (o : Order) (c : Conversion) : (s.applyShape o c).stations = s.stations := by
  unfold State.applyShape
  split <;> rfl
@[simp] theorem State.applyShape_swe (s : State) (o : Order) (c : Conversion) : (s.applyShape o c).swe = s.swe := by
  unfold State.applyShape
  split <;> rfl
@[simp] theorem State.applyShape_exu (s : State) (o : Order) (c : Conversion) : (s.applyShape o c).exu = s.exu := by
  unfold State.applyShape
  split <;> rfl
@[simp] theorem State.applyShape_lanes (s : State) (o : Order) (c : Conversion) : (s.applyShape o c).lanes = s.lanes := by
  unfold State.applyShape
  split <;> rfl
@[simp] theorem State.applyShape_bar (s : State) (o : Order) (c : Conversion) : (s.applyShape o c).bar = s.bar := by
  unfold State.applyShape
  split <;> rfl
@[simp] theorem State.applyShape_msu (s : State) (o : Order) (c : Conversion) : (s.applyShape o c).msu = s.msu := by
  unfold State.applyShape
  split <;> rfl
@[simp] theorem State.applyShape_oru (s : State) (o : Order) (c : Conversion) : (s.applyShape o c).oru = s.oru := by
  unfold State.applyShape
  split <;> rfl
@[simp] theorem State.applyShape_rpu (s : State) (o : Order) (c : Conversion) : (s.applyShape o c).rpu = s.rpu := by
  unfold State.applyShape
  split <;> rfl
@[simp] theorem State.applyShape_pending (s : State) (o : Order) (c : Conversion) : (s.applyShape o c).pending = s.pending := by
  unfold State.applyShape
  split <;> rfl

/-! ### `applyHeld` -/

@[simp] theorem State.applyHeld_ctl (s : State) (o : Order) : (s.applyHeld o).ctl = s.ctl := by
  unfold State.applyHeld
  split
  · simp [State.answer, State.completeHand]
  · split <;> simp [State.answer, State.completeHand, State.clearHeld, State.updateStation]
@[simp] theorem State.applyHeld_xpt (s : State) (o : Order) : (s.applyHeld o).xpt = s.xpt := by
  unfold State.applyHeld
  split
  · simp [State.answer, State.completeHand]
  · split <;> simp [State.answer, State.completeHand, State.clearHeld, State.updateStation]
@[simp] theorem State.applyHeld_exu (s : State) (o : Order) : (s.applyHeld o).exu = s.exu := by
  unfold State.applyHeld
  split
  · simp [State.answer, State.completeHand]
  · split <;> simp [State.answer, State.completeHand, State.clearHeld, State.updateStation]
@[simp] theorem State.applyHeld_lanes (s : State) (o : Order) : (s.applyHeld o).lanes = s.lanes := by
  unfold State.applyHeld
  split
  · simp [State.answer, State.completeHand]
  · split <;> simp [State.answer, State.completeHand, State.clearHeld, State.updateStation]
@[simp] theorem State.applyHeld_bar (s : State) (o : Order) : (s.applyHeld o).bar = s.bar := by
  unfold State.applyHeld
  split
  · simp [State.answer, State.completeHand]
  · split <;> simp [State.answer, State.completeHand, State.clearHeld, State.updateStation]
@[simp] theorem State.applyHeld_msu (s : State) (o : Order) : (s.applyHeld o).msu = s.msu := by
  unfold State.applyHeld
  split
  · simp [State.answer, State.completeHand]
  · split <;> simp [State.answer, State.completeHand, State.clearHeld, State.updateStation]
@[simp] theorem State.applyHeld_pending (s : State) (o : Order) : (s.applyHeld o).pending = s.pending := by
  unfold State.applyHeld
  split
  · simp [State.answer, State.completeHand]
  · split <;> simp [State.answer, State.completeHand, State.clearHeld, State.updateStation]
@[simp] theorem State.applyHeld_oru_cache (s : State) (o : Order) : (s.applyHeld o).oru.cache = s.oru.cache := by
  unfold State.applyHeld
  split
  · simp [State.answer, State.completeHand]
  · split <;> simp [State.answer, State.completeHand, State.clearHeld, State.updateStation]
@[simp] theorem State.applyHeld_oru_busQueue (s : State) (o : Order) : (s.applyHeld o).oru.busQueue = s.oru.busQueue := by
  unfold State.applyHeld
  split
  · simp [State.answer, State.completeHand]
  · split <;> simp [State.answer, State.completeHand, State.clearHeld, State.updateStation]
@[simp] theorem State.applyHeld_rpu_head (s : State) (o : Order) : (s.applyHeld o).rpu.head = s.rpu.head := by
  unfold State.applyHeld
  split
  · simp [State.answer, State.completeHand]
  · split <;> simp [State.answer, State.completeHand, State.clearHeld, State.updateStation]
@[simp] theorem State.applyHeld_rpu_resultsWritten (s : State) (o : Order) : (s.applyHeld o).rpu.resultsWritten = s.rpu.resultsWritten := by
  unfold State.applyHeld
  split
  · simp [State.answer, State.completeHand]
  · split <;> simp [State.answer, State.completeHand, State.clearHeld, State.updateStation]
@[simp] theorem State.applyHeld_rpu_writePath (s : State) (o : Order) : (s.applyHeld o).rpu.writePath = s.rpu.writePath := by
  unfold State.applyHeld
  split
  · simp [State.answer, State.completeHand]
  · split <;> simp [State.answer, State.completeHand, State.clearHeld, State.updateStation]
@[simp] theorem State.applyHeld_rpu_lastTag (s : State) (o : Order) : (s.applyHeld o).rpu.lastTag = s.rpu.lastTag := by
  unfold State.applyHeld
  split
  · simp [State.answer, State.completeHand]
  · split <;> simp [State.answer, State.completeHand, State.clearHeld, State.updateStation]

/-! ### `holdOrApply` -/

@[simp] theorem State.holdOrApply_ctl (s : State) (o : Order) : (s.holdOrApply o).ctl = s.ctl := by
  unfold State.holdOrApply
  dsimp only
  split <;> simp
@[simp] theorem State.holdOrApply_xpt (s : State) (o : Order) : (s.holdOrApply o).xpt = s.xpt := by
  unfold State.holdOrApply
  dsimp only
  split <;> simp
@[simp] theorem State.holdOrApply_exu (s : State) (o : Order) : (s.holdOrApply o).exu = s.exu := by
  unfold State.holdOrApply
  dsimp only
  split <;> simp
@[simp] theorem State.holdOrApply_lanes (s : State) (o : Order) : (s.holdOrApply o).lanes = s.lanes := by
  unfold State.holdOrApply
  dsimp only
  split <;> simp
@[simp] theorem State.holdOrApply_bar (s : State) (o : Order) : (s.holdOrApply o).bar = s.bar := by
  unfold State.holdOrApply
  dsimp only
  split <;> simp
@[simp] theorem State.holdOrApply_msu (s : State) (o : Order) : (s.holdOrApply o).msu = s.msu := by
  unfold State.holdOrApply
  dsimp only
  split <;> simp
@[simp] theorem State.holdOrApply_pending (s : State) (o : Order) : (s.holdOrApply o).pending = s.pending := by
  unfold State.holdOrApply
  dsimp only
  split <;> simp
@[simp] theorem State.holdOrApply_oru_cache (s : State) (o : Order) : (s.holdOrApply o).oru.cache = s.oru.cache := by
  unfold State.holdOrApply
  dsimp only
  split <;> simp
@[simp] theorem State.holdOrApply_oru_busQueue (s : State) (o : Order) : (s.holdOrApply o).oru.busQueue = s.oru.busQueue := by
  unfold State.holdOrApply
  dsimp only
  split <;> simp
@[simp] theorem State.holdOrApply_rpu_head (s : State) (o : Order) : (s.holdOrApply o).rpu.head = s.rpu.head := by
  unfold State.holdOrApply
  dsimp only
  split <;> simp
@[simp] theorem State.holdOrApply_rpu_resultsWritten (s : State) (o : Order) : (s.holdOrApply o).rpu.resultsWritten = s.rpu.resultsWritten := by
  unfold State.holdOrApply
  dsimp only
  split <;> simp
@[simp] theorem State.holdOrApply_rpu_writePath (s : State) (o : Order) : (s.holdOrApply o).rpu.writePath = s.rpu.writePath := by
  unfold State.holdOrApply
  dsimp only
  split <;> simp
@[simp] theorem State.holdOrApply_rpu_lastTag (s : State) (o : Order) : (s.holdOrApply o).rpu.lastTag = s.rpu.lastTag := by
  unfold State.holdOrApply
  dsimp only
  split <;> simp

/-! ### `joinQueue` -/

@[simp] theorem State.joinQueue_ctl (s : State) (o : Order) : (s.joinQueue o).ctl = s.ctl := by
  unfold State.joinQueue
  split <;> rfl
@[simp] theorem State.joinQueue_xpt (s : State) (o : Order) : (s.joinQueue o).xpt = s.xpt := by
  unfold State.joinQueue
  split <;> rfl
@[simp] theorem State.joinQueue_stations (s : State) (o : Order) : (s.joinQueue o).stations = s.stations := by
  unfold State.joinQueue
  split <;> rfl
@[simp] theorem State.joinQueue_points (s : State) (o : Order) : (s.joinQueue o).points = s.points := by
  unfold State.joinQueue
  split <;> rfl
@[simp] theorem State.joinQueue_swe (s : State) (o : Order) : (s.joinQueue o).swe = s.swe := by
  unfold State.joinQueue
  split <;> rfl
@[simp] theorem State.joinQueue_exu (s : State) (o : Order) : (s.joinQueue o).exu = s.exu := by
  unfold State.joinQueue
  split <;> rfl
@[simp] theorem State.joinQueue_lanes (s : State) (o : Order) : (s.joinQueue o).lanes = s.lanes := by
  unfold State.joinQueue
  split <;> rfl
@[simp] theorem State.joinQueue_bar (s : State) (o : Order) : (s.joinQueue o).bar = s.bar := by
  unfold State.joinQueue
  split <;> rfl
@[simp] theorem State.joinQueue_msu (s : State) (o : Order) : (s.joinQueue o).msu = s.msu := by
  unfold State.joinQueue
  split <;> rfl
@[simp] theorem State.joinQueue_rpu (s : State) (o : Order) : (s.joinQueue o).rpu = s.rpu := by
  unfold State.joinQueue
  split <;> rfl
@[simp] theorem State.joinQueue_pending (s : State) (o : Order) : (s.joinQueue o).pending = s.pending := by
  unfold State.joinQueue
  split <;> rfl
@[simp] theorem State.joinQueue_oru_cache (s : State) (o : Order) : (s.joinQueue o).oru.cache = s.oru.cache := by
  unfold State.joinQueue
  split <;> rfl
@[simp] theorem State.joinQueue_oru_completion (s : State) (o : Order) : (s.joinQueue o).oru.completion = s.oru.completion := by
  unfold State.joinQueue
  split <;> rfl

/-! ### `stageRole` -/

@[simp] theorem State.stageRole_ctl (s : State) (d : RoleChange) : (s.stageRole d).ctl = s.ctl := by
  unfold State.stageRole
  simp
@[simp] theorem State.stageRole_xpt (s : State) (d : RoleChange) : (s.stageRole d).xpt = s.xpt := by
  unfold State.stageRole
  simp
@[simp] theorem State.stageRole_stations (s : State) (d : RoleChange) : (s.stageRole d).stations = s.stations := by
  unfold State.stageRole
  simp
@[simp] theorem State.stageRole_points (s : State) (d : RoleChange) : (s.stageRole d).points = s.points := by
  unfold State.stageRole
  simp
@[simp] theorem State.stageRole_swe (s : State) (d : RoleChange) : (s.stageRole d).swe = s.swe := by
  unfold State.stageRole
  simp
@[simp] theorem State.stageRole_exu (s : State) (d : RoleChange) : (s.stageRole d).exu = s.exu := by
  unfold State.stageRole
  simp
@[simp] theorem State.stageRole_lanes (s : State) (d : RoleChange) : (s.stageRole d).lanes = s.lanes := by
  unfold State.stageRole
  simp
@[simp] theorem State.stageRole_bar (s : State) (d : RoleChange) : (s.stageRole d).bar = s.bar := by
  unfold State.stageRole
  simp
@[simp] theorem State.stageRole_msu (s : State) (d : RoleChange) : (s.stageRole d).msu = s.msu := by
  unfold State.stageRole
  simp
@[simp] theorem State.stageRole_oru (s : State) (d : RoleChange) : (s.stageRole d).oru = s.oru := by
  unfold State.stageRole
  simp
@[simp] theorem State.stageRole_pending (s : State) (d : RoleChange) : (s.stageRole d).pending = s.pending := by
  unfold State.stageRole
  simp
@[simp] theorem State.stageRole_rpu_head (s : State) (d : RoleChange) : (s.stageRole d).rpu.head = s.rpu.head := by
  unfold State.stageRole
  simp
@[simp] theorem State.stageRole_rpu_resultsWritten (s : State) (d : RoleChange) : (s.stageRole d).rpu.resultsWritten = s.rpu.resultsWritten := by
  unfold State.stageRole
  simp
@[simp] theorem State.stageRole_rpu_writePath (s : State) (d : RoleChange) : (s.stageRole d).rpu.writePath = s.rpu.writePath := by
  unfold State.stageRole
  simp
@[simp] theorem State.stageRole_rpu_lastTag (s : State) (d : RoleChange) : (s.stageRole d).rpu.lastTag = s.rpu.lastTag := by
  unfold State.stageRole
  simp

/-! ### `enterActive` -/

@[simp] theorem State.enterActive_ctl (s : State) (reason : RoleReason) : (s.enterActive reason).ctl = s.ctl := by
  unfold State.enterActive
  dsimp only
  split <;> simp [State.readySweep]
@[simp] theorem State.enterActive_xpt (s : State) (reason : RoleReason) : (s.enterActive reason).xpt = s.xpt := by
  unfold State.enterActive
  dsimp only
  split <;> simp [State.readySweep]
@[simp] theorem State.enterActive_stations (s : State) (reason : RoleReason) : (s.enterActive reason).stations = s.stations := by
  unfold State.enterActive
  dsimp only
  split <;> simp [State.readySweep]
@[simp] theorem State.enterActive_points (s : State) (reason : RoleReason) : (s.enterActive reason).points = s.points := by
  unfold State.enterActive
  dsimp only
  split <;> simp [State.readySweep]
@[simp] theorem State.enterActive_lanes (s : State) (reason : RoleReason) : (s.enterActive reason).lanes = s.lanes := by
  unfold State.enterActive
  dsimp only
  split <;> simp [State.readySweep]
@[simp] theorem State.enterActive_bar (s : State) (reason : RoleReason) : (s.enterActive reason).bar = s.bar := by
  unfold State.enterActive
  dsimp only
  split <;> simp [State.readySweep]
@[simp] theorem State.enterActive_oru (s : State) (reason : RoleReason) : (s.enterActive reason).oru = s.oru := by
  unfold State.enterActive
  dsimp only
  split <;> simp [State.readySweep]
@[simp] theorem State.enterActive_pending (s : State) (reason : RoleReason) : (s.enterActive reason).pending = s.pending := by
  unfold State.enterActive
  dsimp only
  split <;> simp [State.readySweep]
@[simp] theorem State.enterActive_msu_shift (s : State) (reason : RoleReason) : (s.enterActive reason).msu.shift = s.msu.shift := by
  unfold State.enterActive
  dsimp only
  split <;> simp [State.readySweep]
@[simp] theorem State.enterActive_msu_contestCount (s : State) (reason : RoleReason) : (s.enterActive reason).msu.contestCount = s.msu.contestCount := by
  unfold State.enterActive
  dsimp only
  split <;> simp [State.readySweep]
@[simp] theorem State.enterActive_msu_offAtClose (s : State) (reason : RoleReason) : (s.enterActive reason).msu.offAtClose = s.msu.offAtClose := by
  unfold State.enterActive
  dsimp only
  split <;> simp [State.readySweep]
@[simp] theorem State.enterActive_exu_seqCounter (s : State) (reason : RoleReason) : (s.enterActive reason).exu.seqCounter = s.exu.seqCounter := by
  unfold State.enterActive
  dsimp only
  split <;> simp [State.readySweep]
@[simp] theorem State.enterActive_exu_exchange (s : State) (reason : RoleReason) : (s.enterActive reason).exu.exchange = s.exu.exchange := by
  unfold State.enterActive
  dsimp only
  split <;> simp [State.readySweep]
@[simp] theorem State.enterActive_swe_active (s : State) (reason : RoleReason) : (s.enterActive reason).swe.active = s.swe.active := by
  unfold State.enterActive
  dsimp only
  split <;> simp [State.readySweep]
@[simp] theorem State.enterActive_swe_pendingList (s : State) (reason : RoleReason) : (s.enterActive reason).swe.pendingList = s.swe.pendingList := by
  unfold State.enterActive
  dsimp only
  split <;> simp [State.readySweep]
@[simp] theorem State.enterActive_swe_pendingReady (s : State) (reason : RoleReason) : (s.enterActive reason).swe.pendingReady = s.swe.pendingReady := by
  unfold State.enterActive
  dsimp only
  split <;> simp [State.readySweep]
@[simp] theorem State.enterActive_swe_sweepCount (s : State) (reason : RoleReason) : (s.enterActive reason).swe.sweepCount = s.swe.sweepCount := by
  unfold State.enterActive
  dsimp only
  split <;> simp [State.readySweep]
@[simp] theorem State.enterActive_swe_overrunCount (s : State) (reason : RoleReason) : (s.enterActive reason).swe.overrunCount = s.swe.overrunCount := by
  unfold State.enterActive
  dsimp only
  split <;> simp [State.readySweep]
@[simp] theorem State.enterActive_rpu_head (s : State) (reason : RoleReason) : (s.enterActive reason).rpu.head = s.rpu.head := by
  unfold State.enterActive
  dsimp only
  split <;> simp [State.readySweep]
@[simp] theorem State.enterActive_rpu_resultsWritten (s : State) (reason : RoleReason) : (s.enterActive reason).rpu.resultsWritten = s.rpu.resultsWritten := by
  unfold State.enterActive
  dsimp only
  split <;> simp [State.readySweep]
@[simp] theorem State.enterActive_rpu_writePath (s : State) (reason : RoleReason) : (s.enterActive reason).rpu.writePath = s.rpu.writePath := by
  unfold State.enterActive
  dsimp only
  split <;> simp [State.readySweep]
@[simp] theorem State.enterActive_rpu_lastTag (s : State) (reason : RoleReason) : (s.enterActive reason).rpu.lastTag = s.rpu.lastTag := by
  unfold State.enterActive
  dsimp only
  split <;> simp [State.readySweep]

/-! ### `leaveActive` -/

@[simp] theorem State.leaveActive_ctl (s : State) (reason : RoleReason) (tag : Option (BitVec 1)) : (s.leaveActive reason tag).ctl = s.ctl := by
  have key : ∀ t : State, (if t.running then t.endNotActive else t).ctl = t.ctl := fun t => by split <;> simp
  exact (key _).trans (by simp)
@[simp] theorem State.leaveActive_xpt (s : State) (reason : RoleReason) (tag : Option (BitVec 1)) : (s.leaveActive reason tag).xpt = s.xpt := by
  have key : ∀ t : State, (if t.running then t.endNotActive else t).xpt = t.xpt := fun t => by split <;> simp
  exact (key _).trans (by simp)
@[simp] theorem State.leaveActive_stations (s : State) (reason : RoleReason) (tag : Option (BitVec 1)) : (s.leaveActive reason tag).stations = s.stations := by
  have key : ∀ t : State, (if t.running then t.endNotActive else t).stations = t.stations := fun t => by split <;> simp
  exact (key _).trans (by simp)
@[simp] theorem State.leaveActive_points (s : State) (reason : RoleReason) (tag : Option (BitVec 1)) : (s.leaveActive reason tag).points = s.points := by
  have key : ∀ t : State, (if t.running then t.endNotActive else t).points = t.points := fun t => by split <;> simp
  exact (key _).trans (by simp)
@[simp] theorem State.leaveActive_lanes (s : State) (reason : RoleReason) (tag : Option (BitVec 1)) : (s.leaveActive reason tag).lanes = s.lanes := by
  have key : ∀ t : State, (if t.running then t.endNotActive else t).lanes = t.lanes := fun t => by split <;> simp
  exact (key _).trans (by simp)
@[simp] theorem State.leaveActive_bar (s : State) (reason : RoleReason) (tag : Option (BitVec 1)) : (s.leaveActive reason tag).bar = s.bar := by
  have key : ∀ t : State, (if t.running then t.endNotActive else t).bar = t.bar := fun t => by split <;> simp
  exact (key _).trans (by simp)
@[simp] theorem State.leaveActive_pending (s : State) (reason : RoleReason) (tag : Option (BitVec 1)) : (s.leaveActive reason tag).pending = s.pending := by
  have key : ∀ t : State, (if t.running then t.endNotActive else t).pending = t.pending := fun t => by split <;> simp
  exact (key _).trans (by simp)
@[simp] theorem State.leaveActive_msu_shift (s : State) (reason : RoleReason) (tag : Option (BitVec 1)) : (s.leaveActive reason tag).msu.shift = s.msu.shift := by
  have key : ∀ t : State, (if t.running then t.endNotActive else t).msu.shift = t.msu.shift := fun t => by split <;> simp
  exact (key _).trans (by simp)
@[simp] theorem State.leaveActive_msu_contestCount (s : State) (reason : RoleReason) (tag : Option (BitVec 1)) : (s.leaveActive reason tag).msu.contestCount = s.msu.contestCount := by
  have key : ∀ t : State, (if t.running then t.endNotActive else t).msu.contestCount = t.msu.contestCount := fun t => by split <;> simp
  exact (key _).trans (by simp)
@[simp] theorem State.leaveActive_msu_takeoverTimer (s : State) (reason : RoleReason) (tag : Option (BitVec 1)) : (s.leaveActive reason tag).msu.takeoverTimer = s.msu.takeoverTimer := by
  have key : ∀ t : State, (if t.running then t.endNotActive else t).msu.takeoverTimer = t.msu.takeoverTimer := fun t => by split <;> simp
  exact (key _).trans (by simp)
@[simp] theorem State.leaveActive_msu_offAtClose (s : State) (reason : RoleReason) (tag : Option (BitVec 1)) : (s.leaveActive reason tag).msu.offAtClose = s.msu.offAtClose := by
  have key : ∀ t : State, (if t.running then t.endNotActive else t).msu.offAtClose = t.msu.offAtClose := fun t => by split <;> simp
  exact (key _).trans (by simp)
@[simp] theorem State.leaveActive_exu_seqCounter (s : State) (reason : RoleReason) (tag : Option (BitVec 1)) : (s.leaveActive reason tag).exu.seqCounter = s.exu.seqCounter := by
  have key : ∀ t : State, (if t.running then t.endNotActive else t).exu.seqCounter = t.exu.seqCounter := fun t => by split <;> simp
  exact (key _).trans (by simp [State.forbidRetry])
@[simp] theorem State.leaveActive_exu_overheard (s : State) (reason : RoleReason) (tag : Option (BitVec 1)) : (s.leaveActive reason tag).exu.overheard = s.exu.overheard := by
  have key : ∀ t : State, (if t.running then t.endNotActive else t).exu.overheard = t.exu.overheard := fun t => by split <;> simp
  exact (key _).trans (by simp [State.forbidRetry])
@[simp] theorem State.leaveActive_oru_cache (s : State) (reason : RoleReason) (tag : Option (BitVec 1)) : (s.leaveActive reason tag).oru.cache = s.oru.cache := by
  have key : ∀ t : State, (if t.running then t.endNotActive else t).oru.cache = t.oru.cache := fun t => by split <;> simp
  exact (key _).trans (by simp)
@[simp] theorem State.leaveActive_swe_active (s : State) (reason : RoleReason) (tag : Option (BitVec 1)) : (s.leaveActive reason tag).swe.active = s.swe.active := by
  have key : ∀ t : State, (if t.running then t.endNotActive else t).swe.active = t.swe.active := fun t => by split <;> simp
  exact (key _).trans (by simp)
@[simp] theorem State.leaveActive_swe_pendingList (s : State) (reason : RoleReason) (tag : Option (BitVec 1)) : (s.leaveActive reason tag).swe.pendingList = s.swe.pendingList := by
  have key : ∀ t : State, (if t.running then t.endNotActive else t).swe.pendingList = t.swe.pendingList := fun t => by split <;> simp
  exact (key _).trans (by simp)
@[simp] theorem State.leaveActive_swe_pendingReady (s : State) (reason : RoleReason) (tag : Option (BitVec 1)) : (s.leaveActive reason tag).swe.pendingReady = s.swe.pendingReady := by
  have key : ∀ t : State, (if t.running then t.endNotActive else t).swe.pendingReady = t.swe.pendingReady := fun t => by split <;> simp
  exact (key _).trans (by simp)
@[simp] theorem State.leaveActive_rpu_head (s : State) (reason : RoleReason) (tag : Option (BitVec 1)) : (s.leaveActive reason tag).rpu.head = s.rpu.head := by
  have key : ∀ t : State, (if t.running then t.endNotActive else t).rpu.head = t.rpu.head := fun t => by split <;> simp
  exact (key _).trans (by simp)
@[simp] theorem State.leaveActive_rpu_resultsWritten (s : State) (reason : RoleReason) (tag : Option (BitVec 1)) : (s.leaveActive reason tag).rpu.resultsWritten = s.rpu.resultsWritten := by
  have key : ∀ t : State, (if t.running then t.endNotActive else t).rpu.resultsWritten = t.rpu.resultsWritten := fun t => by split <;> simp
  exact (key _).trans (by simp)
@[simp] theorem State.leaveActive_rpu_writePath (s : State) (reason : RoleReason) (tag : Option (BitVec 1)) : (s.leaveActive reason tag).rpu.writePath = s.rpu.writePath := by
  have key : ∀ t : State, (if t.running then t.endNotActive else t).rpu.writePath = t.rpu.writePath := fun t => by split <;> simp
  exact (key _).trans (by simp)
@[simp] theorem State.leaveActive_rpu_lastTag (s : State) (reason : RoleReason) (tag : Option (BitVec 1)) : (s.leaveActive reason tag).rpu.lastTag = s.rpu.lastTag := by
  have key : ∀ t : State, (if t.running then t.endNotActive else t).rpu.lastTag = t.rpu.lastTag := fun t => by split <;> simp
  exact (key _).trans (by simp)

/-! ### `hostAttention` -/

@[simp] theorem State.hostAttention_ctl (s : State) : (s.hostAttention).ctl = s.ctl := by
  unfold State.hostAttention
  split <;> simp
@[simp] theorem State.hostAttention_xpt (s : State) : (s.hostAttention).xpt = s.xpt := by
  unfold State.hostAttention
  split <;> simp
@[simp] theorem State.hostAttention_stations (s : State) : (s.hostAttention).stations = s.stations := by
  unfold State.hostAttention
  split <;> simp
@[simp] theorem State.hostAttention_points (s : State) : (s.hostAttention).points = s.points := by
  unfold State.hostAttention
  split <;> simp
@[simp] theorem State.hostAttention_lanes (s : State) : (s.hostAttention).lanes = s.lanes := by
  unfold State.hostAttention
  split <;> simp
@[simp] theorem State.hostAttention_bar (s : State) : (s.hostAttention).bar = s.bar := by
  unfold State.hostAttention
  split <;> simp
@[simp] theorem State.hostAttention_pending (s : State) : (s.hostAttention).pending = s.pending := by
  unfold State.hostAttention
  split <;> simp
@[simp] theorem State.hostAttention_msu_contestCount (s : State) : (s.hostAttention).msu.contestCount = s.msu.contestCount := by
  unfold State.hostAttention
  split <;> simp
@[simp] theorem State.hostAttention_msu_takeoverTimer (s : State) : (s.hostAttention).msu.takeoverTimer = s.msu.takeoverTimer := by
  unfold State.hostAttention
  split <;> simp
@[simp] theorem State.hostAttention_msu_offAtClose (s : State) : (s.hostAttention).msu.offAtClose = s.msu.offAtClose := by
  unfold State.hostAttention
  split <;> simp
@[simp] theorem State.hostAttention_exu_seqCounter (s : State) : (s.hostAttention).exu.seqCounter = s.exu.seqCounter := by
  unfold State.hostAttention
  split <;> simp
@[simp] theorem State.hostAttention_exu_overheard (s : State) : (s.hostAttention).exu.overheard = s.exu.overheard := by
  unfold State.hostAttention
  split <;> simp
@[simp] theorem State.hostAttention_oru_cache (s : State) : (s.hostAttention).oru.cache = s.oru.cache := by
  unfold State.hostAttention
  split <;> simp
@[simp] theorem State.hostAttention_swe_active (s : State) : (s.hostAttention).swe.active = s.swe.active := by
  unfold State.hostAttention
  split <;> simp
@[simp] theorem State.hostAttention_swe_pendingList (s : State) : (s.hostAttention).swe.pendingList = s.swe.pendingList := by
  unfold State.hostAttention
  split <;> simp
@[simp] theorem State.hostAttention_swe_pendingReady (s : State) : (s.hostAttention).swe.pendingReady = s.swe.pendingReady := by
  unfold State.hostAttention
  split <;> simp
@[simp] theorem State.hostAttention_rpu_head (s : State) : (s.hostAttention).rpu.head = s.rpu.head := by
  unfold State.hostAttention
  split <;> simp
@[simp] theorem State.hostAttention_rpu_resultsWritten (s : State) : (s.hostAttention).rpu.resultsWritten = s.rpu.resultsWritten := by
  unfold State.hostAttention
  split <;> simp
@[simp] theorem State.hostAttention_rpu_writePath (s : State) : (s.hostAttention).rpu.writePath = s.rpu.writePath := by
  unfold State.hostAttention
  split <;> simp
@[simp] theorem State.hostAttention_rpu_lastTag (s : State) : (s.hostAttention).rpu.lastTag = s.rpu.lastTag := by
  unfold State.hostAttention
  split <;> simp

/-! ### `contest` -/

@[simp] theorem State.contest_ctl (s : State) (tag : BitVec 1) : (s.contest tag).ctl = s.ctl := by
  unfold State.contest
  dsimp only
  split <;> simp
@[simp] theorem State.contest_xpt (s : State) (tag : BitVec 1) : (s.contest tag).xpt = s.xpt := by
  unfold State.contest
  dsimp only
  split <;> simp
@[simp] theorem State.contest_stations (s : State) (tag : BitVec 1) : (s.contest tag).stations = s.stations := by
  unfold State.contest
  dsimp only
  split <;> simp
@[simp] theorem State.contest_points (s : State) (tag : BitVec 1) : (s.contest tag).points = s.points := by
  unfold State.contest
  dsimp only
  split <;> simp
@[simp] theorem State.contest_lanes (s : State) (tag : BitVec 1) : (s.contest tag).lanes = s.lanes := by
  unfold State.contest
  dsimp only
  split <;> simp
@[simp] theorem State.contest_bar (s : State) (tag : BitVec 1) : (s.contest tag).bar = s.bar := by
  unfold State.contest
  dsimp only
  split <;> simp
@[simp] theorem State.contest_pending (s : State) (tag : BitVec 1) : (s.contest tag).pending = s.pending := by
  unfold State.contest
  dsimp only
  split <;> simp
@[simp] theorem State.contest_msu_shift (s : State) (tag : BitVec 1) : (s.contest tag).msu.shift = s.msu.shift := by
  unfold State.contest
  dsimp only
  split <;> simp
@[simp] theorem State.contest_msu_takeoverTimer (s : State) (tag : BitVec 1) : (s.contest tag).msu.takeoverTimer = s.msu.takeoverTimer := by
  unfold State.contest
  dsimp only
  split <;> simp
@[simp] theorem State.contest_msu_offAtClose (s : State) (tag : BitVec 1) : (s.contest tag).msu.offAtClose = s.msu.offAtClose := by
  unfold State.contest
  dsimp only
  split <;> simp
@[simp] theorem State.contest_exu_seqCounter (s : State) (tag : BitVec 1) : (s.contest tag).exu.seqCounter = s.exu.seqCounter := by
  unfold State.contest
  dsimp only
  split <;> simp
@[simp] theorem State.contest_exu_overheard (s : State) (tag : BitVec 1) : (s.contest tag).exu.overheard = s.exu.overheard := by
  unfold State.contest
  dsimp only
  split <;> simp
@[simp] theorem State.contest_oru_cache (s : State) (tag : BitVec 1) : (s.contest tag).oru.cache = s.oru.cache := by
  unfold State.contest
  dsimp only
  split <;> simp
@[simp] theorem State.contest_swe_active (s : State) (tag : BitVec 1) : (s.contest tag).swe.active = s.swe.active := by
  unfold State.contest
  dsimp only
  split <;> simp
@[simp] theorem State.contest_swe_pendingList (s : State) (tag : BitVec 1) : (s.contest tag).swe.pendingList = s.swe.pendingList := by
  unfold State.contest
  dsimp only
  split <;> simp
@[simp] theorem State.contest_swe_pendingReady (s : State) (tag : BitVec 1) : (s.contest tag).swe.pendingReady = s.swe.pendingReady := by
  unfold State.contest
  dsimp only
  split <;> simp
@[simp] theorem State.contest_rpu_head (s : State) (tag : BitVec 1) : (s.contest tag).rpu.head = s.rpu.head := by
  unfold State.contest
  dsimp only
  split <;> simp
@[simp] theorem State.contest_rpu_resultsWritten (s : State) (tag : BitVec 1) : (s.contest tag).rpu.resultsWritten = s.rpu.resultsWritten := by
  unfold State.contest
  dsimp only
  split <;> simp
@[simp] theorem State.contest_rpu_writePath (s : State) (tag : BitVec 1) : (s.contest tag).rpu.writePath = s.rpu.writePath := by
  unfold State.contest
  dsimp only
  split <;> simp
@[simp] theorem State.contest_rpu_lastTag (s : State) (tag : BitVec 1) : (s.contest tag).rpu.lastTag = s.rpu.lastTag := by
  unfold State.contest
  dsimp only
  split <;> simp

/-! ### `lineActivity` -/

@[simp] theorem State.lineActivity_ctl (s : State) : (s.lineActivity).ctl = s.ctl := by
  unfold State.lineActivity
  split
  · split <;> rfl
  · rfl
@[simp] theorem State.lineActivity_xpt (s : State) : (s.lineActivity).xpt = s.xpt := by
  unfold State.lineActivity
  split
  · split <;> rfl
  · rfl
@[simp] theorem State.lineActivity_stations (s : State) : (s.lineActivity).stations = s.stations := by
  unfold State.lineActivity
  split
  · split <;> rfl
  · rfl
@[simp] theorem State.lineActivity_points (s : State) : (s.lineActivity).points = s.points := by
  unfold State.lineActivity
  split
  · split <;> rfl
  · rfl
@[simp] theorem State.lineActivity_swe (s : State) : (s.lineActivity).swe = s.swe := by
  unfold State.lineActivity
  split
  · split <;> rfl
  · rfl
@[simp] theorem State.lineActivity_exu (s : State) : (s.lineActivity).exu = s.exu := by
  unfold State.lineActivity
  split
  · split <;> rfl
  · rfl
@[simp] theorem State.lineActivity_lanes (s : State) : (s.lineActivity).lanes = s.lanes := by
  unfold State.lineActivity
  split
  · split <;> rfl
  · rfl
@[simp] theorem State.lineActivity_bar (s : State) : (s.lineActivity).bar = s.bar := by
  unfold State.lineActivity
  split
  · split <;> rfl
  · rfl
@[simp] theorem State.lineActivity_oru (s : State) : (s.lineActivity).oru = s.oru := by
  unfold State.lineActivity
  split
  · split <;> rfl
  · rfl
@[simp] theorem State.lineActivity_rpu (s : State) : (s.lineActivity).rpu = s.rpu := by
  unfold State.lineActivity
  split
  · split <;> rfl
  · rfl
@[simp] theorem State.lineActivity_pending (s : State) : (s.lineActivity).pending = s.pending := by
  unfold State.lineActivity
  split
  · split <;> rfl
  · rfl
@[simp] theorem State.lineActivity_msu_role (s : State) : (s.lineActivity).msu.role = s.msu.role := by
  unfold State.lineActivity
  split
  · split <;> rfl
  · rfl
@[simp] theorem State.lineActivity_msu_shift (s : State) : (s.lineActivity).msu.shift = s.msu.shift := by
  unfold State.lineActivity
  split
  · split <;> rfl
  · rfl
@[simp] theorem State.lineActivity_msu_contestCount (s : State) : (s.lineActivity).msu.contestCount = s.msu.contestCount := by
  unfold State.lineActivity
  split
  · split <;> rfl
  · rfl
@[simp] theorem State.lineActivity_msu_windDown (s : State) : (s.lineActivity).msu.windDown = s.msu.windDown := by
  unfold State.lineActivity
  split
  · split <;> rfl
  · rfl
@[simp] theorem State.lineActivity_msu_roleDue (s : State) : (s.lineActivity).msu.roleDue = s.msu.roleDue := by
  unfold State.lineActivity
  split
  · split <;> rfl
  · rfl
@[simp] theorem State.lineActivity_msu_offAtClose (s : State) : (s.lineActivity).msu.offAtClose = s.msu.offAtClose := by
  unfold State.lineActivity
  split
  · split <;> rfl
  · rfl

/-! ### `carryOutClaim` -/

@[simp] theorem State.carryOutClaim_ctl (s : State) (o : Order) : (s.carryOutClaim o).ctl = s.ctl := by
  unfold State.carryOutClaim
  dsimp only
  split <;> simp [State.answer, State.completeHand]
@[simp] theorem State.carryOutClaim_xpt (s : State) (o : Order) : (s.carryOutClaim o).xpt = s.xpt := by
  unfold State.carryOutClaim
  dsimp only
  split <;> simp [State.answer, State.completeHand]
@[simp] theorem State.carryOutClaim_stations (s : State) (o : Order) : (s.carryOutClaim o).stations = s.stations := by
  unfold State.carryOutClaim
  dsimp only
  split <;> simp [State.answer, State.completeHand]
@[simp] theorem State.carryOutClaim_points (s : State) (o : Order) : (s.carryOutClaim o).points = s.points := by
  unfold State.carryOutClaim
  dsimp only
  split <;> simp [State.answer, State.completeHand]
@[simp] theorem State.carryOutClaim_lanes (s : State) (o : Order) : (s.carryOutClaim o).lanes = s.lanes := by
  unfold State.carryOutClaim
  dsimp only
  split <;> simp [State.answer, State.completeHand]
@[simp] theorem State.carryOutClaim_bar (s : State) (o : Order) : (s.carryOutClaim o).bar = s.bar := by
  unfold State.carryOutClaim
  dsimp only
  split <;> simp [State.answer, State.completeHand]
@[simp] theorem State.carryOutClaim_pending (s : State) (o : Order) : (s.carryOutClaim o).pending = s.pending := by
  unfold State.carryOutClaim
  dsimp only
  split <;> simp [State.answer, State.completeHand]
@[simp] theorem State.carryOutClaim_msu_contestCount (s : State) (o : Order) : (s.carryOutClaim o).msu.contestCount = s.msu.contestCount := by
  unfold State.carryOutClaim
  dsimp only
  split <;> simp [State.answer, State.completeHand]
@[simp] theorem State.carryOutClaim_msu_offAtClose (s : State) (o : Order) : (s.carryOutClaim o).msu.offAtClose = s.msu.offAtClose := by
  unfold State.carryOutClaim
  dsimp only
  split <;> simp [State.answer, State.completeHand]
@[simp] theorem State.carryOutClaim_exu_seqCounter (s : State) (o : Order) : (s.carryOutClaim o).exu.seqCounter = s.exu.seqCounter := by
  unfold State.carryOutClaim
  dsimp only
  split <;> simp [State.answer, State.completeHand]
@[simp] theorem State.carryOutClaim_exu_exchange (s : State) (o : Order) : (s.carryOutClaim o).exu.exchange = s.exu.exchange := by
  unfold State.carryOutClaim
  dsimp only
  split <;> simp [State.answer, State.completeHand]
@[simp] theorem State.carryOutClaim_oru_cache (s : State) (o : Order) : (s.carryOutClaim o).oru.cache = s.oru.cache := by
  unfold State.carryOutClaim
  dsimp only
  split <;> simp [State.answer, State.completeHand]
@[simp] theorem State.carryOutClaim_oru_busQueue (s : State) (o : Order) : (s.carryOutClaim o).oru.busQueue = s.oru.busQueue := by
  unfold State.carryOutClaim
  dsimp only
  split <;> simp [State.answer, State.completeHand]
@[simp] theorem State.carryOutClaim_swe_active (s : State) (o : Order) : (s.carryOutClaim o).swe.active = s.swe.active := by
  unfold State.carryOutClaim
  dsimp only
  split <;> simp [State.answer, State.completeHand]
@[simp] theorem State.carryOutClaim_swe_pendingList (s : State) (o : Order) : (s.carryOutClaim o).swe.pendingList = s.swe.pendingList := by
  unfold State.carryOutClaim
  dsimp only
  split <;> simp [State.answer, State.completeHand]
@[simp] theorem State.carryOutClaim_swe_pendingReady (s : State) (o : Order) : (s.carryOutClaim o).swe.pendingReady = s.swe.pendingReady := by
  unfold State.carryOutClaim
  dsimp only
  split <;> simp [State.answer, State.completeHand]
@[simp] theorem State.carryOutClaim_rpu_head (s : State) (o : Order) : (s.carryOutClaim o).rpu.head = s.rpu.head := by
  unfold State.carryOutClaim
  dsimp only
  split <;> simp [State.answer, State.completeHand]
@[simp] theorem State.carryOutClaim_rpu_resultsWritten (s : State) (o : Order) : (s.carryOutClaim o).rpu.resultsWritten = s.rpu.resultsWritten := by
  unfold State.carryOutClaim
  dsimp only
  split <;> simp [State.answer, State.completeHand]
@[simp] theorem State.carryOutClaim_rpu_writePath (s : State) (o : Order) : (s.carryOutClaim o).rpu.writePath = s.rpu.writePath := by
  unfold State.carryOutClaim
  dsimp only
  split <;> simp [State.answer, State.completeHand]
@[simp] theorem State.carryOutClaim_rpu_lastTag (s : State) (o : Order) : (s.carryOutClaim o).rpu.lastTag = s.rpu.lastTag := by
  unfold State.carryOutClaim
  dsimp only
  split <;> simp [State.answer, State.completeHand]

/-! ### `endWindDown` -/

@[simp] theorem State.endWindDown_ctl (s : State) : (s.endWindDown).ctl = s.ctl := by
  unfold State.endWindDown
  dsimp only
  split
  · split <;> simp
  · rfl
@[simp] theorem State.endWindDown_xpt (s : State) : (s.endWindDown).xpt = s.xpt := by
  unfold State.endWindDown
  dsimp only
  split
  · split <;> simp
  · rfl
@[simp] theorem State.endWindDown_stations (s : State) : (s.endWindDown).stations = s.stations := by
  unfold State.endWindDown
  dsimp only
  split
  · split <;> simp
  · rfl
@[simp] theorem State.endWindDown_points (s : State) : (s.endWindDown).points = s.points := by
  unfold State.endWindDown
  dsimp only
  split
  · split <;> simp
  · rfl
@[simp] theorem State.endWindDown_lanes (s : State) : (s.endWindDown).lanes = s.lanes := by
  unfold State.endWindDown
  dsimp only
  split
  · split <;> simp
  · rfl
@[simp] theorem State.endWindDown_bar (s : State) : (s.endWindDown).bar = s.bar := by
  unfold State.endWindDown
  dsimp only
  split
  · split <;> simp
  · rfl
@[simp] theorem State.endWindDown_pending (s : State) : (s.endWindDown).pending = s.pending := by
  unfold State.endWindDown
  dsimp only
  split
  · split <;> simp
  · rfl
@[simp] theorem State.endWindDown_msu_contestCount (s : State) : (s.endWindDown).msu.contestCount = s.msu.contestCount := by
  unfold State.endWindDown
  dsimp only
  split
  · split <;> simp
  · rfl
@[simp] theorem State.endWindDown_msu_offAtClose (s : State) : (s.endWindDown).msu.offAtClose = s.msu.offAtClose := by
  unfold State.endWindDown
  dsimp only
  split
  · split <;> simp
  · rfl
@[simp] theorem State.endWindDown_exu_seqCounter (s : State) : (s.endWindDown).exu.seqCounter = s.exu.seqCounter := by
  unfold State.endWindDown
  dsimp only
  split
  · split <;> simp
  · rfl
@[simp] theorem State.endWindDown_exu_exchange (s : State) : (s.endWindDown).exu.exchange = s.exu.exchange := by
  unfold State.endWindDown
  dsimp only
  split
  · split <;> simp
  · rfl
@[simp] theorem State.endWindDown_oru_cache (s : State) : (s.endWindDown).oru.cache = s.oru.cache := by
  unfold State.endWindDown
  dsimp only
  split
  · split <;> simp
  · rfl
@[simp] theorem State.endWindDown_oru_busQueue (s : State) : (s.endWindDown).oru.busQueue = s.oru.busQueue := by
  unfold State.endWindDown
  dsimp only
  split
  · split <;> simp
  · rfl
@[simp] theorem State.endWindDown_swe_active (s : State) : (s.endWindDown).swe.active = s.swe.active := by
  unfold State.endWindDown
  dsimp only
  split
  · split <;> simp
  · rfl
@[simp] theorem State.endWindDown_swe_pendingList (s : State) : (s.endWindDown).swe.pendingList = s.swe.pendingList := by
  unfold State.endWindDown
  dsimp only
  split
  · split <;> simp
  · rfl
@[simp] theorem State.endWindDown_swe_pendingReady (s : State) : (s.endWindDown).swe.pendingReady = s.swe.pendingReady := by
  unfold State.endWindDown
  dsimp only
  split
  · split <;> simp
  · rfl
@[simp] theorem State.endWindDown_rpu_head (s : State) : (s.endWindDown).rpu.head = s.rpu.head := by
  unfold State.endWindDown
  dsimp only
  split
  · split <;> simp
  · rfl
@[simp] theorem State.endWindDown_rpu_resultsWritten (s : State) : (s.endWindDown).rpu.resultsWritten = s.rpu.resultsWritten := by
  unfold State.endWindDown
  dsimp only
  split
  · split <;> simp
  · rfl
@[simp] theorem State.endWindDown_rpu_writePath (s : State) : (s.endWindDown).rpu.writePath = s.rpu.writePath := by
  unfold State.endWindDown
  dsimp only
  split
  · split <;> simp
  · rfl
@[simp] theorem State.endWindDown_rpu_lastTag (s : State) : (s.endWindDown).rpu.lastTag = s.rpu.lastTag := by
  unfold State.endWindDown
  dsimp only
  split
  · split <;> simp
  · rfl

/-! ### `roleStaged` -/

@[simp] theorem State.roleStaged_ctl (s : State) (reason : RoleReason) : (s.roleStaged reason).ctl = s.ctl := by
  unfold State.roleStaged
  split <;> simp [State.answer, State.completeHand]
@[simp] theorem State.roleStaged_xpt (s : State) (reason : RoleReason) : (s.roleStaged reason).xpt = s.xpt := by
  unfold State.roleStaged
  split <;> simp [State.answer, State.completeHand]
@[simp] theorem State.roleStaged_stations (s : State) (reason : RoleReason) : (s.roleStaged reason).stations = s.stations := by
  unfold State.roleStaged
  split <;> simp [State.answer, State.completeHand]
@[simp] theorem State.roleStaged_points (s : State) (reason : RoleReason) : (s.roleStaged reason).points = s.points := by
  unfold State.roleStaged
  split <;> simp [State.answer, State.completeHand]
@[simp] theorem State.roleStaged_swe (s : State) (reason : RoleReason) : (s.roleStaged reason).swe = s.swe := by
  unfold State.roleStaged
  split <;> simp [State.answer, State.completeHand]
@[simp] theorem State.roleStaged_exu (s : State) (reason : RoleReason) : (s.roleStaged reason).exu = s.exu := by
  unfold State.roleStaged
  split <;> simp [State.answer, State.completeHand]
@[simp] theorem State.roleStaged_lanes (s : State) (reason : RoleReason) : (s.roleStaged reason).lanes = s.lanes := by
  unfold State.roleStaged
  split <;> simp [State.answer, State.completeHand]
@[simp] theorem State.roleStaged_bar (s : State) (reason : RoleReason) : (s.roleStaged reason).bar = s.bar := by
  unfold State.roleStaged
  split <;> simp [State.answer, State.completeHand]
@[simp] theorem State.roleStaged_msu (s : State) (reason : RoleReason) : (s.roleStaged reason).msu = s.msu := by
  unfold State.roleStaged
  split <;> simp [State.answer, State.completeHand]
@[simp] theorem State.roleStaged_rpu (s : State) (reason : RoleReason) : (s.roleStaged reason).rpu = s.rpu := by
  unfold State.roleStaged
  split <;> simp [State.answer, State.completeHand]
@[simp] theorem State.roleStaged_pending (s : State) (reason : RoleReason) : (s.roleStaged reason).pending = s.pending := by
  unfold State.roleStaged
  split <;> simp [State.answer, State.completeHand]
@[simp] theorem State.roleStaged_oru_cache (s : State) (reason : RoleReason) : (s.roleStaged reason).oru.cache = s.oru.cache := by
  unfold State.roleStaged
  split <;> simp [State.answer, State.completeHand]
@[simp] theorem State.roleStaged_oru_busQueue (s : State) (reason : RoleReason) : (s.roleStaged reason).oru.busQueue = s.oru.busQueue := by
  unfold State.roleStaged
  split <;> simp [State.answer, State.completeHand]

end Sys2Proof.Machine
end

