-- ==== Sys2Proof/Laws/Exchange.lean ====
section
/-! SUPPORT. What the shared operations of an exchange, of the lanes and of overhearing leave alone and what they change. -/

namespace Sys2Proof.Machine

/-! ### `markHealth` -/

@[simp] theorem State.markHealth_ctl (s : State) (old new : StationRecord) : (s.markHealth old new).ctl = s.ctl := by
  unfold State.markHealth
  split
  · split <;> simp
  · rfl
@[simp] theorem State.markHealth_xpt (s : State) (old new : StationRecord) : (s.markHealth old new).xpt = s.xpt := by
  unfold State.markHealth
  split
  · split <;> simp
  · rfl
@[simp] theorem State.markHealth_stations (s : State) (old new : StationRecord) : (s.markHealth old new).stations = s.stations := by
  unfold State.markHealth
  split
  · split <;> simp
  · rfl
@[simp] theorem State.markHealth_swe (s : State) (old new : StationRecord) : (s.markHealth old new).swe = s.swe := by
  unfold State.markHealth
  split
  · split <;> simp
  · rfl
@[simp] theorem State.markHealth_exu (s : State) (old new : StationRecord) : (s.markHealth old new).exu = s.exu := by
  unfold State.markHealth
  split
  · split <;> simp
  · rfl
@[simp] theorem State.markHealth_lanes (s : State) (old new : StationRecord) : (s.markHealth old new).lanes = s.lanes := by
  unfold State.markHealth
  split
  · split <;> simp
  · rfl
@[simp] theorem State.markHealth_bar (s : State) (old new : StationRecord) : (s.markHealth old new).bar = s.bar := by
  unfold State.markHealth
  split
  · split <;> simp
  · rfl
@[simp] theorem State.markHealth_msu (s : State) (old new : StationRecord) : (s.markHealth old new).msu = s.msu := by
  unfold State.markHealth
  split
  · split <;> simp
  · rfl
@[simp] theorem State.markHealth_oru (s : State) (old new : StationRecord) : (s.markHealth old new).oru = s.oru := by
  unfold State.markHealth
  split
  · split <;> simp
  · rfl
@[simp] theorem State.markHealth_rpu (s : State) (old new : StationRecord) : (s.markHealth old new).rpu = s.rpu := by
  unfold State.markHealth
  split
  · split <;> simp
  · rfl
@[simp] theorem State.markHealth_pending (s : State) (old new : StationRecord) : (s.markHealth old new).pending = s.pending := by
  unfold State.markHealth
  split
  · split <;> simp
  · rfl

/-! ### `changeRecord` -/

@[simp] theorem State.changeRecord_ctl (s : State) (old new : StationRecord) (i : Option (Byte × Nat)) (l : Bool) : (s.changeRecord old new i l).ctl = s.ctl := by
  unfold State.changeRecord
  dsimp only
  split
  · split <;> simp
  · simp
@[simp] theorem State.changeRecord_xpt (s : State) (old new : StationRecord) (i : Option (Byte × Nat)) (l : Bool) : (s.changeRecord old new i l).xpt = s.xpt := by
  unfold State.changeRecord
  dsimp only
  split
  · split <;> simp
  · simp
@[simp] theorem State.changeRecord_swe (s : State) (old new : StationRecord) (i : Option (Byte × Nat)) (l : Bool) : (s.changeRecord old new i l).swe = s.swe := by
  unfold State.changeRecord
  dsimp only
  split
  · split <;> simp
  · simp
@[simp] theorem State.changeRecord_exu (s : State) (old new : StationRecord) (i : Option (Byte × Nat)) (l : Bool) : (s.changeRecord old new i l).exu = s.exu := by
  unfold State.changeRecord
  dsimp only
  split
  · split <;> simp
  · simp
@[simp] theorem State.changeRecord_lanes (s : State) (old new : StationRecord) (i : Option (Byte × Nat)) (l : Bool) : (s.changeRecord old new i l).lanes = s.lanes := by
  unfold State.changeRecord
  dsimp only
  split
  · split <;> simp
  · simp
@[simp] theorem State.changeRecord_msu (s : State) (old new : StationRecord) (i : Option (Byte × Nat)) (l : Bool) : (s.changeRecord old new i l).msu = s.msu := by
  unfold State.changeRecord
  dsimp only
  split
  · split <;> simp
  · simp
@[simp] theorem State.changeRecord_oru (s : State) (old new : StationRecord) (i : Option (Byte × Nat)) (l : Bool) : (s.changeRecord old new i l).oru = s.oru := by
  unfold State.changeRecord
  dsimp only
  split
  · split <;> simp
  · simp
@[simp] theorem State.changeRecord_pending (s : State) (old new : StationRecord) (i : Option (Byte × Nat)) (l : Bool) : (s.changeRecord old new i l).pending = s.pending := by
  unfold State.changeRecord
  dsimp only
  split
  · split <;> simp
  · simp
@[simp] theorem State.changeRecord_rpu_head (s : State) (old new : StationRecord) (i : Option (Byte × Nat)) (l : Bool) : (s.changeRecord old new i l).rpu.head = s.rpu.head := by
  unfold State.changeRecord
  dsimp only
  split
  · split <;> simp
  · simp
@[simp] theorem State.changeRecord_rpu_resultsWritten (s : State) (old new : StationRecord) (i : Option (Byte × Nat)) (l : Bool) : (s.changeRecord old new i l).rpu.resultsWritten = s.rpu.resultsWritten := by
  unfold State.changeRecord
  dsimp only
  split
  · split <;> simp
  · simp
@[simp] theorem State.changeRecord_rpu_writePath (s : State) (old new : StationRecord) (i : Option (Byte × Nat)) (l : Bool) : (s.changeRecord old new i l).rpu.writePath = s.rpu.writePath := by
  unfold State.changeRecord
  dsimp only
  split
  · split <;> simp
  · simp
@[simp] theorem State.changeRecord_rpu_lastTag (s : State) (old new : StationRecord) (i : Option (Byte × Nat)) (l : Bool) : (s.changeRecord old new i l).rpu.lastTag = s.rpu.lastTag := by
  unfold State.changeRecord
  dsimp only
  split
  · split <;> simp
  · simp

@[simp] theorem State.changeRecord_stations (s : State) (old new : StationRecord) (i : Option (Byte × Nat)) (l : Bool) :
    (s.changeRecord old new i l).stations = s.stations.map (fun r => if r.address = old.address then new else r) := by
  unfold State.changeRecord
  dsimp only
  split
  · split <;> simp [State.updateStation]
  · simp [State.updateStation]

/-! ### `stageChanges` -/

@[simp] theorem State.stageChanges_ctl (s : State) (a : Nat) (l : Bool) (c : List Change) : (s.stageChanges a l c).ctl = s.ctl := by
  unfold State.stageChanges
  split
  · rfl
  · dsimp only
    split
    · split <;> simp
    · simp
@[simp] theorem State.stageChanges_xpt (s : State) (a : Nat) (l : Bool) (c : List Change) : (s.stageChanges a l c).xpt = s.xpt := by
  unfold State.stageChanges
  split
  · rfl
  · dsimp only
    split
    · split <;> simp
    · simp
@[simp] theorem State.stageChanges_swe (s : State) (a : Nat) (l : Bool) (c : List Change) : (s.stageChanges a l c).swe = s.swe := by
  unfold State.stageChanges
  split
  · rfl
  · dsimp only
    split
    · split <;> simp
    · simp
@[simp] theorem State.stageChanges_exu (s : State) (a : Nat) (l : Bool) (c : List Change) : (s.stageChanges a l c).exu = s.exu := by
  unfold State.stageChanges
  split
  · rfl
  · dsimp only
    split
    · split <;> simp
    · simp
@[simp] theorem State.stageChanges_lanes (s : State) (a : Nat) (l : Bool) (c : List Change) : (s.stageChanges a l c).lanes = s.lanes := by
  unfold State.stageChanges
  split
  · rfl
  · dsimp only
    split
    · split <;> simp
    · simp
@[simp] theorem State.stageChanges_msu (s : State) (a : Nat) (l : Bool) (c : List Change) : (s.stageChanges a l c).msu = s.msu := by
  unfold State.stageChanges
  split
  · rfl
  · dsimp only
    split
    · split <;> simp
    · simp
@[simp] theorem State.stageChanges_oru (s : State) (a : Nat) (l : Bool) (c : List Change) : (s.stageChanges a l c).oru = s.oru := by
  unfold State.stageChanges
  split
  · rfl
  · dsimp only
    split
    · split <;> simp
    · simp
@[simp] theorem State.stageChanges_pending (s : State) (a : Nat) (l : Bool) (c : List Change) : (s.stageChanges a l c).pending = s.pending := by
  unfold State.stageChanges
  split
  · rfl
  · dsimp only
    split
    · split <;> simp
    · simp
@[simp] theorem State.stageChanges_rpu_head (s : State) (a : Nat) (l : Bool) (c : List Change) : (s.stageChanges a l c).rpu.head = s.rpu.head := by
  unfold State.stageChanges
  split
  · rfl
  · dsimp only
    split
    · split <;> simp
    · simp
@[simp] theorem State.stageChanges_rpu_resultsWritten (s : State) (a : Nat) (l : Bool) (c : List Change) : (s.stageChanges a l c).rpu.resultsWritten = s.rpu.resultsWritten := by
  unfold State.stageChanges
  split
  · rfl
  · dsimp only
    split
    · split <;> simp
    · simp
@[simp] theorem State.stageChanges_rpu_writePath (s : State) (a : Nat) (l : Bool) (c : List Change) : (s.stageChanges a l c).rpu.writePath = s.rpu.writePath := by
  unfold State.stageChanges
  split
  · rfl
  · dsimp only
    split
    · split <;> simp
    · simp
@[simp] theorem State.stageChanges_rpu_lastTag (s : State) (a : Nat) (l : Bool) (c : List Change) : (s.stageChanges a l c).rpu.lastTag = s.rpu.lastTag := by
  unfold State.stageChanges
  split
  · rfl
  · dsimp only
    split
    · split <;> simp
    · simp
@[simp] theorem State.stageChanges_stations (s : State) (a : Nat) (l : Bool) (c : List Change) : (s.stageChanges a l c).stations = s.stations := by
  unfold State.stageChanges
  split
  · rfl
  · dsimp only
    split
    · split <;> simp
    · simp
@[simp] theorem State.stageChanges_points (s : State) (a : Nat) (l : Bool) (c : List Change) : (s.stageChanges a l c).points = s.points := by
  unfold State.stageChanges
  split
  · rfl
  · dsimp only
    split
    · split <;> simp
    · simp

/-! ### `conditionReply` -/

@[simp] theorem State.conditionReply_ctl (s : State) (r : StationRecord) (l : Bool) (v : List (Nat × Word)) :
    (s.conditionReply r l v).1.ctl = s.ctl := by
  unfold State.conditionReply
  simp
@[simp] theorem State.conditionReply_xpt (s : State) (r : StationRecord) (l : Bool) (v : List (Nat × Word)) :
    (s.conditionReply r l v).1.xpt = s.xpt := by
  unfold State.conditionReply
  simp
@[simp] theorem State.conditionReply_swe (s : State) (r : StationRecord) (l : Bool) (v : List (Nat × Word)) :
    (s.conditionReply r l v).1.swe = s.swe := by
  unfold State.conditionReply
  simp
@[simp] theorem State.conditionReply_exu (s : State) (r : StationRecord) (l : Bool) (v : List (Nat × Word)) :
    (s.conditionReply r l v).1.exu = s.exu := by
  unfold State.conditionReply
  simp
@[simp] theorem State.conditionReply_lanes (s : State) (r : StationRecord) (l : Bool) (v : List (Nat × Word)) :
    (s.conditionReply r l v).1.lanes = s.lanes := by
  unfold State.conditionReply
  simp
@[simp] theorem State.conditionReply_msu (s : State) (r : StationRecord) (l : Bool) (v : List (Nat × Word)) :
    (s.conditionReply r l v).1.msu = s.msu := by
  unfold State.conditionReply
  simp
@[simp] theorem State.conditionReply_oru (s : State) (r : StationRecord) (l : Bool) (v : List (Nat × Word)) :
    (s.conditionReply r l v).1.oru = s.oru := by
  unfold State.conditionReply
  simp
@[simp] theorem State.conditionReply_pending (s : State) (r : StationRecord) (l : Bool) (v : List (Nat × Word)) :
    (s.conditionReply r l v).1.pending = s.pending := by
  unfold State.conditionReply
  simp
@[simp] theorem State.conditionReply_rpu_head (s : State) (r : StationRecord) (l : Bool) (v : List (Nat × Word)) :
    (s.conditionReply r l v).1.rpu.head = s.rpu.head := by
  unfold State.conditionReply
  simp
@[simp] theorem State.conditionReply_rpu_resultsWritten (s : State) (r : StationRecord) (l : Bool) (v : List (Nat × Word)) :
    (s.conditionReply r l v).1.rpu.resultsWritten = s.rpu.resultsWritten := by
  unfold State.conditionReply
  simp
@[simp] theorem State.conditionReply_rpu_writePath (s : State) (r : StationRecord) (l : Bool) (v : List (Nat × Word)) :
    (s.conditionReply r l v).1.rpu.writePath = s.rpu.writePath := by
  unfold State.conditionReply
  simp
@[simp] theorem State.conditionReply_rpu_lastTag (s : State) (r : StationRecord) (l : Bool) (v : List (Nat × Word)) :
    (s.conditionReply r l v).1.rpu.lastTag = s.rpu.lastTag := by
  unfold State.conditionReply
  simp
@[simp] theorem State.conditionReply_stations (s : State) (r : StationRecord) (l : Bool) (v : List (Nat × Word)) :
    (s.conditionReply r l v).1.stations = s.stations := by
  unfold State.conditionReply
  simp

/-! ### `markRefused` -/

@[simp] theorem State.markRefused_ctl (s : State) (r : StationRecord) (f c : Nat) : (s.markRefused r f c).ctl = s.ctl := rfl
@[simp] theorem State.markRefused_xpt (s : State) (r : StationRecord) (f c : Nat) : (s.markRefused r f c).xpt = s.xpt := rfl
@[simp] theorem State.markRefused_stations (s : State) (r : StationRecord) (f c : Nat) : (s.markRefused r f c).stations = s.stations := rfl
@[simp] theorem State.markRefused_swe (s : State) (r : StationRecord) (f c : Nat) : (s.markRefused r f c).swe = s.swe := rfl
@[simp] theorem State.markRefused_exu (s : State) (r : StationRecord) (f c : Nat) : (s.markRefused r f c).exu = s.exu := rfl
@[simp] theorem State.markRefused_lanes (s : State) (r : StationRecord) (f c : Nat) : (s.markRefused r f c).lanes = s.lanes := rfl
@[simp] theorem State.markRefused_bar (s : State) (r : StationRecord) (f c : Nat) : (s.markRefused r f c).bar = s.bar := rfl
@[simp] theorem State.markRefused_msu (s : State) (r : StationRecord) (f c : Nat) : (s.markRefused r f c).msu = s.msu := rfl
@[simp] theorem State.markRefused_oru (s : State) (r : StationRecord) (f c : Nat) : (s.markRefused r f c).oru = s.oru := rfl
@[simp] theorem State.markRefused_rpu (s : State) (r : StationRecord) (f c : Nat) : (s.markRefused r f c).rpu = s.rpu := rfl
@[simp] theorem State.markRefused_pending (s : State) (r : StationRecord) (f c : Nat) : (s.markRefused r f c).pending = s.pending := rfl

/-! ### `deliver` -/

@[simp] theorem State.deliver_ctl (s : State) (x : Exchange) (c : ExchangeOutcome) : (s.deliver x c).1.ctl = s.ctl := by
  unfold State.deliver
  split <;> try rfl
  · simp
  · split
    · simp
    · dsimp only
      split <;> simp
    · dsimp only
      split <;> simp
    · rfl
    · rfl
@[simp] theorem State.deliver_xpt (s : State) (x : Exchange) (c : ExchangeOutcome) : (s.deliver x c).1.xpt = s.xpt := by
  unfold State.deliver
  split <;> try rfl
  · simp
  · split
    · simp
    · dsimp only
      split <;> simp
    · dsimp only
      split <;> simp
    · rfl
    · rfl
@[simp] theorem State.deliver_swe (s : State) (x : Exchange) (c : ExchangeOutcome) : (s.deliver x c).1.swe = s.swe := by
  unfold State.deliver
  split <;> try rfl
  · simp
  · split
    · simp
    · dsimp only
      split <;> simp
    · dsimp only
      split <;> simp
    · rfl
    · rfl
@[simp] theorem State.deliver_exu (s : State) (x : Exchange) (c : ExchangeOutcome) : (s.deliver x c).1.exu = s.exu := by
  unfold State.deliver
  split <;> try rfl
  · simp
  · split
    · simp
    · dsimp only
      split <;> simp
    · dsimp only
      split <;> simp
    · rfl
    · rfl
@[simp] theorem State.deliver_lanes (s : State) (x : Exchange) (c : ExchangeOutcome) : (s.deliver x c).1.lanes = s.lanes := by
  unfold State.deliver
  split <;> try rfl
  · simp
  · split
    · simp
    · dsimp only
      split <;> simp
    · dsimp only
      split <;> simp
    · rfl
    · rfl
@[simp] theorem State.deliver_msu (s : State) (x : Exchange) (c : ExchangeOutcome) : (s.deliver x c).1.msu = s.msu := by
  unfold State.deliver
  split <;> try rfl
  · simp
  · split
    · simp
    · dsimp only
      split <;> simp
    · dsimp only
      split <;> simp
    · rfl
    · rfl
@[simp] theorem State.deliver_oru (s : State) (x : Exchange) (c : ExchangeOutcome) : (s.deliver x c).1.oru = s.oru := by
  unfold State.deliver
  split <;> try rfl
  · simp
  · split
    · simp
    · dsimp only
      split <;> simp
    · dsimp only
      split <;> simp
    · rfl
    · rfl
@[simp] theorem State.deliver_pending (s : State) (x : Exchange) (c : ExchangeOutcome) : (s.deliver x c).1.pending = s.pending := by
  unfold State.deliver
  split <;> try rfl
  · simp
  · split
    · simp
    · dsimp only
      split <;> simp
    · dsimp only
      split <;> simp
    · rfl
    · rfl
@[simp] theorem State.deliver_rpu_head (s : State) (x : Exchange) (c : ExchangeOutcome) : (s.deliver x c).1.rpu.head = s.rpu.head := by
  unfold State.deliver
  split <;> try rfl
  · simp
  · split
    · simp
    · dsimp only
      split <;> simp
    · dsimp only
      split <;> simp
    · rfl
    · rfl
@[simp] theorem State.deliver_rpu_resultsWritten (s : State) (x : Exchange) (c : ExchangeOutcome) : (s.deliver x c).1.rpu.resultsWritten = s.rpu.resultsWritten := by
  unfold State.deliver
  split <;> try rfl
  · simp
  · split
    · simp
    · dsimp only
      split <;> simp
    · dsimp only
      split <;> simp
    · rfl
    · rfl
@[simp] theorem State.deliver_rpu_writePath (s : State) (x : Exchange) (c : ExchangeOutcome) : (s.deliver x c).1.rpu.writePath = s.rpu.writePath := by
  unfold State.deliver
  split <;> try rfl
  · simp
  · split
    · simp
    · dsimp only
      split <;> simp
    · dsimp only
      split <;> simp
    · rfl
    · rfl
@[simp] theorem State.deliver_rpu_lastTag (s : State) (x : Exchange) (c : ExchangeOutcome) : (s.deliver x c).1.rpu.lastTag = s.rpu.lastTag := by
  unfold State.deliver
  split <;> try rfl
  · simp
  · split
    · simp
    · dsimp only
      split <;> simp
    · dsimp only
      split <;> simp
    · rfl
    · rfl

/-! ### `blame` -/

@[simp] theorem State.blame_ctl (s : State) (l : LaneId) : (s.blame l).ctl = s.ctl := by
  unfold State.blame
  dsimp only
  split <;> cases l <;> simp [State.updateLane]
@[simp] theorem State.blame_xpt (s : State) (l : LaneId) : (s.blame l).xpt = s.xpt := by
  unfold State.blame
  dsimp only
  split <;> cases l <;> simp [State.updateLane]
@[simp] theorem State.blame_stations (s : State) (l : LaneId) : (s.blame l).stations = s.stations := by
  unfold State.blame
  dsimp only
  split <;> cases l <;> simp [State.updateLane]
@[simp] theorem State.blame_points (s : State) (l : LaneId) : (s.blame l).points = s.points := by
  unfold State.blame
  dsimp only
  split <;> cases l <;> simp [State.updateLane]
@[simp] theorem State.blame_swe (s : State) (l : LaneId) : (s.blame l).swe = s.swe := by
  unfold State.blame
  dsimp only
  split <;> cases l <;> simp [State.updateLane]
@[simp] theorem State.blame_exu (s : State) (l : LaneId) : (s.blame l).exu = s.exu := by
  unfold State.blame
  dsimp only
  split <;> cases l <;> simp [State.updateLane]
@[simp] theorem State.blame_bar (s : State) (l : LaneId) : (s.blame l).bar = s.bar := by
  unfold State.blame
  dsimp only
  split <;> cases l <;> simp [State.updateLane]
@[simp] theorem State.blame_msu (s : State) (l : LaneId) : (s.blame l).msu = s.msu := by
  unfold State.blame
  dsimp only
  split <;> cases l <;> simp [State.updateLane]
@[simp] theorem State.blame_oru (s : State) (l : LaneId) : (s.blame l).oru = s.oru := by
  unfold State.blame
  dsimp only
  split <;> cases l <;> simp [State.updateLane]
@[simp] theorem State.blame_pending (s : State) (l : LaneId) : (s.blame l).pending = s.pending := by
  unfold State.blame
  dsimp only
  split <;> cases l <;> simp [State.updateLane]
@[simp] theorem State.blame_rpu_head (s : State) (l : LaneId) : (s.blame l).rpu.head = s.rpu.head := by
  unfold State.blame
  dsimp only
  split <;> cases l <;> simp [State.updateLane]
@[simp] theorem State.blame_rpu_resultsWritten (s : State) (l : LaneId) : (s.blame l).rpu.resultsWritten = s.rpu.resultsWritten := by
  unfold State.blame
  dsimp only
  split <;> cases l <;> simp [State.updateLane]
@[simp] theorem State.blame_rpu_writePath (s : State) (l : LaneId) : (s.blame l).rpu.writePath = s.rpu.writePath := by
  unfold State.blame
  dsimp only
  split <;> cases l <;> simp [State.updateLane]
@[simp] theorem State.blame_rpu_lastTag (s : State) (l : LaneId) : (s.blame l).rpu.lastTag = s.rpu.lastTag := by
  unfold State.blame
  dsimp only
  split <;> cases l <;> simp [State.updateLane]
@[simp] theorem State.blame_lanes_silentWindows (s : State) (l : LaneId) : (s.blame l).lanes.silentWindows = s.lanes.silentWindows := by
  unfold State.blame
  dsimp only
  split <;> cases l <;> simp [State.updateLane]
@[simp] theorem State.blame_lanes_disagreements (s : State) (l : LaneId) : (s.blame l).lanes.disagreements = s.lanes.disagreements := by
  unfold State.blame
  dsimp only
  split <;> cases l <;> simp [State.updateLane]

/-! ### `credit` -/

@[simp] theorem State.credit_ctl (s : State) (l : LaneId) : (s.credit l).ctl = s.ctl := by
  unfold State.credit
  split <;> cases l <;> simp [State.updateLane]
@[simp] theorem State.credit_xpt (s : State) (l : LaneId) : (s.credit l).xpt = s.xpt := by
  unfold State.credit
  split <;> cases l <;> simp [State.updateLane]
@[simp] theorem State.credit_stations (s : State) (l : LaneId) : (s.credit l).stations = s.stations := by
  unfold State.credit
  split <;> cases l <;> simp [State.updateLane]
@[simp] theorem State.credit_points (s : State) (l : LaneId) : (s.credit l).points = s.points := by
  unfold State.credit
  split <;> cases l <;> simp [State.updateLane]
@[simp] theorem State.credit_swe (s : State) (l : LaneId) : (s.credit l).swe = s.swe := by
  unfold State.credit
  split <;> cases l <;> simp [State.updateLane]
@[simp] theorem State.credit_exu (s : State) (l : LaneId) : (s.credit l).exu = s.exu := by
  unfold State.credit
  split <;> cases l <;> simp [State.updateLane]
@[simp] theorem State.credit_bar (s : State) (l : LaneId) : (s.credit l).bar = s.bar := by
  unfold State.credit
  split <;> cases l <;> simp [State.updateLane]
@[simp] theorem State.credit_msu (s : State) (l : LaneId) : (s.credit l).msu = s.msu := by
  unfold State.credit
  split <;> cases l <;> simp [State.updateLane]
@[simp] theorem State.credit_oru (s : State) (l : LaneId) : (s.credit l).oru = s.oru := by
  unfold State.credit
  split <;> cases l <;> simp [State.updateLane]
@[simp] theorem State.credit_pending (s : State) (l : LaneId) : (s.credit l).pending = s.pending := by
  unfold State.credit
  split <;> cases l <;> simp [State.updateLane]
@[simp] theorem State.credit_rpu_head (s : State) (l : LaneId) : (s.credit l).rpu.head = s.rpu.head := by
  unfold State.credit
  split <;> cases l <;> simp [State.updateLane]
@[simp] theorem State.credit_rpu_resultsWritten (s : State) (l : LaneId) : (s.credit l).rpu.resultsWritten = s.rpu.resultsWritten := by
  unfold State.credit
  split <;> cases l <;> simp [State.updateLane]
@[simp] theorem State.credit_rpu_writePath (s : State) (l : LaneId) : (s.credit l).rpu.writePath = s.rpu.writePath := by
  unfold State.credit
  split <;> cases l <;> simp [State.updateLane]
@[simp] theorem State.credit_rpu_lastTag (s : State) (l : LaneId) : (s.credit l).rpu.lastTag = s.rpu.lastTag := by
  unfold State.credit
  split <;> cases l <;> simp [State.updateLane]
@[simp] theorem State.credit_lanes_silentWindows (s : State) (l : LaneId) : (s.credit l).lanes.silentWindows = s.lanes.silentWindows := by
  unfold State.credit
  split <;> cases l <;> simp [State.updateLane]
@[simp] theorem State.credit_lanes_disagreements (s : State) (l : LaneId) : (s.credit l).lanes.disagreements = s.lanes.disagreements := by
  unfold State.credit
  split <;> cases l <;> simp [State.updateLane]

/-! ### `laneOutcome` -/

@[simp] theorem State.laneOutcome_ctl (s : State) (l : LaneId) (c : Option LaneOutcome) : (s.laneOutcome l c).ctl = s.ctl := by
  unfold State.laneOutcome
  split <;> simp
@[simp] theorem State.laneOutcome_xpt (s : State) (l : LaneId) (c : Option LaneOutcome) : (s.laneOutcome l c).xpt = s.xpt := by
  unfold State.laneOutcome
  split <;> simp
@[simp] theorem State.laneOutcome_stations (s : State) (l : LaneId) (c : Option LaneOutcome) : (s.laneOutcome l c).stations = s.stations := by
  unfold State.laneOutcome
  split <;> simp
@[simp] theorem State.laneOutcome_points (s : State) (l : LaneId) (c : Option LaneOutcome) : (s.laneOutcome l c).points = s.points := by
  unfold State.laneOutcome
  split <;> simp
@[simp] theorem State.laneOutcome_swe (s : State) (l : LaneId) (c : Option LaneOutcome) : (s.laneOutcome l c).swe = s.swe := by
  unfold State.laneOutcome
  split <;> simp
@[simp] theorem State.laneOutcome_exu (s : State) (l : LaneId) (c : Option LaneOutcome) : (s.laneOutcome l c).exu = s.exu := by
  unfold State.laneOutcome
  split <;> simp
@[simp] theorem State.laneOutcome_bar (s : State) (l : LaneId) (c : Option LaneOutcome) : (s.laneOutcome l c).bar = s.bar := by
  unfold State.laneOutcome
  split <;> simp
@[simp] theorem State.laneOutcome_msu (s : State) (l : LaneId) (c : Option LaneOutcome) : (s.laneOutcome l c).msu = s.msu := by
  unfold State.laneOutcome
  split <;> simp
@[simp] theorem State.laneOutcome_oru (s : State) (l : LaneId) (c : Option LaneOutcome) : (s.laneOutcome l c).oru = s.oru := by
  unfold State.laneOutcome
  split <;> simp
@[simp] theorem State.laneOutcome_pending (s : State) (l : LaneId) (c : Option LaneOutcome) : (s.laneOutcome l c).pending = s.pending := by
  unfold State.laneOutcome
  split <;> simp
@[simp] theorem State.laneOutcome_rpu_head (s : State) (l : LaneId) (c : Option LaneOutcome) : (s.laneOutcome l c).rpu.head = s.rpu.head := by
  unfold State.laneOutcome
  split <;> simp
@[simp] theorem State.laneOutcome_rpu_resultsWritten (s : State) (l : LaneId) (c : Option LaneOutcome) : (s.laneOutcome l c).rpu.resultsWritten = s.rpu.resultsWritten := by
  unfold State.laneOutcome
  split <;> simp
@[simp] theorem State.laneOutcome_rpu_writePath (s : State) (l : LaneId) (c : Option LaneOutcome) : (s.laneOutcome l c).rpu.writePath = s.rpu.writePath := by
  unfold State.laneOutcome
  split <;> simp
@[simp] theorem State.laneOutcome_rpu_lastTag (s : State) (l : LaneId) (c : Option LaneOutcome) : (s.laneOutcome l c).rpu.lastTag = s.rpu.lastTag := by
  unfold State.laneOutcome
  split <;> simp

/-! ### `attribute` -/

@[simp] theorem State.attribute_ctl (s : State) (x : Exchange) (v : Verdict) : (s.attribute x v).ctl = s.ctl := by
  unfold State.attribute
  split
  · split
    · split <;> simp
    · split <;> rfl
  · split
    · split
      · dsimp only
        split <;> simp
      · rfl
    · rfl
  · split <;> simp
  · split <;> simp
@[simp] theorem State.attribute_xpt (s : State) (x : Exchange) (v : Verdict) : (s.attribute x v).xpt = s.xpt := by
  unfold State.attribute
  split
  · split
    · split <;> simp
    · split <;> rfl
  · split
    · split
      · dsimp only
        split <;> simp
      · rfl
    · rfl
  · split <;> simp
  · split <;> simp
@[simp] theorem State.attribute_points (s : State) (x : Exchange) (v : Verdict) : (s.attribute x v).points = s.points := by
  unfold State.attribute
  split
  · split
    · split <;> simp
    · split <;> rfl
  · split
    · split
      · dsimp only
        split <;> simp
      · rfl
    · rfl
  · split <;> simp
  · split <;> simp
@[simp] theorem State.attribute_swe (s : State) (x : Exchange) (v : Verdict) : (s.attribute x v).swe = s.swe := by
  unfold State.attribute
  split
  · split
    · split <;> simp
    · split <;> rfl
  · split
    · split
      · dsimp only
        split <;> simp
      · rfl
    · rfl
  · split <;> simp
  · split <;> simp
@[simp] theorem State.attribute_exu (s : State) (x : Exchange) (v : Verdict) : (s.attribute x v).exu = s.exu := by
  unfold State.attribute
  split
  · split
    · split <;> simp
    · split <;> rfl
  · split
    · split
      · dsimp only
        split <;> simp
      · rfl
    · rfl
  · split <;> simp
  · split <;> simp
@[simp] theorem State.attribute_bar (s : State) (x : Exchange) (v : Verdict) : (s.attribute x v).bar = s.bar := by
  unfold State.attribute
  split
  · split
    · split <;> simp
    · split <;> rfl
  · split
    · split
      · dsimp only
        split <;> simp
      · rfl
    · rfl
  · split <;> simp
  · split <;> simp
@[simp] theorem State.attribute_msu (s : State) (x : Exchange) (v : Verdict) : (s.attribute x v).msu = s.msu := by
  unfold State.attribute
  split
  · split
    · split <;> simp
    · split <;> rfl
  · split
    · split
      · dsimp only
        split <;> simp
      · rfl
    · rfl
  · split <;> simp
  · split <;> simp
@[simp] theorem State.attribute_oru (s : State) (x : Exchange) (v : Verdict) : (s.attribute x v).oru = s.oru := by
  unfold State.attribute
  split
  · split
    · split <;> simp
    · split <;> rfl
  · split
    · split
      · dsimp only
        split <;> simp
      · rfl
    · rfl
  · split <;> simp
  · split <;> simp
@[simp] theorem State.attribute_pending (s : State) (x : Exchange) (v : Verdict) : (s.attribute x v).pending = s.pending := by
  unfold State.attribute
  split
  · split
    · split <;> simp
    · split <;> rfl
  · split
    · split
      · dsimp only
        split <;> simp
      · rfl
    · rfl
  · split <;> simp
  · split <;> simp
@[simp] theorem State.attribute_rpu_head (s : State) (x : Exchange) (v : Verdict) : (s.attribute x v).rpu.head = s.rpu.head := by
  unfold State.attribute
  split
  · split
    · split <;> simp
    · split <;> rfl
  · split
    · split
      · dsimp only
        split <;> simp
      · rfl
    · rfl
  · split <;> simp
  · split <;> simp
@[simp] theorem State.attribute_rpu_resultsWritten (s : State) (x : Exchange) (v : Verdict) : (s.attribute x v).rpu.resultsWritten = s.rpu.resultsWritten := by
  unfold State.attribute
  split
  · split
    · split <;> simp
    · split <;> rfl
  · split
    · split
      · dsimp only
        split <;> simp
      · rfl
    · rfl
  · split <;> simp
  · split <;> simp
@[simp] theorem State.attribute_rpu_writePath (s : State) (x : Exchange) (v : Verdict) : (s.attribute x v).rpu.writePath = s.rpu.writePath := by
  unfold State.attribute
  split
  · split
    · split <;> simp
    · split <;> rfl
  · split
    · split
      · dsimp only
        split <;> simp
      · rfl
    · rfl
  · split <;> simp
  · split <;> simp
@[simp] theorem State.attribute_rpu_lastTag (s : State) (x : Exchange) (v : Verdict) : (s.attribute x v).rpu.lastTag = s.rpu.lastTag := by
  unfold State.attribute
  split
  · split
    · split <;> simp
    · split <;> rfl
  · split
    · split
      · dsimp only
        split <;> simp
      · rfl
    · rfl
  · split <;> simp
  · split <;> simp

/-! ### `settleQuery` -/

@[simp] theorem State.settleQuery_ctl (s : State) (i : Nat) (e : BusEntry) (a : Nat) (c : ExchangeOutcome) : (s.settleQuery i e a c).ctl = s.ctl := by
  unfold State.settleQuery
  split
  · split
    · split <;> simp
    · simp
    · simp
  · simp
  · simp
  · simp
@[simp] theorem State.settleQuery_xpt (s : State) (i : Nat) (e : BusEntry) (a : Nat) (c : ExchangeOutcome) : (s.settleQuery i e a c).xpt = s.xpt := by
  unfold State.settleQuery
  split
  · split
    · split <;> simp
    · simp
    · simp
  · simp
  · simp
  · simp
@[simp] theorem State.settleQuery_stations (s : State) (i : Nat) (e : BusEntry) (a : Nat) (c : ExchangeOutcome) : (s.settleQuery i e a c).stations = s.stations := by
  unfold State.settleQuery
  split
  · split
    · split <;> simp
    · simp
    · simp
  · simp
  · simp
  · simp
@[simp] theorem State.settleQuery_points (s : State) (i : Nat) (e : BusEntry) (a : Nat) (c : ExchangeOutcome) : (s.settleQuery i e a c).points = s.points := by
  unfold State.settleQuery
  split
  · split
    · split <;> simp
    · simp
    · simp
  · simp
  · simp
  · simp
@[simp] theorem State.settleQuery_swe (s : State) (i : Nat) (e : BusEntry) (a : Nat) (c : ExchangeOutcome) : (s.settleQuery i e a c).swe = s.swe := by
  unfold State.settleQuery
  split
  · split
    · split <;> simp
    · simp
    · simp
  · simp
  · simp
  · simp
@[simp] theorem State.settleQuery_exu (s : State) (i : Nat) (e : BusEntry) (a : Nat) (c : ExchangeOutcome) : (s.settleQuery i e a c).exu = s.exu := by
  unfold State.settleQuery
  split
  · split
    · split <;> simp
    · simp
    · simp
  · simp
  · simp
  · simp
@[simp] theorem State.settleQuery_lanes (s : State) (i : Nat) (e : BusEntry) (a : Nat) (c : ExchangeOutcome) : (s.settleQuery i e a c).lanes = s.lanes := by
  unfold State.settleQuery
  split
  · split
    · split <;> simp
    · simp
    · simp
  · simp
  · simp
  · simp
@[simp] theorem State.settleQuery_bar (s : State) (i : Nat) (e : BusEntry) (a : Nat) (c : ExchangeOutcome) : (s.settleQuery i e a c).bar = s.bar := by
  unfold State.settleQuery
  split
  · split
    · split <;> simp
    · simp
    · simp
  · simp
  · simp
  · simp
@[simp] theorem State.settleQuery_msu (s : State) (i : Nat) (e : BusEntry) (a : Nat) (c : ExchangeOutcome) : (s.settleQuery i e a c).msu = s.msu := by
  unfold State.settleQuery
  split
  · split
    · split <;> simp
    · simp
    · simp
  · simp
  · simp
  · simp
@[simp] theorem State.settleQuery_rpu (s : State) (i : Nat) (e : BusEntry) (a : Nat) (c : ExchangeOutcome) : (s.settleQuery i e a c).rpu = s.rpu := by
  unfold State.settleQuery
  split
  · split
    · split <;> simp
    · simp
    · simp
  · simp
  · simp
  · simp
@[simp] theorem State.settleQuery_pending (s : State) (i : Nat) (e : BusEntry) (a : Nat) (c : ExchangeOutcome) : (s.settleQuery i e a c).pending = s.pending := by
  unfold State.settleQuery
  split
  · split
    · split <;> simp
    · simp
    · simp
  · simp
  · simp
  · simp
@[simp] theorem State.settleQuery_oru_cache (s : State) (i : Nat) (e : BusEntry) (a : Nat) (c : ExchangeOutcome) : (s.settleQuery i e a c).oru.cache = s.oru.cache := by
  unfold State.settleQuery
  split
  · split
    · split <;> simp
    · simp
    · simp
  · simp
  · simp
  · simp

/-! ### `settleEntry` -/

@[simp] theorem State.settleEntry_ctl (s : State) (x : Exchange) (c : ExchangeOutcome) (v : List ValueEntry) : (s.settleEntry x c v).ctl = s.ctl := by
  unfold State.settleEntry
  split
  · rfl
  · split
    · rfl
    · split
      · simp
      · dsimp only
        split <;> simp
      · simp
      · simp
      · rfl
@[simp] theorem State.settleEntry_xpt (s : State) (x : Exchange) (c : ExchangeOutcome) (v : List ValueEntry) : (s.settleEntry x c v).xpt = s.xpt := by
  unfold State.settleEntry
  split
  · rfl
  · split
    · rfl
    · split
      · simp
      · dsimp only
        split <;> simp
      · simp
      · simp
      · rfl
@[simp] theorem State.settleEntry_stations (s : State) (x : Exchange) (c : ExchangeOutcome) (v : List ValueEntry) : (s.settleEntry x c v).stations = s.stations := by
  unfold State.settleEntry
  split
  · rfl
  · split
    · rfl
    · split
      · simp
      · dsimp only
        split <;> simp
      · simp
      · simp
      · rfl
@[simp] theorem State.settleEntry_points (s : State) (x : Exchange) (c : ExchangeOutcome) (v : List ValueEntry) : (s.settleEntry x c v).points = s.points := by
  unfold State.settleEntry
  split
  · rfl
  · split
    · rfl
    · split
      · simp
      · dsimp only
        split <;> simp
      · simp
      · simp
      · rfl
@[simp] theorem State.settleEntry_swe (s : State) (x : Exchange) (c : ExchangeOutcome) (v : List ValueEntry) : (s.settleEntry x c v).swe = s.swe := by
  unfold State.settleEntry
  split
  · rfl
  · split
    · rfl
    · split
      · simp
      · dsimp only
        split <;> simp
      · simp
      · simp
      · rfl
@[simp] theorem State.settleEntry_exu (s : State) (x : Exchange) (c : ExchangeOutcome) (v : List ValueEntry) : (s.settleEntry x c v).exu = s.exu := by
  unfold State.settleEntry
  split
  · rfl
  · split
    · rfl
    · split
      · simp
      · dsimp only
        split <;> simp
      · simp
      · simp
      · rfl
@[simp] theorem State.settleEntry_lanes (s : State) (x : Exchange) (c : ExchangeOutcome) (v : List ValueEntry) : (s.settleEntry x c v).lanes = s.lanes := by
  unfold State.settleEntry
  split
  · rfl
  · split
    · rfl
    · split
      · simp
      · dsimp only
        split <;> simp
      · simp
      · simp
      · rfl
@[simp] theorem State.settleEntry_bar (s : State) (x : Exchange) (c : ExchangeOutcome) (v : List ValueEntry) : (s.settleEntry x c v).bar = s.bar := by
  unfold State.settleEntry
  split
  · rfl
  · split
    · rfl
    · split
      · simp
      · dsimp only
        split <;> simp
      · simp
      · simp
      · rfl
@[simp] theorem State.settleEntry_msu (s : State) (x : Exchange) (c : ExchangeOutcome) (v : List ValueEntry) : (s.settleEntry x c v).msu = s.msu := by
  unfold State.settleEntry
  split
  · rfl
  · split
    · rfl
    · split
      · simp
      · dsimp only
        split <;> simp
      · simp
      · simp
      · rfl
@[simp] theorem State.settleEntry_rpu (s : State) (x : Exchange) (c : ExchangeOutcome) (v : List ValueEntry) : (s.settleEntry x c v).rpu = s.rpu := by
  unfold State.settleEntry
  split
  · rfl
  · split
    · rfl
    · split
      · simp
      · dsimp only
        split <;> simp
      · simp
      · simp
      · rfl
@[simp] theorem State.settleEntry_pending (s : State) (x : Exchange) (c : ExchangeOutcome) (v : List ValueEntry) : (s.settleEntry x c v).pending = s.pending := by
  unfold State.settleEntry
  split
  · rfl
  · split
    · rfl
    · split
      · simp
      · dsimp only
        split <;> simp
      · simp
      · simp
      · rfl
@[simp] theorem State.settleEntry_oru_cache (s : State) (x : Exchange) (c : ExchangeOutcome) (v : List ValueEntry) : (s.settleEntry x c v).oru.cache = s.oru.cache := by
  unfold State.settleEntry
  split
  · rfl
  · split
    · rfl
    · split
      · simp
      · dsimp only
        split <;> simp
      · simp
      · simp
      · rfl

/-! ### `afterClose` -/

@[simp] theorem State.afterClose_ctl (s : State) : (s.afterClose).ctl = s.ctl := by
  unfold State.afterClose
  dsimp only
  split <;> split <;> rfl
@[simp] theorem State.afterClose_xpt (s : State) : (s.afterClose).xpt = s.xpt := by
  unfold State.afterClose
  dsimp only
  split <;> split <;> rfl
@[simp] theorem State.afterClose_stations (s : State) : (s.afterClose).stations = s.stations := by
  unfold State.afterClose
  dsimp only
  split <;> split <;> rfl
@[simp] theorem State.afterClose_points (s : State) : (s.afterClose).points = s.points := by
  unfold State.afterClose
  dsimp only
  split <;> split <;> rfl
@[simp] theorem State.afterClose_swe (s : State) : (s.afterClose).swe = s.swe := by
  unfold State.afterClose
  dsimp only
  split <;> split <;> rfl
@[simp] theorem State.afterClose_lanes (s : State) : (s.afterClose).lanes = s.lanes := by
  unfold State.afterClose
  dsimp only
  split <;> split <;> rfl
@[simp] theorem State.afterClose_bar (s : State) : (s.afterClose).bar = s.bar := by
  unfold State.afterClose
  dsimp only
  split <;> split <;> rfl
@[simp] theorem State.afterClose_oru (s : State) : (s.afterClose).oru = s.oru := by
  unfold State.afterClose
  dsimp only
  split <;> split <;> rfl
@[simp] theorem State.afterClose_rpu (s : State) : (s.afterClose).rpu = s.rpu := by
  unfold State.afterClose
  dsimp only
  split <;> split <;> rfl
@[simp] theorem State.afterClose_pending (s : State) : (s.afterClose).pending = s.pending := by
  unfold State.afterClose
  dsimp only
  split <;> split <;> rfl
@[simp] theorem State.afterClose_exu_exchange (s : State) : (s.afterClose).exu.exchange = s.exu.exchange := by
  unfold State.afterClose
  dsimp only
  split <;> split <;> rfl
@[simp] theorem State.afterClose_exu_seqCounter (s : State) : (s.afterClose).exu.seqCounter = s.exu.seqCounter := by
  unfold State.afterClose
  dsimp only
  split <;> split <;> rfl
@[simp] theorem State.afterClose_msu_shift (s : State) : (s.afterClose).msu.shift = s.msu.shift := by
  unfold State.afterClose
  dsimp only
  split <;> split <;> rfl
@[simp] theorem State.afterClose_msu_contestCount (s : State) : (s.afterClose).msu.contestCount = s.msu.contestCount := by
  unfold State.afterClose
  dsimp only
  split <;> split <;> rfl
@[simp] theorem State.afterClose_msu_takeoverTimer (s : State) : (s.afterClose).msu.takeoverTimer = s.msu.takeoverTimer := by
  unfold State.afterClose
  dsimp only
  split <;> split <;> rfl
@[simp] theorem State.afterClose_msu_markTimer (s : State) : (s.afterClose).msu.markTimer = s.msu.markTimer := by
  unfold State.afterClose
  dsimp only
  split <;> split <;> rfl
@[simp] theorem State.afterClose_msu_roleDue (s : State) : (s.afterClose).msu.roleDue = s.msu.roleDue := by
  unfold State.afterClose
  dsimp only
  split <;> split <;> rfl

/-! ### `closeExchange` -/

@[simp] theorem State.closeExchange_ctl (s : State) (x : Exchange) (c : ExchangeOutcome) : (s.closeExchange x c).ctl = s.ctl := by
  unfold State.closeExchange
  dsimp only
  split <;> simp
@[simp] theorem State.closeExchange_xpt (s : State) (x : Exchange) (c : ExchangeOutcome) : (s.closeExchange x c).xpt = s.xpt := by
  unfold State.closeExchange
  dsimp only
  split <;> simp
@[simp] theorem State.closeExchange_lanes (s : State) (x : Exchange) (c : ExchangeOutcome) : (s.closeExchange x c).lanes = s.lanes := by
  unfold State.closeExchange
  dsimp only
  split <;> simp
@[simp] theorem State.closeExchange_pending (s : State) (x : Exchange) (c : ExchangeOutcome) : (s.closeExchange x c).pending = s.pending := by
  unfold State.closeExchange
  dsimp only
  split <;> simp
@[simp] theorem State.closeExchange_exu_seqCounter (s : State) (x : Exchange) (c : ExchangeOutcome) : (s.closeExchange x c).exu.seqCounter = s.exu.seqCounter := by
  unfold State.closeExchange
  dsimp only
  split <;> simp
@[simp] theorem State.closeExchange_oru_cache (s : State) (x : Exchange) (c : ExchangeOutcome) : (s.closeExchange x c).oru.cache = s.oru.cache := by
  unfold State.closeExchange
  dsimp only
  split <;> simp
@[simp] theorem State.closeExchange_swe_active (s : State) (x : Exchange) (c : ExchangeOutcome) : (s.closeExchange x c).swe.active = s.swe.active := by
  unfold State.closeExchange
  dsimp only
  split <;> simp
@[simp] theorem State.closeExchange_swe_pendingList (s : State) (x : Exchange) (c : ExchangeOutcome) : (s.closeExchange x c).swe.pendingList = s.swe.pendingList := by
  unfold State.closeExchange
  dsimp only
  split <;> simp
@[simp] theorem State.closeExchange_swe_pendingReady (s : State) (x : Exchange) (c : ExchangeOutcome) : (s.closeExchange x c).swe.pendingReady = s.swe.pendingReady := by
  unfold State.closeExchange
  dsimp only
  split <;> simp
@[simp] theorem State.closeExchange_msu_shift (s : State) (x : Exchange) (c : ExchangeOutcome) : (s.closeExchange x c).msu.shift = s.msu.shift := by
  unfold State.closeExchange
  dsimp only
  split <;> simp
@[simp] theorem State.closeExchange_msu_contestCount (s : State) (x : Exchange) (c : ExchangeOutcome) : (s.closeExchange x c).msu.contestCount = s.msu.contestCount := by
  unfold State.closeExchange
  dsimp only
  split <;> simp
@[simp] theorem State.closeExchange_msu_takeoverTimer (s : State) (x : Exchange) (c : ExchangeOutcome) : (s.closeExchange x c).msu.takeoverTimer = s.msu.takeoverTimer := by
  unfold State.closeExchange
  dsimp only
  split <;> simp
@[simp] theorem State.closeExchange_msu_markTimer (s : State) (x : Exchange) (c : ExchangeOutcome) : (s.closeExchange x c).msu.markTimer = s.msu.markTimer := by
  unfold State.closeExchange
  dsimp only
  split <;> simp
@[simp] theorem State.closeExchange_msu_roleDue (s : State) (x : Exchange) (c : ExchangeOutcome) : (s.closeExchange x c).msu.roleDue = s.msu.roleDue := by
  unfold State.closeExchange
  dsimp only
  split <;> simp
@[simp] theorem State.closeExchange_rpu_head (s : State) (x : Exchange) (c : ExchangeOutcome) : (s.closeExchange x c).rpu.head = s.rpu.head := by
  unfold State.closeExchange
  dsimp only
  split <;> simp
@[simp] theorem State.closeExchange_rpu_resultsWritten (s : State) (x : Exchange) (c : ExchangeOutcome) : (s.closeExchange x c).rpu.resultsWritten = s.rpu.resultsWritten := by
  unfold State.closeExchange
  dsimp only
  split <;> simp
@[simp] theorem State.closeExchange_rpu_writePath (s : State) (x : Exchange) (c : ExchangeOutcome) : (s.closeExchange x c).rpu.writePath = s.rpu.writePath := by
  unfold State.closeExchange
  dsimp only
  split <;> simp
@[simp] theorem State.closeExchange_rpu_lastTag (s : State) (x : Exchange) (c : ExchangeOutcome) : (s.closeExchange x c).rpu.lastTag = s.rpu.lastTag := by
  unfold State.closeExchange
  dsimp only
  split <;> simp

@[simp] theorem State.closeExchange_exchange (s : State) (x : Exchange) (c : ExchangeOutcome) :
    (s.closeExchange x c).exu.exchange = none := by
  unfold State.closeExchange
  dsimp only
  split <;> simp

@[simp] theorem State.closeExchange_reserved (s : State) (x : Exchange) (c : ExchangeOutcome) :
    (s.closeExchange x c).bar.reserved = 0 := by
  unfold State.closeExchange
  dsimp only
  split <;> simp

/-! ### `beginAttempt` -/

@[simp] theorem State.beginAttempt_ctl (s : State) (x : Exchange) (l : Bool × Bool) : (s.beginAttempt x l).ctl = s.ctl := rfl
@[simp] theorem State.beginAttempt_xpt (s : State) (x : Exchange) (l : Bool × Bool) : (s.beginAttempt x l).xpt = s.xpt := rfl
@[simp] theorem State.beginAttempt_stations (s : State) (x : Exchange) (l : Bool × Bool) : (s.beginAttempt x l).stations = s.stations := rfl
@[simp] theorem State.beginAttempt_points (s : State) (x : Exchange) (l : Bool × Bool) : (s.beginAttempt x l).points = s.points := rfl
@[simp] theorem State.beginAttempt_swe (s : State) (x : Exchange) (l : Bool × Bool) : (s.beginAttempt x l).swe = s.swe := rfl
@[simp] theorem State.beginAttempt_bar (s : State) (x : Exchange) (l : Bool × Bool) : (s.beginAttempt x l).bar = s.bar := rfl
@[simp] theorem State.beginAttempt_msu (s : State) (x : Exchange) (l : Bool × Bool) : (s.beginAttempt x l).msu = s.msu := rfl
@[simp] theorem State.beginAttempt_oru (s : State) (x : Exchange) (l : Bool × Bool) : (s.beginAttempt x l).oru = s.oru := rfl
@[simp] theorem State.beginAttempt_rpu (s : State) (x : Exchange) (l : Bool × Bool) : (s.beginAttempt x l).rpu = s.rpu := rfl
@[simp] theorem State.beginAttempt_pending (s : State) (x : Exchange) (l : Bool × Bool) : (s.beginAttempt x l).pending = s.pending := rfl
@[simp] theorem State.beginAttempt_exu_seqCounter (s : State) (x : Exchange) (l : Bool × Bool) : (s.beginAttempt x l).exu.seqCounter = s.exu.seqCounter := rfl
@[simp] theorem State.beginAttempt_exu_overheard (s : State) (x : Exchange) (l : Bool × Bool) : (s.beginAttempt x l).exu.overheard = s.exu.overheard := rfl

/-! ### `retry` -/

@[simp] theorem State.retry_ctl (s : State) (x : Exchange) : (s.retry x).ctl = s.ctl := rfl
@[simp] theorem State.retry_xpt (s : State) (x : Exchange) : (s.retry x).xpt = s.xpt := rfl
@[simp] theorem State.retry_stations (s : State) (x : Exchange) : (s.retry x).stations = s.stations := rfl
@[simp] theorem State.retry_points (s : State) (x : Exchange) : (s.retry x).points = s.points := rfl
@[simp] theorem State.retry_swe (s : State) (x : Exchange) : (s.retry x).swe = s.swe := rfl
@[simp] theorem State.retry_bar (s : State) (x : Exchange) : (s.retry x).bar = s.bar := rfl
@[simp] theorem State.retry_msu (s : State) (x : Exchange) : (s.retry x).msu = s.msu := rfl
@[simp] theorem State.retry_oru (s : State) (x : Exchange) : (s.retry x).oru = s.oru := rfl
@[simp] theorem State.retry_rpu (s : State) (x : Exchange) : (s.retry x).rpu = s.rpu := rfl
@[simp] theorem State.retry_pending (s : State) (x : Exchange) : (s.retry x).pending = s.pending := rfl
@[simp] theorem State.retry_exu_seqCounter (s : State) (x : Exchange) : (s.retry x).exu.seqCounter = s.exu.seqCounter := rfl
@[simp] theorem State.retry_exu_overheard (s : State) (x : Exchange) : (s.retry x).exu.overheard = s.exu.overheard := rfl

/-! ### `openExchange` -/

@[simp] theorem State.openExchange_ctl (s : State) (x : Exchange) (p : Bool) : (s.openExchange x p).ctl = s.ctl := rfl
@[simp] theorem State.openExchange_xpt (s : State) (x : Exchange) (p : Bool) : (s.openExchange x p).xpt = s.xpt := rfl
@[simp] theorem State.openExchange_stations (s : State) (x : Exchange) (p : Bool) : (s.openExchange x p).stations = s.stations := rfl
@[simp] theorem State.openExchange_points (s : State) (x : Exchange) (p : Bool) : (s.openExchange x p).points = s.points := rfl
@[simp] theorem State.openExchange_swe (s : State) (x : Exchange) (p : Bool) : (s.openExchange x p).swe = s.swe := rfl
@[simp] theorem State.openExchange_msu (s : State) (x : Exchange) (p : Bool) : (s.openExchange x p).msu = s.msu := rfl
@[simp] theorem State.openExchange_oru (s : State) (x : Exchange) (p : Bool) : (s.openExchange x p).oru = s.oru := rfl
@[simp] theorem State.openExchange_rpu (s : State) (x : Exchange) (p : Bool) : (s.openExchange x p).rpu = s.rpu := rfl
@[simp] theorem State.openExchange_pending (s : State) (x : Exchange) (p : Bool) : (s.openExchange x p).pending = s.pending := rfl
@[simp] theorem State.openExchange_exu_overheard (s : State) (x : Exchange) (p : Bool) : (s.openExchange x p).exu.overheard = s.exu.overheard := rfl

/-! ### `weighAttempt` -/

@[simp] theorem State.weighAttempt_ctl (s : State) (x : Exchange) : (s.weighAttempt x).ctl = s.ctl := by
  unfold State.weighAttempt
  dsimp only
  split
  · simp
  · split <;> simp
@[simp] theorem State.weighAttempt_xpt (s : State) (x : Exchange) : (s.weighAttempt x).xpt = s.xpt := by
  unfold State.weighAttempt
  dsimp only
  split
  · simp
  · split <;> simp
@[simp] theorem State.weighAttempt_pending (s : State) (x : Exchange) : (s.weighAttempt x).pending = s.pending := by
  unfold State.weighAttempt
  dsimp only
  split
  · simp
  · split <;> simp
@[simp] theorem State.weighAttempt_exu_seqCounter (s : State) (x : Exchange) : (s.weighAttempt x).exu.seqCounter = s.exu.seqCounter := by
  unfold State.weighAttempt
  dsimp only
  split
  · simp
  · split <;> simp
@[simp] theorem State.weighAttempt_oru_cache (s : State) (x : Exchange) : (s.weighAttempt x).oru.cache = s.oru.cache := by
  unfold State.weighAttempt
  dsimp only
  split
  · simp
  · split <;> simp
@[simp] theorem State.weighAttempt_swe_active (s : State) (x : Exchange) : (s.weighAttempt x).swe.active = s.swe.active := by
  unfold State.weighAttempt
  dsimp only
  split
  · simp
  · split <;> simp
@[simp] theorem State.weighAttempt_swe_pendingList (s : State) (x : Exchange) : (s.weighAttempt x).swe.pendingList = s.swe.pendingList := by
  unfold State.weighAttempt
  dsimp only
  split
  · simp
  · split <;> simp
@[simp] theorem State.weighAttempt_swe_pendingReady (s : State) (x : Exchange) : (s.weighAttempt x).swe.pendingReady = s.swe.pendingReady := by
  unfold State.weighAttempt
  dsimp only
  split
  · simp
  · split <;> simp
@[simp] theorem State.weighAttempt_msu_shift (s : State) (x : Exchange) : (s.weighAttempt x).msu.shift = s.msu.shift := by
  unfold State.weighAttempt
  dsimp only
  split
  · simp
  · split <;> simp
@[simp] theorem State.weighAttempt_msu_contestCount (s : State) (x : Exchange) : (s.weighAttempt x).msu.contestCount = s.msu.contestCount := by
  unfold State.weighAttempt
  dsimp only
  split
  · simp
  · split <;> simp
@[simp] theorem State.weighAttempt_msu_takeoverTimer (s : State) (x : Exchange) : (s.weighAttempt x).msu.takeoverTimer = s.msu.takeoverTimer := by
  unfold State.weighAttempt
  dsimp only
  split
  · simp
  · split <;> simp
@[simp] theorem State.weighAttempt_msu_markTimer (s : State) (x : Exchange) : (s.weighAttempt x).msu.markTimer = s.msu.markTimer := by
  unfold State.weighAttempt
  dsimp only
  split
  · simp
  · split <;> simp
@[simp] theorem State.weighAttempt_msu_roleDue (s : State) (x : Exchange) : (s.weighAttempt x).msu.roleDue = s.msu.roleDue := by
  unfold State.weighAttempt
  dsimp only
  split
  · simp
  · split <;> simp
@[simp] theorem State.weighAttempt_rpu_head (s : State) (x : Exchange) : (s.weighAttempt x).rpu.head = s.rpu.head := by
  unfold State.weighAttempt
  dsimp only
  split
  · simp
  · split <;> simp
@[simp] theorem State.weighAttempt_rpu_resultsWritten (s : State) (x : Exchange) : (s.weighAttempt x).rpu.resultsWritten = s.rpu.resultsWritten := by
  unfold State.weighAttempt
  dsimp only
  split
  · simp
  · split <;> simp
@[simp] theorem State.weighAttempt_rpu_writePath (s : State) (x : Exchange) : (s.weighAttempt x).rpu.writePath = s.rpu.writePath := by
  unfold State.weighAttempt
  dsimp only
  split
  · simp
  · split <;> simp
@[simp] theorem State.weighAttempt_rpu_lastTag (s : State) (x : Exchange) : (s.weighAttempt x).rpu.lastTag = s.rpu.lastTag := by
  unfold State.weighAttempt
  dsimp only
  split
  · simp
  · split <;> simp

/-! ### `attemptEnd` -/

@[simp] theorem State.attemptEnd_ctl (s : State) (x : Exchange) : (s.attemptEnd x).ctl = s.ctl := by
  unfold State.attemptEnd
  split <;> simp
@[simp] theorem State.attemptEnd_xpt (s : State) (x : Exchange) : (s.attemptEnd x).xpt = s.xpt := by
  unfold State.attemptEnd
  split <;> simp
@[simp] theorem State.attemptEnd_pending (s : State) (x : Exchange) : (s.attemptEnd x).pending = s.pending := by
  unfold State.attemptEnd
  split <;> simp
@[simp] theorem State.attemptEnd_exu_seqCounter (s : State) (x : Exchange) : (s.attemptEnd x).exu.seqCounter = s.exu.seqCounter := by
  unfold State.attemptEnd
  split <;> simp
@[simp] theorem State.attemptEnd_oru_cache (s : State) (x : Exchange) : (s.attemptEnd x).oru.cache = s.oru.cache := by
  unfold State.attemptEnd
  split <;> simp
@[simp] theorem State.attemptEnd_swe_active (s : State) (x : Exchange) : (s.attemptEnd x).swe.active = s.swe.active := by
  unfold State.attemptEnd
  split <;> simp
@[simp] theorem State.attemptEnd_swe_pendingList (s : State) (x : Exchange) : (s.attemptEnd x).swe.pendingList = s.swe.pendingList := by
  unfold State.attemptEnd
  split <;> simp
@[simp] theorem State.attemptEnd_swe_pendingReady (s : State) (x : Exchange) : (s.attemptEnd x).swe.pendingReady = s.swe.pendingReady := by
  unfold State.attemptEnd
  split <;> simp
@[simp] theorem State.attemptEnd_msu_shift (s : State) (x : Exchange) : (s.attemptEnd x).msu.shift = s.msu.shift := by
  unfold State.attemptEnd
  split <;> simp
@[simp] theorem State.attemptEnd_msu_contestCount (s : State) (x : Exchange) : (s.attemptEnd x).msu.contestCount = s.msu.contestCount := by
  unfold State.attemptEnd
  split <;> simp
@[simp] theorem State.attemptEnd_msu_takeoverTimer (s : State) (x : Exchange) : (s.attemptEnd x).msu.takeoverTimer = s.msu.takeoverTimer := by
  unfold State.attemptEnd
  split <;> simp
@[simp] theorem State.attemptEnd_msu_markTimer (s : State) (x : Exchange) : (s.attemptEnd x).msu.markTimer = s.msu.markTimer := by
  unfold State.attemptEnd
  split <;> simp
@[simp] theorem State.attemptEnd_msu_roleDue (s : State) (x : Exchange) : (s.attemptEnd x).msu.roleDue = s.msu.roleDue := by
  unfold State.attemptEnd
  split <;> simp
@[simp] theorem State.attemptEnd_rpu_head (s : State) (x : Exchange) : (s.attemptEnd x).rpu.head = s.rpu.head := by
  unfold State.attemptEnd
  split <;> simp
@[simp] theorem State.attemptEnd_rpu_resultsWritten (s : State) (x : Exchange) : (s.attemptEnd x).rpu.resultsWritten = s.rpu.resultsWritten := by
  unfold State.attemptEnd
  split <;> simp
@[simp] theorem State.attemptEnd_rpu_writePath (s : State) (x : Exchange) : (s.attemptEnd x).rpu.writePath = s.rpu.writePath := by
  unfold State.attemptEnd
  split <;> simp
@[simp] theorem State.attemptEnd_rpu_lastTag (s : State) (x : Exchange) : (s.attemptEnd x).rpu.lastTag = s.rpu.lastTag := by
  unfold State.attemptEnd
  split <;> simp

/-! ### `setPart` -/

@[simp] theorem State.setPart_ctl (s : State) (l : LaneId) (p : LanePart) : (s.setPart l p).ctl = s.ctl := rfl
@[simp] theorem State.setPart_xpt (s : State) (l : LaneId) (p : LanePart) : (s.setPart l p).xpt = s.xpt := rfl
@[simp] theorem State.setPart_stations (s : State) (l : LaneId) (p : LanePart) : (s.setPart l p).stations = s.stations := rfl
@[simp] theorem State.setPart_points (s : State) (l : LaneId) (p : LanePart) : (s.setPart l p).points = s.points := rfl
@[simp] theorem State.setPart_swe (s : State) (l : LaneId) (p : LanePart) : (s.setPart l p).swe = s.swe := rfl
@[simp] theorem State.setPart_lanes (s : State) (l : LaneId) (p : LanePart) : (s.setPart l p).lanes = s.lanes := rfl
@[simp] theorem State.setPart_bar (s : State) (l : LaneId) (p : LanePart) : (s.setPart l p).bar = s.bar := rfl
@[simp] theorem State.setPart_msu (s : State) (l : LaneId) (p : LanePart) : (s.setPart l p).msu = s.msu := rfl
@[simp] theorem State.setPart_oru (s : State) (l : LaneId) (p : LanePart) : (s.setPart l p).oru = s.oru := rfl
@[simp] theorem State.setPart_rpu (s : State) (l : LaneId) (p : LanePart) : (s.setPart l p).rpu = s.rpu := rfl
@[simp] theorem State.setPart_pending (s : State) (l : LaneId) (p : LanePart) : (s.setPart l p).pending = s.pending := rfl
@[simp] theorem State.setPart_exu_seqCounter (s : State) (l : LaneId) (p : LanePart) : (s.setPart l p).exu.seqCounter = s.exu.seqCounter := rfl
@[simp] theorem State.setPart_exu_overheard (s : State) (l : LaneId) (p : LanePart) : (s.setPart l p).exu.overheard = s.exu.overheard := rfl

/-! ### `checkAttempt` -/

@[simp] theorem State.checkAttempt_ctl (s : State) : (s.checkAttempt).ctl = s.ctl := by
  unfold State.checkAttempt
  split
  · rfl
  · split
    · simp
    · rfl
@[simp] theorem State.checkAttempt_xpt (s : State) : (s.checkAttempt).xpt = s.xpt := by
  unfold State.checkAttempt
  split
  · rfl
  · split
    · simp
    · rfl
@[simp] theorem State.checkAttempt_pending (s : State) : (s.checkAttempt).pending = s.pending := by
  unfold State.checkAttempt
  split
  · rfl
  · split
    · simp
    · rfl
@[simp] theorem State.checkAttempt_exu_seqCounter (s : State) : (s.checkAttempt).exu.seqCounter = s.exu.seqCounter := by
  unfold State.checkAttempt
  split
  · rfl
  · split
    · simp
    · rfl
@[simp] theorem State.checkAttempt_oru_cache (s : State) : (s.checkAttempt).oru.cache = s.oru.cache := by
  unfold State.checkAttempt
  split
  · rfl
  · split
    · simp
    · rfl
@[simp] theorem State.checkAttempt_swe_active (s : State) : (s.checkAttempt).swe.active = s.swe.active := by
  unfold State.checkAttempt
  split
  · rfl
  · split
    · simp
    · rfl
@[simp] theorem State.checkAttempt_swe_pendingList (s : State) : (s.checkAttempt).swe.pendingList = s.swe.pendingList := by
  unfold State.checkAttempt
  split
  · rfl
  · split
    · simp
    · rfl
@[simp] theorem State.checkAttempt_swe_pendingReady (s : State) : (s.checkAttempt).swe.pendingReady = s.swe.pendingReady := by
  unfold State.checkAttempt
  split
  · rfl
  · split
    · simp
    · rfl
@[simp] theorem State.checkAttempt_msu_shift (s : State) : (s.checkAttempt).msu.shift = s.msu.shift := by
  unfold State.checkAttempt
  split
  · rfl
  · split
    · simp
    · rfl
@[simp] theorem State.checkAttempt_msu_contestCount (s : State) : (s.checkAttempt).msu.contestCount = s.msu.contestCount := by
  unfold State.checkAttempt
  split
  · rfl
  · split
    · simp
    · rfl
@[simp] theorem State.checkAttempt_msu_takeoverTimer (s : State) : (s.checkAttempt).msu.takeoverTimer = s.msu.takeoverTimer := by
  unfold State.checkAttempt
  split
  · rfl
  · split
    · simp
    · rfl
@[simp] theorem State.checkAttempt_msu_markTimer (s : State) : (s.checkAttempt).msu.markTimer = s.msu.markTimer := by
  unfold State.checkAttempt
  split
  · rfl
  · split
    · simp
    · rfl
@[simp] theorem State.checkAttempt_msu_roleDue (s : State) : (s.checkAttempt).msu.roleDue = s.msu.roleDue := by
  unfold State.checkAttempt
  split
  · rfl
  · split
    · simp
    · rfl
@[simp] theorem State.checkAttempt_rpu_head (s : State) : (s.checkAttempt).rpu.head = s.rpu.head := by
  unfold State.checkAttempt
  split
  · rfl
  · split
    · simp
    · rfl
@[simp] theorem State.checkAttempt_rpu_resultsWritten (s : State) : (s.checkAttempt).rpu.resultsWritten = s.rpu.resultsWritten := by
  unfold State.checkAttempt
  split
  · rfl
  · split
    · simp
    · rfl
@[simp] theorem State.checkAttempt_rpu_writePath (s : State) : (s.checkAttempt).rpu.writePath = s.rpu.writePath := by
  unfold State.checkAttempt
  split
  · rfl
  · split
    · simp
    · rfl
@[simp] theorem State.checkAttempt_rpu_lastTag (s : State) : (s.checkAttempt).rpu.lastTag = s.rpu.lastTag := by
  unfold State.checkAttempt
  split
  · rfl
  · split
    · simp
    · rfl

/-! ### `overheardPair` -/

@[simp] theorem State.overheardPair_ctl (s : State) (q : Request) (r : Reply) : (s.overheardPair q r).ctl = s.ctl := by
  unfold State.overheardPair
  split
  · rfl
  · split <;> simp
@[simp] theorem State.overheardPair_xpt (s : State) (q : Request) (r : Reply) : (s.overheardPair q r).xpt = s.xpt := by
  unfold State.overheardPair
  split
  · rfl
  · split <;> simp
@[simp] theorem State.overheardPair_swe (s : State) (q : Request) (r : Reply) : (s.overheardPair q r).swe = s.swe := by
  unfold State.overheardPair
  split
  · rfl
  · split <;> simp
@[simp] theorem State.overheardPair_lanes (s : State) (q : Request) (r : Reply) : (s.overheardPair q r).lanes = s.lanes := by
  unfold State.overheardPair
  split
  · rfl
  · split <;> simp
@[simp] theorem State.overheardPair_msu (s : State) (q : Request) (r : Reply) : (s.overheardPair q r).msu = s.msu := by
  unfold State.overheardPair
  split
  · rfl
  · split <;> simp
@[simp] theorem State.overheardPair_oru (s : State) (q : Request) (r : Reply) : (s.overheardPair q r).oru = s.oru := by
  unfold State.overheardPair
  split
  · rfl
  · split <;> simp
@[simp] theorem State.overheardPair_pending (s : State) (q : Request) (r : Reply) : (s.overheardPair q r).pending = s.pending := by
  unfold State.overheardPair
  split
  · rfl
  · split <;> simp
@[simp] theorem State.overheardPair_exu_exchange (s : State) (q : Request) (r : Reply) : (s.overheardPair q r).exu.exchange = s.exu.exchange := by
  unfold State.overheardPair
  split
  · rfl
  · split <;> simp
@[simp] theorem State.overheardPair_exu_seqCounter (s : State) (q : Request) (r : Reply) : (s.overheardPair q r).exu.seqCounter = s.exu.seqCounter := by
  unfold State.overheardPair
  split
  · rfl
  · split <;> simp
@[simp] theorem State.overheardPair_rpu_head (s : State) (q : Request) (r : Reply) : (s.overheardPair q r).rpu.head = s.rpu.head := by
  unfold State.overheardPair
  split
  · rfl
  · split <;> simp
@[simp] theorem State.overheardPair_rpu_resultsWritten (s : State) (q : Request) (r : Reply) : (s.overheardPair q r).rpu.resultsWritten = s.rpu.resultsWritten := by
  unfold State.overheardPair
  split
  · rfl
  · split <;> simp
@[simp] theorem State.overheardPair_rpu_writePath (s : State) (q : Request) (r : Reply) : (s.overheardPair q r).rpu.writePath = s.rpu.writePath := by
  unfold State.overheardPair
  split
  · rfl
  · split <;> simp
@[simp] theorem State.overheardPair_rpu_lastTag (s : State) (q : Request) (r : Reply) : (s.overheardPair q r).rpu.lastTag = s.rpu.lastTag := by
  unfold State.overheardPair
  split
  · rfl
  · split <;> simp

/-! ### `closeOverheard` -/

@[simp] theorem State.closeOverheard_ctl (s : State) (v : Overheard) : (s.closeOverheard v).ctl = s.ctl := by
  unfold State.closeOverheard
  dsimp only
  split <;> simp
@[simp] theorem State.closeOverheard_xpt (s : State) (v : Overheard) : (s.closeOverheard v).xpt = s.xpt := by
  unfold State.closeOverheard
  dsimp only
  split <;> simp
@[simp] theorem State.closeOverheard_swe (s : State) (v : Overheard) : (s.closeOverheard v).swe = s.swe := by
  unfold State.closeOverheard
  dsimp only
  split <;> simp
@[simp] theorem State.closeOverheard_lanes (s : State) (v : Overheard) : (s.closeOverheard v).lanes = s.lanes := by
  unfold State.closeOverheard
  dsimp only
  split <;> simp
@[simp] theorem State.closeOverheard_msu (s : State) (v : Overheard) : (s.closeOverheard v).msu = s.msu := by
  unfold State.closeOverheard
  dsimp only
  split <;> simp
@[simp] theorem State.closeOverheard_oru (s : State) (v : Overheard) : (s.closeOverheard v).oru = s.oru := by
  unfold State.closeOverheard
  dsimp only
  split <;> simp
@[simp] theorem State.closeOverheard_pending (s : State) (v : Overheard) : (s.closeOverheard v).pending = s.pending := by
  unfold State.closeOverheard
  dsimp only
  split <;> simp
@[simp] theorem State.closeOverheard_exu_exchange (s : State) (v : Overheard) : (s.closeOverheard v).exu.exchange = s.exu.exchange := by
  unfold State.closeOverheard
  dsimp only
  split <;> simp
@[simp] theorem State.closeOverheard_exu_seqCounter (s : State) (v : Overheard) : (s.closeOverheard v).exu.seqCounter = s.exu.seqCounter := by
  unfold State.closeOverheard
  dsimp only
  split <;> simp
@[simp] theorem State.closeOverheard_rpu_head (s : State) (v : Overheard) : (s.closeOverheard v).rpu.head = s.rpu.head := by
  unfold State.closeOverheard
  dsimp only
  split <;> simp
@[simp] theorem State.closeOverheard_rpu_resultsWritten (s : State) (v : Overheard) : (s.closeOverheard v).rpu.resultsWritten = s.rpu.resultsWritten := by
  unfold State.closeOverheard
  dsimp only
  split <;> simp
@[simp] theorem State.closeOverheard_rpu_writePath (s : State) (v : Overheard) : (s.closeOverheard v).rpu.writePath = s.rpu.writePath := by
  unfold State.closeOverheard
  dsimp only
  split <;> simp
@[simp] theorem State.closeOverheard_rpu_lastTag (s : State) (v : Overheard) : (s.closeOverheard v).rpu.lastTag = s.rpu.lastTag := by
  unfold State.closeOverheard
  dsimp only
  split <;> simp

/-! ### `openOverheard` -/

@[simp] theorem State.openOverheard_ctl (s : State) (l : LaneId) (q : Request) : (s.openOverheard l q).ctl = s.ctl := by
  unfold State.openOverheard
  split <;> rfl
@[simp] theorem State.openOverheard_xpt (s : State) (l : LaneId) (q : Request) : (s.openOverheard l q).xpt = s.xpt := by
  unfold State.openOverheard
  split <;> rfl
@[simp] theorem State.openOverheard_swe (s : State) (l : LaneId) (q : Request) : (s.openOverheard l q).swe = s.swe := by
  unfold State.openOverheard
  split <;> rfl
@[simp] theorem State.openOverheard_lanes (s : State) (l : LaneId) (q : Request) : (s.openOverheard l q).lanes = s.lanes := by
  unfold State.openOverheard
  split <;> rfl
@[simp] theorem State.openOverheard_msu (s : State) (l : LaneId) (q : Request) : (s.openOverheard l q).msu = s.msu := by
  unfold State.openOverheard
  split <;> rfl
@[simp] theorem State.openOverheard_oru (s : State) (l : LaneId) (q : Request) : (s.openOverheard l q).oru = s.oru := by
  unfold State.openOverheard
  split <;> rfl
@[simp] theorem State.openOverheard_pending (s : State) (l : LaneId) (q : Request) : (s.openOverheard l q).pending = s.pending := by
  unfold State.openOverheard
  split <;> rfl
@[simp] theorem State.openOverheard_exu_exchange (s : State) (l : LaneId) (q : Request) : (s.openOverheard l q).exu.exchange = s.exu.exchange := by
  unfold State.openOverheard
  split <;> rfl
@[simp] theorem State.openOverheard_exu_seqCounter (s : State) (l : LaneId) (q : Request) : (s.openOverheard l q).exu.seqCounter = s.exu.seqCounter := by
  unfold State.openOverheard
  split <;> rfl
@[simp] theorem State.openOverheard_rpu_head (s : State) (l : LaneId) (q : Request) : (s.openOverheard l q).rpu.head = s.rpu.head := by
  unfold State.openOverheard
  split <;> rfl
@[simp] theorem State.openOverheard_rpu_resultsWritten (s : State) (l : LaneId) (q : Request) : (s.openOverheard l q).rpu.resultsWritten = s.rpu.resultsWritten := by
  unfold State.openOverheard
  split <;> rfl
@[simp] theorem State.openOverheard_rpu_writePath (s : State) (l : LaneId) (q : Request) : (s.openOverheard l q).rpu.writePath = s.rpu.writePath := by
  unfold State.openOverheard
  split <;> rfl
@[simp] theorem State.openOverheard_rpu_lastTag (s : State) (l : LaneId) (q : Request) : (s.openOverheard l q).rpu.lastTag = s.rpu.lastTag := by
  unfold State.openOverheard
  split <;> rfl
@[simp] theorem State.openOverheard_stations (s : State) (l : LaneId) (q : Request) : (s.openOverheard l q).stations = s.stations := by
  unfold State.openOverheard
  split <;> rfl
@[simp] theorem State.openOverheard_points (s : State) (l : LaneId) (q : Request) : (s.openOverheard l q).points = s.points := by
  unfold State.openOverheard
  split <;> rfl
@[simp] theorem State.openOverheard_bar (s : State) (l : LaneId) (q : Request) : (s.openOverheard l q).bar = s.bar := by
  unfold State.openOverheard
  split <;> rfl

/-! ### `overhearRequest` -/

@[simp] theorem State.overhearRequest_ctl (s : State) (l : LaneId) (q : Request) : (s.overhearRequest l q).ctl = s.ctl := by
  unfold State.overhearRequest
  split
  · simp
  · split <;> simp
@[simp] theorem State.overhearRequest_xpt (s : State) (l : LaneId) (q : Request) : (s.overhearRequest l q).xpt = s.xpt := by
  unfold State.overhearRequest
  split
  · simp
  · split <;> simp
@[simp] theorem State.overhearRequest_swe (s : State) (l : LaneId) (q : Request) : (s.overhearRequest l q).swe = s.swe := by
  unfold State.overhearRequest
  split
  · simp
  · split <;> simp
@[simp] theorem State.overhearRequest_lanes (s : State) (l : LaneId) (q : Request) : (s.overhearRequest l q).lanes = s.lanes := by
  unfold State.overhearRequest
  split
  · simp
  · split <;> simp
@[simp] theorem State.overhearRequest_msu (s : State) (l : LaneId) (q : Request) : (s.overhearRequest l q).msu = s.msu := by
  unfold State.overhearRequest
  split
  · simp
  · split <;> simp
@[simp] theorem State.overhearRequest_oru (s : State) (l : LaneId) (q : Request) : (s.overhearRequest l q).oru = s.oru := by
  unfold State.overhearRequest
  split
  · simp
  · split <;> simp
@[simp] theorem State.overhearRequest_pending (s : State) (l : LaneId) (q : Request) : (s.overhearRequest l q).pending = s.pending := by
  unfold State.overhearRequest
  split
  · simp
  · split <;> simp
@[simp] theorem State.overhearRequest_exu_exchange (s : State) (l : LaneId) (q : Request) : (s.overhearRequest l q).exu.exchange = s.exu.exchange := by
  unfold State.overhearRequest
  split
  · simp
  · split <;> simp
@[simp] theorem State.overhearRequest_exu_seqCounter (s : State) (l : LaneId) (q : Request) : (s.overhearRequest l q).exu.seqCounter = s.exu.seqCounter := by
  unfold State.overhearRequest
  split
  · simp
  · split <;> simp
@[simp] theorem State.overhearRequest_rpu_head (s : State) (l : LaneId) (q : Request) : (s.overhearRequest l q).rpu.head = s.rpu.head := by
  unfold State.overhearRequest
  split
  · simp
  · split <;> simp
@[simp] theorem State.overhearRequest_rpu_resultsWritten (s : State) (l : LaneId) (q : Request) : (s.overhearRequest l q).rpu.resultsWritten = s.rpu.resultsWritten := by
  unfold State.overhearRequest
  split
  · simp
  · split <;> simp
@[simp] theorem State.overhearRequest_rpu_writePath (s : State) (l : LaneId) (q : Request) : (s.overhearRequest l q).rpu.writePath = s.rpu.writePath := by
  unfold State.overhearRequest
  split
  · simp
  · split <;> simp
@[simp] theorem State.overhearRequest_rpu_lastTag (s : State) (l : LaneId) (q : Request) : (s.overhearRequest l q).rpu.lastTag = s.rpu.lastTag := by
  unfold State.overhearRequest
  split
  · simp
  · split <;> simp

/-! ### `setOverResult` -/

@[simp] theorem State.setOverResult_ctl (s : State) (v : Overheard) (l : LaneId) (k : OverLane) : (s.setOverResult v l k).ctl = s.ctl := by
  unfold State.setOverResult
  dsimp only
  split <;> simp
@[simp] theorem State.setOverResult_xpt (s : State) (v : Overheard) (l : LaneId) (k : OverLane) : (s.setOverResult v l k).xpt = s.xpt := by
  unfold State.setOverResult
  dsimp only
  split <;> simp
@[simp] theorem State.setOverResult_swe (s : State) (v : Overheard) (l : LaneId) (k : OverLane) : (s.setOverResult v l k).swe = s.swe := by
  unfold State.setOverResult
  dsimp only
  split <;> simp
@[simp] theorem State.setOverResult_lanes (s : State) (v : Overheard) (l : LaneId) (k : OverLane) : (s.setOverResult v l k).lanes = s.lanes := by
  unfold State.setOverResult
  dsimp only
  split <;> simp
@[simp] theorem State.setOverResult_msu (s : State) (v : Overheard) (l : LaneId) (k : OverLane) : (s.setOverResult v l k).msu = s.msu := by
  unfold State.setOverResult
  dsimp only
  split <;> simp
@[simp] theorem State.setOverResult_oru (s : State) (v : Overheard) (l : LaneId) (k : OverLane) : (s.setOverResult v l k).oru = s.oru := by
  unfold State.setOverResult
  dsimp only
  split <;> simp
@[simp] theorem State.setOverResult_pending (s : State) (v : Overheard) (l : LaneId) (k : OverLane) : (s.setOverResult v l k).pending = s.pending := by
  unfold State.setOverResult
  dsimp only
  split <;> simp
@[simp] theorem State.setOverResult_exu_exchange (s : State) (v : Overheard) (l : LaneId) (k : OverLane) : (s.setOverResult v l k).exu.exchange = s.exu.exchange := by
  unfold State.setOverResult
  dsimp only
  split <;> simp
@[simp] theorem State.setOverResult_exu_seqCounter (s : State) (v : Overheard) (l : LaneId) (k : OverLane) : (s.setOverResult v l k).exu.seqCounter = s.exu.seqCounter := by
  unfold State.setOverResult
  dsimp only
  split <;> simp
@[simp] theorem State.setOverResult_rpu_head (s : State) (v : Overheard) (l : LaneId) (k : OverLane) : (s.setOverResult v l k).rpu.head = s.rpu.head := by
  unfold State.setOverResult
  dsimp only
  split <;> simp
@[simp] theorem State.setOverResult_rpu_resultsWritten (s : State) (v : Overheard) (l : LaneId) (k : OverLane) : (s.setOverResult v l k).rpu.resultsWritten = s.rpu.resultsWritten := by
  unfold State.setOverResult
  dsimp only
  split <;> simp
@[simp] theorem State.setOverResult_rpu_writePath (s : State) (v : Overheard) (l : LaneId) (k : OverLane) : (s.setOverResult v l k).rpu.writePath = s.rpu.writePath := by
  unfold State.setOverResult
  dsimp only
  split <;> simp
@[simp] theorem State.setOverResult_rpu_lastTag (s : State) (v : Overheard) (l : LaneId) (k : OverLane) : (s.setOverResult v l k).rpu.lastTag = s.rpu.lastTag := by
  unfold State.setOverResult
  dsimp only
  split <;> simp

/-! ### `overhearReply` -/

@[simp] theorem State.overhearReply_ctl (s : State) (l : LaneId) (t : Option Reply) : (s.overhearReply l t).ctl = s.ctl := by
  unfold State.overhearReply
  split
  · rfl
  · split
    · rfl
    · split <;> simp
@[simp] theorem State.overhearReply_xpt (s : State) (l : LaneId) (t : Option Reply) : (s.overhearReply l t).xpt = s.xpt := by
  unfold State.overhearReply
  split
  · rfl
  · split
    · rfl
    · split <;> simp
@[simp] theorem State.overhearReply_swe (s : State) (l : LaneId) (t : Option Reply) : (s.overhearReply l t).swe = s.swe := by
  unfold State.overhearReply
  split
  · rfl
  · split
    · rfl
    · split <;> simp
@[simp] theorem State.overhearReply_lanes (s : State) (l : LaneId) (t : Option Reply) : (s.overhearReply l t).lanes = s.lanes := by
  unfold State.overhearReply
  split
  · rfl
  · split
    · rfl
    · split <;> simp
@[simp] theorem State.overhearReply_msu (s : State) (l : LaneId) (t : Option Reply) : (s.overhearReply l t).msu = s.msu := by
  unfold State.overhearReply
  split
  · rfl
  · split
    · rfl
    · split <;> simp
@[simp] theorem State.overhearReply_oru (s : State) (l : LaneId) (t : Option Reply) : (s.overhearReply l t).oru = s.oru := by
  unfold State.overhearReply
  split
  · rfl
  · split
    · rfl
    · split <;> simp
@[simp] theorem State.overhearReply_pending (s : State) (l : LaneId) (t : Option Reply) : (s.overhearReply l t).pending = s.pending := by
  unfold State.overhearReply
  split
  · rfl
  · split
    · rfl
    · split <;> simp
@[simp] theorem State.overhearReply_exu_exchange (s : State) (l : LaneId) (t : Option Reply) : (s.overhearReply l t).exu.exchange = s.exu.exchange := by
  unfold State.overhearReply
  split
  · rfl
  · split
    · rfl
    · split <;> simp
@[simp] theorem State.overhearReply_exu_seqCounter (s : State) (l : LaneId) (t : Option Reply) : (s.overhearReply l t).exu.seqCounter = s.exu.seqCounter := by
  unfold State.overhearReply
  split
  · rfl
  · split
    · rfl
    · split <;> simp
@[simp] theorem State.overhearReply_rpu_head (s : State) (l : LaneId) (t : Option Reply) : (s.overhearReply l t).rpu.head = s.rpu.head := by
  unfold State.overhearReply
  split
  · rfl
  · split
    · rfl
    · split <;> simp
@[simp] theorem State.overhearReply_rpu_resultsWritten (s : State) (l : LaneId) (t : Option Reply) : (s.overhearReply l t).rpu.resultsWritten = s.rpu.resultsWritten := by
  unfold State.overhearReply
  split
  · rfl
  · split
    · rfl
    · split <;> simp
@[simp] theorem State.overhearReply_rpu_writePath (s : State) (l : LaneId) (t : Option Reply) : (s.overhearReply l t).rpu.writePath = s.rpu.writePath := by
  unfold State.overhearReply
  split
  · rfl
  · split
    · rfl
    · split <;> simp
@[simp] theorem State.overhearReply_rpu_lastTag (s : State) (l : LaneId) (t : Option Reply) : (s.overhearReply l t).rpu.lastTag = s.rpu.lastTag := by
  unfold State.overhearReply
  split
  · rfl
  · split
    · rfl
    · split <;> simp

/-! ### `overhear` -/

@[simp] theorem State.overhear_ctl (s : State) (l : LaneId) (t : Option Telegram) : (s.overhear l t).ctl = s.ctl := by
  unfold State.overhear
  split <;> simp
@[simp] theorem State.overhear_xpt (s : State) (l : LaneId) (t : Option Telegram) : (s.overhear l t).xpt = s.xpt := by
  unfold State.overhear
  split <;> simp
@[simp] theorem State.overhear_swe (s : State) (l : LaneId) (t : Option Telegram) : (s.overhear l t).swe = s.swe := by
  unfold State.overhear
  split <;> simp
@[simp] theorem State.overhear_lanes (s : State) (l : LaneId) (t : Option Telegram) : (s.overhear l t).lanes = s.lanes := by
  unfold State.overhear
  split <;> simp
@[simp] theorem State.overhear_msu (s : State) (l : LaneId) (t : Option Telegram) : (s.overhear l t).msu = s.msu := by
  unfold State.overhear
  split <;> simp
@[simp] theorem State.overhear_oru (s : State) (l : LaneId) (t : Option Telegram) : (s.overhear l t).oru = s.oru := by
  unfold State.overhear
  split <;> simp
@[simp] theorem State.overhear_pending (s : State) (l : LaneId) (t : Option Telegram) : (s.overhear l t).pending = s.pending := by
  unfold State.overhear
  split <;> simp
@[simp] theorem State.overhear_exu_exchange (s : State) (l : LaneId) (t : Option Telegram) : (s.overhear l t).exu.exchange = s.exu.exchange := by
  unfold State.overhear
  split <;> simp
@[simp] theorem State.overhear_exu_seqCounter (s : State) (l : LaneId) (t : Option Telegram) : (s.overhear l t).exu.seqCounter = s.exu.seqCounter := by
  unfold State.overhear
  split <;> simp
@[simp] theorem State.overhear_rpu_head (s : State) (l : LaneId) (t : Option Telegram) : (s.overhear l t).rpu.head = s.rpu.head := by
  unfold State.overhear
  split <;> simp
@[simp] theorem State.overhear_rpu_resultsWritten (s : State) (l : LaneId) (t : Option Telegram) : (s.overhear l t).rpu.resultsWritten = s.rpu.resultsWritten := by
  unfold State.overhear
  split <;> simp
@[simp] theorem State.overhear_rpu_writePath (s : State) (l : LaneId) (t : Option Telegram) : (s.overhear l t).rpu.writePath = s.rpu.writePath := by
  unfold State.overhear
  split <;> simp
@[simp] theorem State.overhear_rpu_lastTag (s : State) (l : LaneId) (t : Option Telegram) : (s.overhear l t).rpu.lastTag = s.rpu.lastTag := by
  unfold State.overhear
  split <;> simp

/-! ### `heard` -/

@[simp] theorem State.heard_ctl (s : State) (l : LaneId) (t : Option Telegram) : (s.heard l t).ctl = s.ctl := by
  unfold State.heard
  split
  · split <;> simp
  · simp
  · rfl
@[simp] theorem State.heard_xpt (s : State) (l : LaneId) (t : Option Telegram) : (s.heard l t).xpt = s.xpt := by
  unfold State.heard
  split
  · split <;> simp
  · simp
  · rfl
@[simp] theorem State.heard_lanes (s : State) (l : LaneId) (t : Option Telegram) : (s.heard l t).lanes = s.lanes := by
  unfold State.heard
  split
  · split <;> simp
  · simp
  · rfl
@[simp] theorem State.heard_pending (s : State) (l : LaneId) (t : Option Telegram) : (s.heard l t).pending = s.pending := by
  unfold State.heard
  split
  · split <;> simp
  · simp
  · rfl
@[simp] theorem State.heard_msu_shift (s : State) (l : LaneId) (t : Option Telegram) : (s.heard l t).msu.shift = s.msu.shift := by
  unfold State.heard
  split
  · split <;> simp
  · simp
  · rfl
@[simp] theorem State.heard_msu_takeoverTimer (s : State) (l : LaneId) (t : Option Telegram) : (s.heard l t).msu.takeoverTimer = s.msu.takeoverTimer := by
  unfold State.heard
  split
  · split <;> simp
  · simp
  · rfl
@[simp] theorem State.heard_msu_offAtClose (s : State) (l : LaneId) (t : Option Telegram) : (s.heard l t).msu.offAtClose = s.msu.offAtClose := by
  unfold State.heard
  split
  · split <;> simp
  · simp
  · rfl
@[simp] theorem State.heard_exu_seqCounter (s : State) (l : LaneId) (t : Option Telegram) : (s.heard l t).exu.seqCounter = s.exu.seqCounter := by
  unfold State.heard
  split
  · split <;> simp
  · simp
  · rfl
@[simp] theorem State.heard_oru_cache (s : State) (l : LaneId) (t : Option Telegram) : (s.heard l t).oru.cache = s.oru.cache := by
  unfold State.heard
  split
  · split <;> simp
  · simp
  · rfl
@[simp] theorem State.heard_swe_active (s : State) (l : LaneId) (t : Option Telegram) : (s.heard l t).swe.active = s.swe.active := by
  unfold State.heard
  split
  · split <;> simp
  · simp
  · rfl
@[simp] theorem State.heard_swe_pendingList (s : State) (l : LaneId) (t : Option Telegram) : (s.heard l t).swe.pendingList = s.swe.pendingList := by
  unfold State.heard
  split
  · split <;> simp
  · simp
  · rfl
@[simp] theorem State.heard_swe_pendingReady (s : State) (l : LaneId) (t : Option Telegram) : (s.heard l t).swe.pendingReady = s.swe.pendingReady := by
  unfold State.heard
  split
  · split <;> simp
  · simp
  · rfl
@[simp] theorem State.heard_rpu_head (s : State) (l : LaneId) (t : Option Telegram) : (s.heard l t).rpu.head = s.rpu.head := by
  unfold State.heard
  split
  · split <;> simp
  · simp
  · rfl
@[simp] theorem State.heard_rpu_resultsWritten (s : State) (l : LaneId) (t : Option Telegram) : (s.heard l t).rpu.resultsWritten = s.rpu.resultsWritten := by
  unfold State.heard
  split
  · split <;> simp
  · simp
  · rfl
@[simp] theorem State.heard_rpu_writePath (s : State) (l : LaneId) (t : Option Telegram) : (s.heard l t).rpu.writePath = s.rpu.writePath := by
  unfold State.heard
  split
  · split <;> simp
  · simp
  · rfl
@[simp] theorem State.heard_rpu_lastTag (s : State) (l : LaneId) (t : Option Telegram) : (s.heard l t).rpu.lastTag = s.rpu.lastTag := by
  unfold State.heard
  split
  · split <;> simp
  · simp
  · rfl

/-! ### `judgeReply` -/

@[simp] theorem State.judgeReply_ctl (s : State) (l : LaneId) (t : Option Telegram) : (s.judgeReply l t).ctl = s.ctl := rfl
@[simp] theorem State.judgeReply_xpt (s : State) (l : LaneId) (t : Option Telegram) : (s.judgeReply l t).xpt = s.xpt := rfl
@[simp] theorem State.judgeReply_stations (s : State) (l : LaneId) (t : Option Telegram) : (s.judgeReply l t).stations = s.stations := rfl
@[simp] theorem State.judgeReply_points (s : State) (l : LaneId) (t : Option Telegram) : (s.judgeReply l t).points = s.points := rfl
@[simp] theorem State.judgeReply_swe (s : State) (l : LaneId) (t : Option Telegram) : (s.judgeReply l t).swe = s.swe := rfl
@[simp] theorem State.judgeReply_lanes (s : State) (l : LaneId) (t : Option Telegram) : (s.judgeReply l t).lanes = s.lanes := rfl
@[simp] theorem State.judgeReply_bar (s : State) (l : LaneId) (t : Option Telegram) : (s.judgeReply l t).bar = s.bar := rfl
@[simp] theorem State.judgeReply_msu (s : State) (l : LaneId) (t : Option Telegram) : (s.judgeReply l t).msu = s.msu := rfl
@[simp] theorem State.judgeReply_oru (s : State) (l : LaneId) (t : Option Telegram) : (s.judgeReply l t).oru = s.oru := rfl
@[simp] theorem State.judgeReply_rpu (s : State) (l : LaneId) (t : Option Telegram) : (s.judgeReply l t).rpu = s.rpu := rfl
@[simp] theorem State.judgeReply_pending (s : State) (l : LaneId) (t : Option Telegram) : (s.judgeReply l t).pending = s.pending := rfl
@[simp] theorem State.judgeReply_exu_seqCounter (s : State) (l : LaneId) (t : Option Telegram) : (s.judgeReply l t).exu.seqCounter = s.exu.seqCounter := rfl
@[simp] theorem State.judgeReply_exu_overheard (s : State) (l : LaneId) (t : Option Telegram) : (s.judgeReply l t).exu.overheard = s.exu.overheard := rfl

/-! ### `telegram` -/

@[simp] theorem State.telegram_ctl (s : State) (l : LaneId) (t : Option Telegram) : (s.telegram l t).ctl = s.ctl := by
  unfold State.telegram
  dsimp only
  split <;> simp
@[simp] theorem State.telegram_xpt (s : State) (l : LaneId) (t : Option Telegram) : (s.telegram l t).xpt = s.xpt := by
  unfold State.telegram
  dsimp only
  split <;> simp
@[simp] theorem State.telegram_pending (s : State) (l : LaneId) (t : Option Telegram) : (s.telegram l t).pending = s.pending := by
  unfold State.telegram
  dsimp only
  split <;> simp
@[simp] theorem State.telegram_msu_shift (s : State) (l : LaneId) (t : Option Telegram) : (s.telegram l t).msu.shift = s.msu.shift := by
  unfold State.telegram
  dsimp only
  split <;> simp
@[simp] theorem State.telegram_msu_takeoverTimer (s : State) (l : LaneId) (t : Option Telegram) : (s.telegram l t).msu.takeoverTimer = s.msu.takeoverTimer := by
  unfold State.telegram
  dsimp only
  split <;> simp
@[simp] theorem State.telegram_exu_seqCounter (s : State) (l : LaneId) (t : Option Telegram) : (s.telegram l t).exu.seqCounter = s.exu.seqCounter := by
  unfold State.telegram
  dsimp only
  split <;> simp
@[simp] theorem State.telegram_oru_cache (s : State) (l : LaneId) (t : Option Telegram) : (s.telegram l t).oru.cache = s.oru.cache := by
  unfold State.telegram
  dsimp only
  split <;> simp
@[simp] theorem State.telegram_swe_active (s : State) (l : LaneId) (t : Option Telegram) : (s.telegram l t).swe.active = s.swe.active := by
  unfold State.telegram
  dsimp only
  split <;> simp
@[simp] theorem State.telegram_swe_pendingList (s : State) (l : LaneId) (t : Option Telegram) : (s.telegram l t).swe.pendingList = s.swe.pendingList := by
  unfold State.telegram
  dsimp only
  split <;> simp
@[simp] theorem State.telegram_swe_pendingReady (s : State) (l : LaneId) (t : Option Telegram) : (s.telegram l t).swe.pendingReady = s.swe.pendingReady := by
  unfold State.telegram
  dsimp only
  split <;> simp
@[simp] theorem State.telegram_rpu_head (s : State) (l : LaneId) (t : Option Telegram) : (s.telegram l t).rpu.head = s.rpu.head := by
  unfold State.telegram
  dsimp only
  split <;> simp
@[simp] theorem State.telegram_rpu_resultsWritten (s : State) (l : LaneId) (t : Option Telegram) : (s.telegram l t).rpu.resultsWritten = s.rpu.resultsWritten := by
  unfold State.telegram
  dsimp only
  split <;> simp
@[simp] theorem State.telegram_rpu_writePath (s : State) (l : LaneId) (t : Option Telegram) : (s.telegram l t).rpu.writePath = s.rpu.writePath := by
  unfold State.telegram
  dsimp only
  split <;> simp
@[simp] theorem State.telegram_rpu_lastTag (s : State) (l : LaneId) (t : Option Telegram) : (s.telegram l t).rpu.lastTag = s.rpu.lastTag := by
  unfold State.telegram
  dsimp only
  split <;> simp

/-! ### `openEntry` -/

@[simp] theorem State.openEntry_ctl (s : State) (i : Nat) (e : BusEntry) (x : Exchange) : (s.openEntry i e x).ctl = s.ctl := rfl
@[simp] theorem State.openEntry_xpt (s : State) (i : Nat) (e : BusEntry) (x : Exchange) : (s.openEntry i e x).xpt = s.xpt := rfl
@[simp] theorem State.openEntry_stations (s : State) (i : Nat) (e : BusEntry) (x : Exchange) : (s.openEntry i e x).stations = s.stations := rfl
@[simp] theorem State.openEntry_points (s : State) (i : Nat) (e : BusEntry) (x : Exchange) : (s.openEntry i e x).points = s.points := rfl
@[simp] theorem State.openEntry_pending (s : State) (i : Nat) (e : BusEntry) (x : Exchange) : (s.openEntry i e x).pending = s.pending := rfl
@[simp] theorem State.openEntry_exu_overheard (s : State) (i : Nat) (e : BusEntry) (x : Exchange) : (s.openEntry i e x).exu.overheard = s.exu.overheard := rfl
@[simp] theorem State.openEntry_oru_cache (s : State) (i : Nat) (e : BusEntry) (x : Exchange) : (s.openEntry i e x).oru.cache = s.oru.cache := rfl
@[simp] theorem State.openEntry_swe_active (s : State) (i : Nat) (e : BusEntry) (x : Exchange) : (s.openEntry i e x).swe.active = s.swe.active := rfl
@[simp] theorem State.openEntry_swe_pendingList (s : State) (i : Nat) (e : BusEntry) (x : Exchange) : (s.openEntry i e x).swe.pendingList = s.swe.pendingList := rfl
@[simp] theorem State.openEntry_swe_pendingReady (s : State) (i : Nat) (e : BusEntry) (x : Exchange) : (s.openEntry i e x).swe.pendingReady = s.swe.pendingReady := rfl
@[simp] theorem State.openEntry_msu_role (s : State) (i : Nat) (e : BusEntry) (x : Exchange) : (s.openEntry i e x).msu.role = s.msu.role := rfl
@[simp] theorem State.openEntry_msu_shift (s : State) (i : Nat) (e : BusEntry) (x : Exchange) : (s.openEntry i e x).msu.shift = s.msu.shift := rfl
@[simp] theorem State.openEntry_msu_offAtClose (s : State) (i : Nat) (e : BusEntry) (x : Exchange) : (s.openEntry i e x).msu.offAtClose = s.msu.offAtClose := rfl
@[simp] theorem State.openEntry_rpu_head (s : State) (i : Nat) (e : BusEntry) (x : Exchange) : (s.openEntry i e x).rpu.head = s.rpu.head := rfl
@[simp] theorem State.openEntry_rpu_resultsWritten (s : State) (i : Nat) (e : BusEntry) (x : Exchange) : (s.openEntry i e x).rpu.resultsWritten = s.rpu.resultsWritten := rfl
@[simp] theorem State.openEntry_rpu_writePath (s : State) (i : Nat) (e : BusEntry) (x : Exchange) : (s.openEntry i e x).rpu.writePath = s.rpu.writePath := rfl
@[simp] theorem State.openEntry_rpu_lastTag (s : State) (i : Nat) (e : BusEntry) (x : Exchange) : (s.openEntry i e x).rpu.lastTag = s.rpu.lastTag := rfl
@[simp] theorem State.openEntry_oru_hand (s : State) (i : Nat) (e : BusEntry) (x : Exchange) : (s.openEntry i e x).oru.hand = s.oru.hand := rfl
@[simp] theorem State.openEntry_oru_completion (s : State) (i : Nat) (e : BusEntry) (x : Exchange) : (s.openEntry i e x).oru.completion = s.oru.completion := rfl
@[simp] theorem State.openEntry_swe (s : State) (i : Nat) (e : BusEntry) (x : Exchange) : (s.openEntry i e x).swe = s.swe := rfl

/-! ### `grantEntry` -/

@[simp] theorem State.grantEntry_ctl (s : State) (i : Nat) : (s.grantEntry i).ctl = s.ctl := by
  unfold State.grantEntry
  split
  · rfl
  · split
    · simp
    · split
      · rfl
      · split
        · simp
        · split <;> simp
@[simp] theorem State.grantEntry_xpt (s : State) (i : Nat) : (s.grantEntry i).xpt = s.xpt := by
  unfold State.grantEntry
  split
  · rfl
  · split
    · simp
    · split
      · rfl
      · split
        · simp
        · split <;> simp
@[simp] theorem State.grantEntry_stations (s : State) (i : Nat) : (s.grantEntry i).stations = s.stations := by
  unfold State.grantEntry
  split
  · rfl
  · split
    · simp
    · split
      · rfl
      · split
        · simp
        · split <;> simp
@[simp] theorem State.grantEntry_points (s : State) (i : Nat) : (s.grantEntry i).points = s.points := by
  unfold State.grantEntry
  split
  · rfl
  · split
    · simp
    · split
      · rfl
      · split
        · simp
        · split <;> simp
@[simp] theorem State.grantEntry_pending (s : State) (i : Nat) : (s.grantEntry i).pending = s.pending := by
  unfold State.grantEntry
  split
  · rfl
  · split
    · simp
    · split
      · rfl
      · split
        · simp
        · split <;> simp
@[simp] theorem State.grantEntry_exu_overheard (s : State) (i : Nat) : (s.grantEntry i).exu.overheard = s.exu.overheard := by
  unfold State.grantEntry
  split
  · rfl
  · split
    · simp
    · split
      · rfl
      · split
        · simp
        · split <;> simp
@[simp] theorem State.grantEntry_oru_cache (s : State) (i : Nat) : (s.grantEntry i).oru.cache = s.oru.cache := by
  unfold State.grantEntry
  split
  · rfl
  · split
    · simp
    · split
      · rfl
      · split
        · simp
        · split <;> simp
@[simp] theorem State.grantEntry_swe_active (s : State) (i : Nat) : (s.grantEntry i).swe.active = s.swe.active := by
  unfold State.grantEntry
  split
  · rfl
  · split
    · simp
    · split
      · rfl
      · split
        · simp
        · split <;> simp
@[simp] theorem State.grantEntry_swe_pendingList (s : State) (i : Nat) : (s.grantEntry i).swe.pendingList = s.swe.pendingList := by
  unfold State.grantEntry
  split
  · rfl
  · split
    · simp
    · split
      · rfl
      · split
        · simp
        · split <;> simp
@[simp] theorem State.grantEntry_swe_pendingReady (s : State) (i : Nat) : (s.grantEntry i).swe.pendingReady = s.swe.pendingReady := by
  unfold State.grantEntry
  split
  · rfl
  · split
    · simp
    · split
      · rfl
      · split
        · simp
        · split <;> simp
@[simp] theorem State.grantEntry_msu_role (s : State) (i : Nat) : (s.grantEntry i).msu.role = s.msu.role := by
  unfold State.grantEntry
  split
  · rfl
  · split
    · simp
    · split
      · rfl
      · split
        · simp
        · split <;> simp
@[simp] theorem State.grantEntry_msu_shift (s : State) (i : Nat) : (s.grantEntry i).msu.shift = s.msu.shift := by
  unfold State.grantEntry
  split
  · rfl
  · split
    · simp
    · split
      · rfl
      · split
        · simp
        · split <;> simp
@[simp] theorem State.grantEntry_msu_offAtClose (s : State) (i : Nat) : (s.grantEntry i).msu.offAtClose = s.msu.offAtClose := by
  unfold State.grantEntry
  split
  · rfl
  · split
    · simp
    · split
      · rfl
      · split
        · simp
        · split <;> simp
@[simp] theorem State.grantEntry_rpu_head (s : State) (i : Nat) : (s.grantEntry i).rpu.head = s.rpu.head := by
  unfold State.grantEntry
  split
  · rfl
  · split
    · simp
    · split
      · rfl
      · split
        · simp
        · split <;> simp
@[simp] theorem State.grantEntry_rpu_resultsWritten (s : State) (i : Nat) : (s.grantEntry i).rpu.resultsWritten = s.rpu.resultsWritten := by
  unfold State.grantEntry
  split
  · rfl
  · split
    · simp
    · split
      · rfl
      · split
        · simp
        · split <;> simp
@[simp] theorem State.grantEntry_rpu_writePath (s : State) (i : Nat) : (s.grantEntry i).rpu.writePath = s.rpu.writePath := by
  unfold State.grantEntry
  split
  · rfl
  · split
    · simp
    · split
      · rfl
      · split
        · simp
        · split <;> simp
@[simp] theorem State.grantEntry_rpu_lastTag (s : State) (i : Nat) : (s.grantEntry i).rpu.lastTag = s.rpu.lastTag := by
  unfold State.grantEntry
  split
  · rfl
  · split
    · simp
    · split
      · rfl
      · split
        · simp
        · split <;> simp

/-! ### `grantSweep` -/

@[simp] theorem State.grantSweep_ctl (s : State) (a : Nat) : (s.grantSweep a).ctl = s.ctl := by
  unfold State.grantSweep
  split
  · simp
  · split <;> simp
@[simp] theorem State.grantSweep_xpt (s : State) (a : Nat) : (s.grantSweep a).xpt = s.xpt := by
  unfold State.grantSweep
  split
  · simp
  · split <;> simp
@[simp] theorem State.grantSweep_stations (s : State) (a : Nat) : (s.grantSweep a).stations = s.stations := by
  unfold State.grantSweep
  split
  · simp
  · split <;> simp
@[simp] theorem State.grantSweep_points (s : State) (a : Nat) : (s.grantSweep a).points = s.points := by
  unfold State.grantSweep
  split
  · simp
  · split <;> simp
@[simp] theorem State.grantSweep_pending (s : State) (a : Nat) : (s.grantSweep a).pending = s.pending := by
  unfold State.grantSweep
  split
  · simp
  · split <;> simp
@[simp] theorem State.grantSweep_exu_overheard (s : State) (a : Nat) : (s.grantSweep a).exu.overheard = s.exu.overheard := by
  unfold State.grantSweep
  split
  · simp
  · split <;> simp
@[simp] theorem State.grantSweep_oru_cache (s : State) (a : Nat) : (s.grantSweep a).oru.cache = s.oru.cache := by
  unfold State.grantSweep
  split
  · simp
  · split <;> simp
@[simp] theorem State.grantSweep_swe_active (s : State) (a : Nat) : (s.grantSweep a).swe.active = s.swe.active := by
  unfold State.grantSweep
  split
  · simp
  · split <;> simp
@[simp] theorem State.grantSweep_swe_pendingList (s : State) (a : Nat) : (s.grantSweep a).swe.pendingList = s.swe.pendingList := by
  unfold State.grantSweep
  split
  · simp
  · split <;> simp
@[simp] theorem State.grantSweep_swe_pendingReady (s : State) (a : Nat) : (s.grantSweep a).swe.pendingReady = s.swe.pendingReady := by
  unfold State.grantSweep
  split
  · simp
  · split <;> simp
@[simp] theorem State.grantSweep_msu_role (s : State) (a : Nat) : (s.grantSweep a).msu.role = s.msu.role := by
  unfold State.grantSweep
  split
  · simp
  · split <;> simp
@[simp] theorem State.grantSweep_msu_shift (s : State) (a : Nat) : (s.grantSweep a).msu.shift = s.msu.shift := by
  unfold State.grantSweep
  split
  · simp
  · split <;> simp
@[simp] theorem State.grantSweep_msu_offAtClose (s : State) (a : Nat) : (s.grantSweep a).msu.offAtClose = s.msu.offAtClose := by
  unfold State.grantSweep
  split
  · simp
  · split <;> simp
@[simp] theorem State.grantSweep_rpu_head (s : State) (a : Nat) : (s.grantSweep a).rpu.head = s.rpu.head := by
  unfold State.grantSweep
  split
  · simp
  · split <;> simp
@[simp] theorem State.grantSweep_rpu_resultsWritten (s : State) (a : Nat) : (s.grantSweep a).rpu.resultsWritten = s.rpu.resultsWritten := by
  unfold State.grantSweep
  split
  · simp
  · split <;> simp
@[simp] theorem State.grantSweep_rpu_writePath (s : State) (a : Nat) : (s.grantSweep a).rpu.writePath = s.rpu.writePath := by
  unfold State.grantSweep
  split
  · simp
  · split <;> simp
@[simp] theorem State.grantSweep_rpu_lastTag (s : State) (a : Nat) : (s.grantSweep a).rpu.lastTag = s.rpu.lastTag := by
  unfold State.grantSweep
  split
  · simp
  · split <;> simp

/-! ### `grantMark` -/

@[simp] theorem State.grantMark_ctl (s : State) : (s.grantMark).ctl = s.ctl := by
  unfold State.grantMark
  simp
@[simp] theorem State.grantMark_xpt (s : State) : (s.grantMark).xpt = s.xpt := by
  unfold State.grantMark
  simp
@[simp] theorem State.grantMark_stations (s : State) : (s.grantMark).stations = s.stations := by
  unfold State.grantMark
  simp
@[simp] theorem State.grantMark_points (s : State) : (s.grantMark).points = s.points := by
  unfold State.grantMark
  simp
@[simp] theorem State.grantMark_pending (s : State) : (s.grantMark).pending = s.pending := by
  unfold State.grantMark
  simp
@[simp] theorem State.grantMark_exu_overheard (s : State) : (s.grantMark).exu.overheard = s.exu.overheard := by
  unfold State.grantMark
  simp
@[simp] theorem State.grantMark_oru_cache (s : State) : (s.grantMark).oru.cache = s.oru.cache := by
  unfold State.grantMark
  simp
@[simp] theorem State.grantMark_swe_active (s : State) : (s.grantMark).swe.active = s.swe.active := by
  unfold State.grantMark
  simp
@[simp] theorem State.grantMark_swe_pendingList (s : State) : (s.grantMark).swe.pendingList = s.swe.pendingList := by
  unfold State.grantMark
  simp
@[simp] theorem State.grantMark_swe_pendingReady (s : State) : (s.grantMark).swe.pendingReady = s.swe.pendingReady := by
  unfold State.grantMark
  simp
@[simp] theorem State.grantMark_msu_role (s : State) : (s.grantMark).msu.role = s.msu.role := by
  unfold State.grantMark
  simp
@[simp] theorem State.grantMark_msu_shift (s : State) : (s.grantMark).msu.shift = s.msu.shift := by
  unfold State.grantMark
  simp
@[simp] theorem State.grantMark_msu_offAtClose (s : State) : (s.grantMark).msu.offAtClose = s.msu.offAtClose := by
  unfold State.grantMark
  simp
@[simp] theorem State.grantMark_rpu_head (s : State) : (s.grantMark).rpu.head = s.rpu.head := by
  unfold State.grantMark
  simp
@[simp] theorem State.grantMark_rpu_resultsWritten (s : State) : (s.grantMark).rpu.resultsWritten = s.rpu.resultsWritten := by
  unfold State.grantMark
  simp
@[simp] theorem State.grantMark_rpu_writePath (s : State) : (s.grantMark).rpu.writePath = s.rpu.writePath := by
  unfold State.grantMark
  simp
@[simp] theorem State.grantMark_rpu_lastTag (s : State) : (s.grantMark).rpu.lastTag = s.rpu.lastTag := by
  unfold State.grantMark
  simp

/-! ### `grant` -/

@[simp] theorem State.grant_ctl (s : State) (g : Grant) : (s.grant g).ctl = s.ctl := by
  unfold State.grant
  split <;> simp
@[simp] theorem State.grant_xpt (s : State) (g : Grant) : (s.grant g).xpt = s.xpt := by
  unfold State.grant
  split <;> simp
@[simp] theorem State.grant_stations (s : State) (g : Grant) : (s.grant g).stations = s.stations := by
  unfold State.grant
  split <;> simp
@[simp] theorem State.grant_points (s : State) (g : Grant) : (s.grant g).points = s.points := by
  unfold State.grant
  split <;> simp
@[simp] theorem State.grant_pending (s : State) (g : Grant) : (s.grant g).pending = s.pending := by
  unfold State.grant
  split <;> simp
@[simp] theorem State.grant_exu_overheard (s : State) (g : Grant) : (s.grant g).exu.overheard = s.exu.overheard := by
  unfold State.grant
  split <;> simp
@[simp] theorem State.grant_oru_cache (s : State) (g : Grant) : (s.grant g).oru.cache = s.oru.cache := by
  unfold State.grant
  split <;> simp
@[simp] theorem State.grant_swe_active (s : State) (g : Grant) : (s.grant g).swe.active = s.swe.active := by
  unfold State.grant
  split <;> simp
@[simp] theorem State.grant_swe_pendingList (s : State) (g : Grant) : (s.grant g).swe.pendingList = s.swe.pendingList := by
  unfold State.grant
  split <;> simp
@[simp] theorem State.grant_swe_pendingReady (s : State) (g : Grant) : (s.grant g).swe.pendingReady = s.swe.pendingReady := by
  unfold State.grant
  split <;> simp
@[simp] theorem State.grant_msu_role (s : State) (g : Grant) : (s.grant g).msu.role = s.msu.role := by
  unfold State.grant
  split <;> simp
@[simp] theorem State.grant_msu_shift (s : State) (g : Grant) : (s.grant g).msu.shift = s.msu.shift := by
  unfold State.grant
  split <;> simp
@[simp] theorem State.grant_msu_offAtClose (s : State) (g : Grant) : (s.grant g).msu.offAtClose = s.msu.offAtClose := by
  unfold State.grant
  split <;> simp
@[simp] theorem State.grant_rpu_head (s : State) (g : Grant) : (s.grant g).rpu.head = s.rpu.head := by
  unfold State.grant
  split <;> simp
@[simp] theorem State.grant_rpu_resultsWritten (s : State) (g : Grant) : (s.grant g).rpu.resultsWritten = s.rpu.resultsWritten := by
  unfold State.grant
  split <;> simp
@[simp] theorem State.grant_rpu_writePath (s : State) (g : Grant) : (s.grant g).rpu.writePath = s.rpu.writePath := by
  unfold State.grant
  split <;> simp
@[simp] theorem State.grant_rpu_lastTag (s : State) (g : Grant) : (s.grant g).rpu.lastTag = s.rpu.lastTag := by
  unfold State.grant
  split <;> simp

end Sys2Proof.Machine
end

