-- ==== Sys2Proof/Laws/Staging.lean ====
section
/-! SUPPORT. Every shared operation keeps Result Staging, with the places reserved, within its six places (R103, R165). -/

namespace Sys2Proof.Machine

/-- A state that differs in neither Staging nor the reservation is as roomy. -/
theorem State.Roomy.of_eq {s t : State} (h : s.Roomy) (hs : t.rpu.staging = s.rpu.staging)
    (hb : t.bar.reserved = s.bar.reserved) : t.Roomy := by
  unfold State.Roomy at *
  rw [hs, hb]
  exact h

/-- A state with the same Staging and no reservation is roomy. -/
theorem State.Roomy.released {s t : State} (h : s.Roomy) (hs : t.rpu.staging = s.rpu.staging)
    (hb : t.bar.reserved = 0) : t.Roomy := by
  unfold State.Roomy at *
  rw [hs, hb]
  omega

@[simp] theorem State.setEvent_roomy (s : State) (e : Event) : (s.setEvent e).Roomy ↔ s.Roomy := by
  simp [State.Roomy]

@[simp] theorem State.settle_roomy (s : State) : s.settle.Roomy ↔ s.Roomy := by simp [State.Roomy]

@[simp] theorem State.noteChange_roomy (s : State) : s.noteChange.Roomy ↔ s.Roomy := by simp [State.Roomy]

/-! ### Results of the open exchange take the places reserved for it -/

theorem State.stageReserved_roomy {s : State} (r : Result) (h : s.Roomy) (hr : 0 < s.bar.reserved) :
    (s.stageReserved r).Roomy ∧ (s.stageReserved r).bar.reserved = s.bar.reserved - 1 := by
  unfold State.Roomy State.stageReserved at *
  refine ⟨?_, rfl⟩
  simp
  omega

theorem State.markHealth_roomy {s : State} (old new : StationRecord) (h : s.Roomy) : (s.markHealth old new).Roomy :=
  h.of_eq (by simp) (by simp)

/-- An outcome of an own exchange takes at most one reserved place for its STATION result. -/
theorem State.changeRecord_roomy {s : State} (old new : StationRecord) (i : Option (Byte × Nat)) (h : s.Roomy)
    (hr : 0 < s.bar.reserved) :
    (s.changeRecord old new i false).Roomy ∧
      s.bar.reserved - 1 ≤ (s.changeRecord old new i false).bar.reserved := by
  unfold State.changeRecord
  dsimp only
  split
  · rw [if_neg (by decide)]
    have k := State.stageReserved_roomy (s := (s.updateStation old.address (fun _ => new)).markHealth old new)
      (.station (stationResult old new i false)) (h.of_eq (by simp) (by simp)) (by simpa using hr)
    refine ⟨k.1, ?_⟩
    rw [k.2]
    simp
  · exact ⟨h.of_eq (by simp) (by simp), by simp⟩

/-- An outcome of an own exchange takes at most one reserved place for its CHANGE result. -/
theorem State.stageChanges_roomy {s : State} (a : Nat) (c : List Change) (h : s.Roomy) (hr : 0 < s.bar.reserved) :
    (s.stageChanges a false c).Roomy := by
  unfold State.stageChanges
  split
  · exact h
  · exact (State.stageReserved_roomy _ h hr).1

theorem State.conditionReply_roomy {s : State} (r : StationRecord) (v : List (Nat × Word)) (h : s.Roomy)
    (hr : 0 < s.bar.reserved) : (s.conditionReply r false v).1.Roomy :=
  State.stageChanges_roomy (s := { s with points := _ }) _ _ h hr

/-- A learned CHANGE result is staged only into a free place. -/
theorem State.stageChanges_learned_roomy {s : State} (a : Nat) (c : List Change) (h : s.Roomy) :
    (s.stageChanges a true c).Roomy := by
  unfold State.stageChanges
  split
  · exact h
  · dsimp only
    rw [if_pos rfl]
    split
    · rename_i hp
      exact State.stage_roomy _ hp
    · exact h

/-- A learned outcome stages its STATION result into the place that the learning gate has found free. -/
theorem State.changeRecord_learned_roomy {s : State} (old new : StationRecord) (i : Option (Byte × Nat)) (h : s.Roomy)
    (hf : s.hosting = true → 0 < s.freePlaces) : (s.changeRecord old new i true).Roomy := by
  unfold State.changeRecord
  dsimp only
  split
  · rename_i hc
    rw [if_pos rfl]
    apply State.stage_roomy
    have hh : s.hosting = true := by
      have := (Bool.and_eq_true _ _).mp hc
      simpa [State.hosting, State.running, State.draining] using this.2
    have := hf hh
    rw [State.freePlaces_pos] at this ⊢
    simpa using this
  · exact h.of_eq (by simp) (by simp)

/-- The outcome of an exchange, with two places reserved, fits. -/
theorem State.deliver_roomy {s : State} (x : Exchange) (o : ExchangeOutcome) (h : s.Roomy) (hr : s.bar.reserved = 2) :
    (s.deliver x o).1.Roomy := by
  unfold State.deliver
  split
  · exact h
  · exact h
  · exact h
  · exact (State.changeRecord_roomy _ _ _ h (by omega)).1
  · rename_i r q _
    split
    · exact (State.changeRecord_roomy _ _ _ h (by omega)).1
    · have k := State.changeRecord_roomy r ((r.answered q.condition).advance x q) none h (by omega)
      dsimp only
      split
      · exact State.conditionReply_roomy _ _ k.1 (by omega)
      · exact k.1
      · exact k.1
    · have k := State.changeRecord_roomy r (r.answered q.condition) none h (by omega)
      dsimp only
      split
      · exact State.conditionReply_roomy _ _ k.1 (by omega)
      · exact k.1
      · exact k.1
    · exact h
    · exact h

/-- A closed exchange leaves Staging within its places, with none reserved. -/
theorem State.closeExchange_roomy {s : State} (x : Exchange) (o : ExchangeOutcome) (h : s.Roomy)
    (hr : s.bar.reserved = 2) : (s.closeExchange x o).Roomy := by
  have k := State.deliver_roomy x o h hr
  unfold State.closeExchange
  dsimp only
  have rel : State.Roomy { (s.deliver x o).1 with exu.exchange := none, bar.reserved := 0 } :=
    k.released rfl rfl
  split
  · exact rel.of_eq (by simp) (by simp)
  · have := State.sweepPollClosed_roomy (s := { (s.deliver x o).1 with exu.exchange := none, bar.reserved := 0 })
      o.isMiss rel
    exact this.of_eq (by simp) (by simp)
  · exact rel.of_eq (by simp) (by simp)

/-! ### Attempts, lanes and grants -/

theorem State.blame_roomy {s : State} (l : LaneId) (h : s.Roomy) : (s.blame l).Roomy := by
  unfold State.blame
  dsimp only
  split
  · simpa [State.Roomy] using h
  · simpa [State.Roomy] using h

theorem State.credit_roomy {s : State} (l : LaneId) (h : s.Roomy) : (s.credit l).Roomy := by
  unfold State.credit
  split <;> simpa [State.Roomy] using h

theorem State.laneOutcome_roomy {s : State} (l : LaneId) (o : Option LaneOutcome) (h : s.Roomy) :
    (s.laneOutcome l o).Roomy := by
  unfold State.laneOutcome
  split
  · exact h
  · exact State.credit_roomy _ h
  · exact h
  · exact h

theorem State.attribute_roomy {s : State} (x : Exchange) (v : Verdict) (h : s.Roomy) : (s.attribute x v).Roomy := by
  unfold State.attribute
  split
  · split
    · split
      · exact State.blame_roomy _ h
      · exact h
    · split
      · exact h
      · exact h
  · split
    · split
      · dsimp only
        split
        · exact (State.blame_roomy (otherLane _) h).of_eq rfl rfl
        · exact State.blame_roomy _ h
      · exact h
    · exact h
  · split
    · exact State.blame_roomy _ h
    · exact h
  · split
    · exact State.blame_roomy _ h
    · exact h

/-- After an attempt the exchange goes on with its reservation, or is closed with none. -/
theorem State.weighAttempt_roomy {s : State} (x : Exchange) (h : s.Roomy) (hr : s.bar.reserved = 2) :
    (s.weighAttempt x).Roomy ∧
      ((s.weighAttempt x).exu.exchange.isSome → (s.weighAttempt x).bar.reserved = 2) := by
  have k : ∀ v, (((s.laneOutcome .a x.partA.outcome?).laneOutcome .b x.partB.outcome?).attribute x v).Roomy :=
    fun v => State.attribute_roomy _ _ (State.laneOutcome_roomy _ _ (State.laneOutcome_roomy _ _ h))
  unfold State.weighAttempt
  dsimp only
  split
  · exact ⟨State.closeExchange_roomy _ _ (k _) (by simpa using hr), by simp⟩
  · split
    · exact ⟨(k _).of_eq rfl rfl, fun _ => by simpa using hr⟩
    · exact ⟨State.closeExchange_roomy _ _ (k _) (by simpa using hr), by simp⟩

theorem State.attemptEnd_roomy {s : State} (x : Exchange) (h : s.Roomy) (hr : s.bar.reserved = 2) :
    (s.attemptEnd x).Roomy ∧ ((s.attemptEnd x).exu.exchange.isSome → (s.attemptEnd x).bar.reserved = 2) := by
  unfold State.attemptEnd
  split
  · exact ⟨State.closeExchange_roomy _ _ h hr, by simp⟩
  · exact ⟨State.closeExchange_roomy _ _ h hr, by simp⟩
  · exact State.weighAttempt_roomy x h hr
  · exact State.weighAttempt_roomy x h hr
  · exact State.weighAttempt_roomy x h hr

theorem State.checkAttempt_roomy {s : State} (h : s.Roomy) (hr : s.exu.exchange.isSome → s.bar.reserved = 2) :
    s.checkAttempt.Roomy ∧ (s.checkAttempt.exu.exchange.isSome → s.checkAttempt.bar.reserved = 2) := by
  unfold State.checkAttempt
  split
  · exact ⟨h, hr⟩
  · rename_i x hx
    split
    · exact State.attemptEnd_roomy x h (hr (by simp [hx]))
    · exact ⟨h, hr⟩

/-- An exchange opens with two of at least three free places reserved (R102, R103). -/
theorem State.openExchange_roomy {s : State} (x : Exchange) (p : Bool) (h : 3 ≤ s.freePlaces)
    (h0 : s.bar.reserved = 0) : (s.openExchange x p).Roomy ∧ (s.openExchange x p).bar.reserved = 2 := by
  refine ⟨?_, rfl⟩
  unfold State.freePlaces at h
  show s.rpu.staging.length + 2 ≤ 6
  have : Config.stagingResults = 6 := rfl
  omega

/-! ### Mastership, orders and overhearing -/

theorem State.stageRole_roomy {s : State} (d : RoleChange) (h : 0 < s.freePlaces) : (s.stageRole d).Roomy :=
  State.stage_roomy _ h

theorem State.enterActive_roomy {s : State} (reason : RoleReason) (h : s.Roomy) : (s.enterActive reason).Roomy := by
  unfold State.enterActive
  dsimp only
  split
  · rename_i hp
    exact State.stageRole_roomy _ hp.1
  · exact h

theorem State.leaveActive_roomy {s : State} (reason : RoleReason) (tag : Option (BitVec 1)) (h : s.Roomy) :
    (s.leaveActive reason tag).Roomy := by
  have key : ∀ t : State, t.Roomy → (if t.running then t.endNotActive else t).Roomy := fun t ht => by
    split
    · exact ht.of_eq (by simp) (by simp)
    · exact ht
  unfold State.leaveActive
  apply key
  apply State.stopSweep_roomy
  exact h

theorem State.hostAttention_roomy {s : State} (h : s.Roomy) : s.hostAttention.Roomy := by
  unfold State.hostAttention
  split
  · exact h
  · rw [State.setEvent_roomy]; exact h
  · apply State.leaveActive_roomy
    rw [State.setEvent_roomy]; exact h

theorem State.contest_roomy {s : State} (tag : BitVec 1) (h : s.Roomy) : (s.contest tag).Roomy := by
  have k : (State.setEvent .role { s with msu.contestCount := s.msu.contestCount + 1 }).Roomy := by
    rw [State.setEvent_roomy]; exact h
  unfold State.contest
  dsimp only
  split
  · exact State.leaveActive_roomy _ _ k
  · exact k

theorem State.carryOutClaim_roomy {s : State} (o : Order) (h : s.Roomy) : (s.carryOutClaim o).Roomy := by
  unfold State.carryOutClaim
  dsimp only
  have k : State.Roomy (State.enterActive .claimed { s with msu.shift := 0 }) := State.enterActive_roomy _ h
  split
  · exact k
  · exact k

theorem State.endWindDown_roomy {s : State} (h : s.Roomy) : s.endWindDown.Roomy := by
  unfold State.endWindDown
  dsimp only
  split
  · split
    · exact State.carryOutClaim_roomy _ h
    · exact h
  · exact h

theorem State.applyHeld_roomy {s : State} (o : Order) (h : s.Roomy) : (s.applyHeld o).Roomy := by
  unfold State.applyHeld
  split
  · exact State.retireStation_roomy _ h
  · split
    · exact h.of_eq (by simp [State.answer, State.completeHand, State.clearHeld, State.updateStation])
        (by simp [State.answer, State.completeHand, State.clearHeld, State.updateStation])
    · exact h

theorem State.holdOrApply_roomy {s : State} (o : Order) (h : s.Roomy) : (s.holdOrApply o).Roomy := by
  unfold State.holdOrApply
  dsimp only
  split
  · exact State.applyHeld_roomy _ (State.holdStation_roomy _ h)
  · exact State.holdStation_roomy _ h

theorem State.overheardPair_roomy {s : State} (q : Request) (r : Reply) (h : s.Roomy) : (s.overheardPair q r).Roomy := by
  unfold State.overheardPair
  split
  · exact h
  · split
    · rename_i rec _ hl
      apply State.stageChanges_learned_roomy
      have k := State.changeRecord_learned_roomy (s := s) rec (rec.answered r.condition) none h (by
        intro hh
        simp only [State.learns, hh, Bool.not_true, Bool.false_or, Bool.and_eq_true, decide_eq_true_eq] at hl
        exact hl.2)
      exact k
    · exact h

theorem State.closeOverheard_roomy {s : State} (v : Overheard) (h : s.Roomy) : (s.closeOverheard v).Roomy := by
  unfold State.closeOverheard
  dsimp only
  split
  · exact State.overheardPair_roomy _ _ h
  · exact h

theorem State.openOverheard_roomy {s : State} (l : LaneId) (q : Request) (h : s.Roomy) : (s.openOverheard l q).Roomy := by
  unfold State.openOverheard
  split <;> exact h

theorem State.setOverResult_roomy {s : State} (v : Overheard) (l : LaneId) (k : OverLane) (h : s.Roomy) :
    (s.setOverResult v l k).Roomy := by
  unfold State.setOverResult
  dsimp only
  split
  · exact State.closeOverheard_roomy _ h
  · exact h

theorem State.overhearRequest_roomy {s : State} (l : LaneId) (q : Request) (h : s.Roomy) :
    (s.overhearRequest l q).Roomy := by
  unfold State.overhearRequest
  split
  · exact State.openOverheard_roomy _ _ h
  · split
    · exact h
    · exact State.openOverheard_roomy _ _ (State.closeOverheard_roomy _ h)

theorem State.overhearReply_roomy {s : State} (l : LaneId) (t : Option Reply) (h : s.Roomy) :
    (s.overhearReply l t).Roomy := by
  unfold State.overhearReply
  split
  · exact h
  · split
    · exact h
    · split
      · exact State.setOverResult_roomy _ _ _ h
      · exact h

theorem State.overhear_roomy {s : State} (l : LaneId) (t : Option Telegram) (h : s.Roomy) : (s.overhear l t).Roomy := by
  unfold State.overhear
  split
  · exact State.overhearRequest_roomy _ _ h
  · exact State.overhearReply_roomy _ _ h
  · exact State.overhearReply_roomy _ _ h

theorem State.heard_roomy {s : State} (l : LaneId) (t : Option Telegram) (h : s.Roomy) : (s.heard l t).Roomy := by
  unfold State.heard
  split
  · split
    · exact State.contest_roomy _ h
    · exact h
    · exact h
  · exact State.overhear_roomy _ _ h
  · exact h

end Sys2Proof.Machine
end

