-- ==== Sys2Proof/Laws/Effects.lean ====
section
/-! SUPPORT. What a shared operation can do, each said once in the words of Safety.lean: levels, blame, the stop of a
sweep, the close of a Bus Queue entry's exchange, and which field bytes a telegram may have. -/

namespace Sys2Proof.Machine

/-- RUNNING or DRAINING, as the Bool that the meanings test. -/
theorem State.hosting_of_Hosting {s : State} (h : s.Hosting) : s.hosting = true := by
  rcases h with h1 | h1 <;> simp [State.hosting, State.running, State.draining, h1]

/-- When the head of Staging needs a buffer (R166). -/
theorem State.headNeedsBuffer_iff (s : State) :
    s.headNeedsBuffer = true ↔
      (∃ r rest, s.rpu.staging = r :: rest ∧ r.room < r.entries.each.length) ∧ s.rpu.head = .unsettled := by
  simp only [State.headNeedsBuffer, Result.needsBuffer]
  cases h : s.rpu.staging <;> simp

/-- When a supply entry is available (R167). -/
theorem State.supplyAvailable_iff (s : State) :
    s.supplyAvailable = true ↔ s.dir.supplySize ≠ 0 ∧ s.xpt.bulkTaken ≠ s.xpt.hostBlock.bulkPosted := by
  simp [State.supplyAvailable]

/-- The condition of the attention timer (R178). -/
theorem State.attentionCondition_iff (s : State) :
    s.attentionCondition = true ↔
      (s.ctl.exchangeState = .running ∧ s.rpu.lastTag ≠ s.xpt.hostBlock.tagSeen) ∨
        (s.Hosting ∧ s.rpu.staging ≠ [] ∧
          s.dir.resultSize ≤ (s.rpu.resultsWritten - s.xpt.hostBlock.resultsReleased).toNat) := by
  simp only [State.attentionCondition, State.intN, State.hosting, State.running, State.draining, State.ringRoom,
    State.Hosting]
  cases s.ctl.exchangeState <;> simp

/-- The event summary after an event is set (R176). -/
theorem State.setEvent_events (e s) : (State.setEvent e s).rpu.events = s.rpu.events.with e := by
  unfold State.setEvent State.noteChange
  split
  · rename_i h; cases e <;> simp_all [EventSummary.has, EventSummary.with] <;> cases hh : s.rpu.events <;> simp_all
  · split <;> rfl

/-- All that blaming a lane does (R90). -/
theorem State.blame_cases (s : State) (lane : LaneId) :
    let faults := min 15 ((s.lanes.get lane).faults + 1)
    let t := s.blame lane
    t.lanes.get lane =
        { s.lanes.get lane with
          faults := faults, up := (s.lanes.get lane).up && decide (faults < s.dir.laneFaultLimit) } ∧
      t.lanes.get (otherLane lane) = s.lanes.get (otherLane lane) ∧
      t.lanes.silentWindows = s.lanes.silentWindows ∧ t.lanes.disagreements = s.lanes.disagreements ∧
      t.rpu.events =
        (if (s.lanes.get lane).up ∧ s.dir.laneFaultLimit ≤ faults then { s.rpu.events with lane := true }
        else s.rpu.events) ∧
      t.stations = s.stations := by
  intro faults t
  by_cases h : (s.lanes.get lane).up = true ∧ s.dir.laneFaultLimit ≤ faults
  · have ht : t = (s.updateLane lane (fun l => { l with faults := faults, up := false })).setEvent .lane := if_pos h
    have hd : decide (faults < s.dir.laneFaultLimit) = false := by simpa using h.2
    rw [ht, if_pos h, hd, Bool.and_false, State.setEvent_events]
    cases lane <;> simp [State.updateLane, Lanes.get, otherLane, EventSummary.with]
  · have ht : t = s.updateLane lane (fun l => { l with faults := faults }) := if_neg h
    have hu : ((s.lanes.get lane).up && decide (faults < s.dir.laneFaultLimit)) = (s.lanes.get lane).up := by
      cases hup : (s.lanes.get lane).up with
      | false => rfl
      | true => simpa [hup] using h
    rw [ht, if_neg h, hu]
    cases lane <;> simp [State.updateLane, Lanes.get, otherLane]

/-- A place of Staging is free (R103). -/
theorem State.freePlaces_pos_iff (s : State) : (0 < s.freePlaces) ↔ s.rpu.staging.length + s.bar.reserved < 6 := by
  simp only [State.freePlaces, Config.stagingResults]; omega

/-- Staging a SWEEP result sets no event (R176). -/
theorem State.stage_sweep (s : State) (r : SweepResult) :
    s.stage (.sweep r) = { s with rpu.staging := s.rpu.staging ++ [.sweep r] } := rfl

/-- All that finishing an abandoned sweep does (R64). -/
theorem State.finishAbandon_cases (s : State) :
    (s.swe.abandoning = true → s.sweepPollOpen = false →
      (s.dir.sweepResults = false → s.finishAbandon = { s with swe := s.swe.stopped }) ∧
      (s.dir.sweepResults = true → s.rpu.staging.length + s.bar.reserved < 6 →
        s.finishAbandon = { s with swe := s.swe.stopped, rpu.staging := s.rpu.staging ++ [s.swe.abandoned] }) ∧
      (s.dir.sweepResults = true → 6 ≤ s.rpu.staging.length + s.bar.reserved → s.finishAbandon = s)) ∧
    (s.sweepPollOpen = true → s.finishAbandon = s) := by
  refine ⟨fun h1 h2 => ⟨fun h3 => ?_, fun h3 h4 => ?_, fun h3 h4 => ?_⟩, fun h => by simp [State.finishAbandon, h]⟩
  · simp [State.finishAbandon, h1, h2, h3]; rfl
  · simp [State.finishAbandon, h1, h2, h3, (State.freePlaces_pos_iff s).2 h4, State.stage_sweep]; exact ⟨rfl, rfl⟩
  · have : ¬ 0 < s.freePlaces := by rw [State.freePlaces_pos_iff]; omega
    simp only [State.finishAbandon, h1, h2, h3, this]; rfl

/-- All that entry to STOPPED does to the Sweep Engine and Staging (R55, R64). -/
theorem State.stopSweep_cases (s : State) :
      let pollOpen : Prop := ∃ x, s.exu.exchange = some x ∧ x.claimant = .sweep
      let room : Prop := s.rpu.staging.length + s.bar.reserved < 6
      let waits : SweepEngine :=
        { s.swe with state := .stopped, periodTimer := false, claim := none, endWait := false, abandoning := true }
      let t := s.stopSweep
      (s.swe.state = .stopped → t.swe = s.swe ∧ t.rpu.staging = s.rpu.staging) ∧
      (s.swe.state = .idle →
        t.swe = { s.swe with state := .stopped, periodTimer := false, startDue := false } ∧
          t.rpu.staging = s.rpu.staging) ∧
      (s.swe.state = .sweeping →
        (pollOpen ∨ (s.dir.sweepResults = true ∧ ¬ room) → t.swe = waits ∧ t.rpu.staging = s.rpu.staging) ∧
        (¬ pollOpen → s.dir.sweepResults = false → t.swe = s.swe.stopped ∧ t.rpu.staging = s.rpu.staging) ∧
        (¬ pollOpen → s.dir.sweepResults = true → room →
          t.swe = s.swe.stopped ∧ t.rpu.staging = s.rpu.staging ++ [s.swe.abandoned])) := by
  intro po room waits t
  have hpo : s.sweepPollOpen = true ↔ po := by
    simp only [State.sweepPollOpen, po]; cases s.exu.exchange <;> simp
  refine ⟨fun h => by simp [t, State.stopSweep, h], fun h => by simp [t, State.stopSweep, h], fun h => ?_⟩
  obtain ⟨k1, k2⟩ := State.finishAbandon_cases { s with swe := waits }
  have ht : t = State.finishAbandon { s with swe := waits } := by simp only [t, State.stopSweep, h]; rfl
  refine ⟨fun h1 => ?_, fun h1 h2 => ?_, fun h1 h2 h3 => ?_⟩
  · rcases h1 with h1 | ⟨h1, h2⟩
    · rw [ht, k2 (by simpa [State.sweepPollOpen] using hpo.2 h1)]; exact ⟨rfl, rfl⟩
    · by_cases h3 : s.sweepPollOpen = true
      · rw [ht, k2 h3]; exact ⟨rfl, rfl⟩
      · rw [ht, (k1 rfl (Bool.eq_false_iff.2 h3)).2.2 h1 (by simp only [room] at h2; simpa using h2)]
        exact ⟨rfl, rfl⟩
  · rw [ht, (k1 rfl (by rw [Bool.eq_false_iff]; exact fun k => h1 (hpo.1 k))).1 h2]; exact ⟨rfl, rfl⟩
  · rw [ht, (k1 rfl (by rw [Bool.eq_false_iff]; exact fun k => h1 (hpo.1 k))).2.1 h2 h3]; exact ⟨rfl, rfl⟩

/-- The order that the Order Unit takes in hand (R133). -/
theorem State.takes_of_Takes {s : State} {o : Order} {k : OrderKind} (h : s.Takes o k) : s.takes k = some o := by
  obtain ⟨a, b, c, d, e⟩ := h
  simp [State.takes, State.taken?, State.running, State.handFree, a, b, c, d, e]

/-- An order that completes as it is taken, without entries (R134). -/
theorem State.finishOrder_of_Takes {s : State} {o : Order} {k : OrderKind} {c : OrderOutcome} (h : s.Takes o k) :
    s.finishOrder o c = .next (s.finished o c 0 (.values [])).settle := by
  obtain ⟨a, b, c', d, e⟩ := h
  simp [State.finishOrder, State.answer, State.completeHand, State.popOrder, State.finished, c']

/-- A station address in its range (R137). -/
theorem Order.stationInRange_of {o : Order} (h1 : 1 ≤ o.station) (h2 : o.station ≤ 125) : o.stationInRange = true := by
  simp [Order.stationInRange, within, Config.maxStationAddress, h1, h2]

/-- Holding a station for which no claim is raised (R8). -/
theorem State.holdStation_unclaimed (s : State) (a : Nat) (h : s.swe.claim ≠ some a) :
    s.holdStation a = s.updateStation a (fun r => { r with held := true }) := by
  simp only [State.holdStation]; rw [if_neg]; exact h

/-- When a hold is satisfied (R141). -/
theorem State.holdSatisfied_of {s : State} {a : Nat} (h1 : ∀ e ∈ s.oru.busQueue, e.order.station ≠ a)
    (h2 : ∀ x, s.exu.exchange = some x → x.address ≠ a) : s.holdSatisfied a = true := by
  simp only [State.holdSatisfied, State.exchangeAddresses, Bool.and_eq_true, List.all_eq_true, decide_eq_true_eq]
  refine ⟨h1, ?_⟩
  cases h : s.exu.exchange with
  | none => simp
  | some x => simpa using h2 x h

/-- A list whose head does not pass. -/
theorem takeWhile_eq_nil {α : Type} (p : α → Bool) (l : List α) (h : ∀ a, l.head? = some a → p a = false) :
    l.takeWhile p = [] := by
  cases l with
  | nil => rfl
  | cons a t => simp [h a rfl]

/-- At an entry that is not skipped the walk stops at once (R58). -/
theorem State.walk_of_polled (u : State) (a : Nat) (h : u.swe.active[u.swe.cursor]? = some a)
    (hs : u.skips a = false) : u.walk = u := by
  have h0 : (u.swe.active.drop u.swe.cursor).takeWhile u.skips = [] := by
    apply takeWhile_eq_nil
    intro b hb; rw [List.head?_drop, h] at hb; cases hb; exact hs
  have hl : ¬ u.swe.active.length ≤ u.swe.cursor := by
    intro hc; rw [List.getElem?_eq_none hc] at h; cases h
  simp only [State.walk, h0, List.length_nil, Nat.add_zero, hl, if_false]

/-- The position of the entry whose exchange is open (R144). -/
theorem busQueue_findIdx (front back : List BusEntry) (e : BusEntry) (h : e.exchangeOpen = true)
    (hf : ∀ f ∈ front, f.exchangeOpen = false) :
    (front ++ e :: back).findIdx? (fun e => e.exchangeOpen) = some front.length := by
  induction front with
  | nil => simp [List.findIdx?_cons, h]
  | cons f front ih =>
    simp [List.findIdx?_cons, hf f (by simp), ih (fun g hg => hf g (by simp [hg]))]

/-- The queue without that entry. -/
theorem busQueue_eraseIdx (front back : List BusEntry) (e : BusEntry) :
    (front ++ e :: back).eraseIdx front.length = front ++ back := by
  induction front with
  | nil => rfl
  | cons f front ih => simp [ih]

/-- The queue with that entry changed. -/
theorem busQueue_set (front back : List BusEntry) (e f : BusEntry) :
    (front ++ e :: back).set front.length f = front ++ f :: back := by
  induction front with
  | nil => rfl
  | cons g front ih => simp

/-- The entry at that position. -/
theorem busQueue_get (front back : List BusEntry) (e : BusEntry) :
    (front ++ e :: back)[front.length]? = some e := by simp

/-- What follows a close leaves the Order Unit. -/
theorem State.afterClose_oru_eq (s : State) : s.afterClose.oru = s.oru := by
  unfold State.afterClose; dsimp only; split <;> split <;> rfl

/-- All that the end of an entry does to the Order Unit (R143, R144, R153). -/
theorem State.endEntry_oru {s : State} {front back : List BusEntry} {e : BusEntry} (f : BusEntry) (c : OrderOutcome)
    (hq : s.oru.busQueue = front ++ e :: back) :
    (s.endEntry front.length f c).oru =
      s.oru.leaves (decide (s.ctl.exchangeState = .draining)) (front ++ back) (f.result c) := by
  unfold State.endEntry State.entryLeft OrderUnit.leaves
  simp only [hq, busQueue_eraseIdx]
  cases h : s.oru.hand <;> simp [State.markerCheck, BusEntry.new]
  split <;> simp_all [State.answer, State.completeHand, State.markerOutcome, State.draining]

/-- All that an entry with a further exchange to make does to the Order Unit (R120, R149, R155). -/
theorem State.continueEntry_oru {s : State} {front back : List BusEntry} {e : BusEntry} (f : BusEntry)
    (hq : s.oru.busQueue = front ++ e :: back) :
    (s.continueEntry front.length f).oru = s.entryGoesOn front f back := by
  unfold State.continueEntry State.entryGoesOn
  simp only [State.draining]
  split
  · rename_i h; simp only [decide_eq_true_eq] at h; rw [State.endEntry_oru _ _ hq, if_pos h]; simp [h]
  · rename_i h; simp only [decide_eq_true_eq] at h; rw [if_neg h]
    split
    · rw [State.endEntry_oru _ _ hq]; simp [h]
    · simp [hq]

/-- What the close of a Bus Queue entry's exchange does to the Order Unit (R145 to R151). -/
theorem State.closeExchange_busEntry (s : State) (x : Exchange) (o : ExchangeOutcome) (hc : x.claimant = .busEntry)
    {front back : List BusEntry} {e : BusEntry} (h : s.OpenEntry front e back) :
    ∃ t,
      (s.closeExchange x o).oru =
        (match x.verb with
          | .query => t.settleQuery front.length e x.address o
          | .fetch =>
            let f := e.tally o (s.deliver x o).2
            if f.order.repeats < f.nextInstance then t.endEntry front.length f f.readOutcome
            else t.continueEntry front.length f
          | .store => t.endEntry front.length e o.storeOutcome
          | .latch => t.endEntry front.length e .done
          | .mark => t : State).oru ∧
      t.oru = s.oru ∧ t.ctl = s.ctl ∧ t.msu = s.msu ∧ t.stations = (s.deliver x o).1.stations := by
  refine ⟨{ (s.deliver x o).1 with exu.exchange := none, bar.reserved := 0 }, ?_, by simp, by simp, by simp, rfl⟩
  unfold State.closeExchange
  simp only [hc, State.afterClose_oru_eq, State.settleEntry, State.deliver_oru, h.queue,
    busQueue_findIdx front back e h.exchange h.closed, busQueue_get]
  all_goals (cases x.verb <;> rfl)

/-- Whole words are read from a byte string, or it does not hold whole words. -/
theorem beWords_cases : ∀ l : List Byte,
    (∃ ws, beWords l = some ws ∧ ws.length * 4 = l.length) ∨ (beWords l = none ∧ l.length % 4 ≠ 0)
  | [] => .inl ⟨[], rfl, rfl⟩
  | [_] => .inr ⟨rfl, by simp⟩
  | [_, _] => .inr ⟨rfl, by simp⟩
  | [_, _, _] => .inr ⟨rfl, by simp⟩
  | a :: b :: c :: d :: rest => by
    rcases beWords_cases rest with ⟨ws, h, h2⟩ | ⟨h, h2⟩
    · exact .inl ⟨(a ++ b ++ c ++ d) :: ws, by simp [beWords, h], by simp; omega⟩
    · exact .inr ⟨by simp [beWords, h], by simp; omega⟩

/-- A bit field of a byte as a number. -/
theorem extractLsb_toNat (b : Byte) (i n : Nat) : (b.extractLsb' i n).toNat = b.toNat / 2 ^ i % 2 ^ n := by
  simp [BitVec.extractLsb'_toNat, Nat.shiftRight_eq_div_pow]

/-- A verb code in its defined set (R72). -/
theorem verbOf_eq_some_iff (n : Nat) (v) : verbOf n = some v ↔ n = v.code := by
  constructor
  · intro h; unfold verbOf at h; split at h <;> simp_all <;> subst h <;> rfl
  · rintro rfl; cases v <;> rfl

/-- A class code in its defined set (R73). -/
theorem classOf_eq_some_iff (n : Nat) (v) : classOf n = some v ↔ n = v.code := by
  constructor
  · intro h; unfold classOf at h; split at h <;> simp_all <;> subst h <;> rfl
  · rintro rfl; cases v <;> rfl

/-- Which field bytes are those of a request (R72, R74). -/
theorem parseRequest_isSome_iff (fields : List Byte) (h : (byteAt fields 0).msb = false) :
    (parseRequest fields).isSome ↔ soundRequest fields := by
  match fields with
  | [] => simp [parseRequest, soundRequest, byteAt]
  | [_] => simp [parseRequest, soundRequest, byteAt]
  | [_, _] => simp [parseRequest, soundRequest, byteAt]; intros; split <;> omega
  | b0 :: b1 :: b2 :: rest =>
    have hb0 : b0.toNat < 128 := by simp [byteAt, BitVec.msb_eq_decide] at h; omega
    have hb1 := b1.isLt
    simp only [parseRequest, soundRequest, byteAt, extractLsb_toNat]
    simp only [List.getD_cons_zero, List.getD_cons_succ, List.length_cons]
    have e0 : b0.toNat / 2 ^ 0 % 2 ^ 7 = b0.toNat := by omega
    have e1 : b1.toNat / 2 ^ 4 % 2 ^ 3 = b1.toNat / 16 % 8 := rfl
    have e2 : b1.toNat / 2 ^ 0 % 2 ^ 4 = b1.toNat % 16 := by omega
    rw [e1, e0, e2]
    generalize b1.toNat / 16 % 8 = verb
    generalize b1.toNat % 16 = count
    rcases beWords_cases rest with ⟨ws, k, k2⟩ | ⟨k, k2⟩
    · rw [k]
      cases hv : verbOf verb with
      | none =>
        simp only [Option.isSome_none]
        refine iff_of_false (by simp) (fun hs => ?_)
        unfold verbOf at hv
        split at hv <;> grind
      | some v =>
        have := (verbOf_eq_some_iff _ _).1 hv
        have I : ∀ (c : Bool) (q : Request), (if c = true then some q else none).isSome = c := by
          intros c q; cases c <;> rfl
        have wl : ws.isEmpty = decide (rest.length = 0) := by cases ws <;> simp at k2 ⊢ <;> grind
        have hl : rest.length = 4 * ws.length := by omega
        subst this
        simp only [I]
        generalize rest.length = n at *
        cases v <;>
          simp [pairingOk, requestCountOk, valuesFit, Config.allStations, Config.nobody, Verb.code, wl] <;> grind
    · rw [k]
      refine iff_of_false (by cases verbOf verb <;> simp) (fun hs => ?_)
      grind

/-- Which field bytes are those of a reply (R73, R74). -/
theorem parseReply_isSome_iff (fields : List Byte) (h : (byteAt fields 0).msb = true) :
    (parseReply fields).isSome ↔ soundReply fields := by
  match fields with
  | [] => simp [parseReply, soundReply, byteAt]
  | [_] => simp [parseReply, soundReply, byteAt]
  | [_, _] => simp [parseReply, soundReply, byteAt]
  | [_, _, _] => simp [parseReply, soundReply, byteAt]; intros; (repeat' split) <;> omega
  | b0 :: b1 :: b2 :: b3 :: rest =>
    have hb0 : 128 ≤ b0.toNat := by simp [byteAt, BitVec.msb_eq_decide] at h; omega
    have hb0' := b0.isLt
    have hb1 := b1.isLt
    simp only [parseReply, soundReply, byteAt, extractLsb_toNat]
    simp only [List.getD_cons_zero, List.getD_cons_succ, List.length_cons]
    have e0 : b0.toNat / 2^0 % 2^7 = b0.toNat - 128 := by omega
    simp only [e0]
    cases hv : verbOf (b1.toNat / 2^5 % 2^3) with
    | none => 
      have : b1.toNat / 32 = 0 ∨ 6 ≤ b1.toNat / 32 := by unfold verbOf at hv; split at hv <;> simp_all <;> omega
      simp; intros; omega
    | some v =>
      have v1 := (verbOf_eq_some_iff _ _).1 hv
      have v2 : b1.toNat / 32 = v.code := by omega
      cases hc : classOf (b1.toNat / 2^3 % 2^2) with
      | none =>
        have : b1.toNat / 8 % 4 = 0 := by unfold classOf at hc; split at hc <;> simp_all <;> omega
        simp; intros; omega
      | some c =>
        have c1 := (classOf_eq_some_iff _ _).1 hc
        have c2 : b1.toNat / 8 % 4 = c.code := by omega
        rw [v2, c2]
        dsimp only
        have B : (parseReplyBody v c b2.toNat rest).isSome ↔
            ((c.code = 1 → v.code = 3 → 1 ≤ (rest.getD 1 0).toNat ∧ (rest.getD 1 0).toNat ≤ 32) ∧
              rest.length =
                if c.code = 1 ∧ v.code = 1 then 4 * b2.toNat else if c.code = 1 ∧ v.code = 3 then 2 else 0) := by
          cases c <;> cases v <;> simp [parseReplyBody, ReplyClass.code, Verb.code]
          · rcases beWords_cases rest with ⟨ws, k, k2⟩ | ⟨k, k2⟩
            · simp only [k]; split <;> simp <;> omega
            · simp only [k]; simp; omega
          · match rest with
            | [] => simp
            | [_] => simp
            | [a, b] => simp
            | a :: b :: c :: r => simp
        by_cases hg :
          (decide (1 ≤ b0.toNat - 128) && decide (b0.toNat - 128 ≤ Config.maxStationAddress) &&
            decide (v ≠ Verb.latch) && decide (v ≠ Verb.mark) && decide (1 ≤ b2.toNat) && decide (b2.toNat ≤ 8)) = true
        · rw [if_pos hg, Option.isSome_map, B]
          simp [Config.maxStationAddress] at hg
          cases v <;> cases c <;> simp [ReplyClass.code, Verb.code] at hg ⊢ <;> grind
        · rw [if_neg hg]
          simp [Config.maxStationAddress] at hg
          cases v <;> simp [Verb.code] at hg ⊢ <;> grind

end Sys2Proof.Machine
end

