-- ==== Sys2Proof/Laws/Line.lean ====
section
/-! SUPPORT. The line read back: the cells that a transmitter sends are the bits, the bits the bytes, and the
words of a body the words sent. -/

namespace Sys2Proof.Machine

/-- The bits of a byte, read back. -/
theorem byteOfBits_bitsOfByte (b : Byte) :
    byteOfBits (b.getLsbD 7) (b.getLsbD 6) (b.getLsbD 5) (b.getLsbD 4) (b.getLsbD 3) (b.getLsbD 2) (b.getLsbD 1)
      (b.getLsbD 0) = b := by
  revert b; decide +kernel

/-- The bytes of the bits of a run of bytes. -/
theorem bytesOfBits_bitsOfBytes (bytes : List Byte) : bytesOfBits (bitsOfBytes bytes) = some bytes := by
  induction bytes with
  | nil => rfl
  | cons b rest ih =>
    unfold bitsOfBytes at ih ⊢
    simp only [List.flatMap_cons, bitsOfByte, List.cons_append, List.nil_append, bytesOfBits]
    rw [ih, byteOfBits_bitsOfByte]
    rfl

/-- One cell as sent is read as its bit, at each of the three rates. -/
theorem cellBits_cell (rate : BitRate) (b : Bool) (rest : List Nat) :
    cellBits rate.bitTime false (cellOfBit rate.bitTime b ++ rest) =
      (cellBits rate.bitTime false rest).map (b :: ·) := by
  cases rate <;> cases b <;> rfl

/-- The bits of the cells of a run of bits. -/
theorem cellBits_cells (rate : BitRate) (bits : List Bool) :
    cellBits rate.bitTime false (bits.flatMap (cellOfBit rate.bitTime)) = some bits := by
  induction bits with
  | nil => rfl
  | cons b rest ih => rw [List.flatMap_cons, cellBits_cell, ih]; rfl

/-- A word in four bytes, most significant first, read back. -/
theorem word_of_bytes (v : Word) :
    (v.extractLsb' 24 8 ++ v.extractLsb' 16 8 ++ v.extractLsb' 8 8 ++ v.extractLsb' 0 8 : Word) = v := by
  apply BitVec.eq_of_getLsbD_eq
  intro i hi
  simp only [BitVec.getLsbD_append, BitVec.getLsbD_extractLsb']
  by_cases h0 : i < 8
  · simp [h0]
  · by_cases h1 : i < 16
    · simp [h0, show i - 8 < 8 by omega, show 8 + (i - 8) = i by omega]
    · by_cases h2 : i < 24
      · simp [h0, show ¬ i - 8 < 8 by omega, show i - 8 - 8 < 8 by omega,
          show 16 + (i - 8 - 8) = i by omega]
      · simp [h0, show ¬ i - 8 < 8 by omega, show ¬ i - 8 - 8 < 8 by omega,
          show i - 8 - 8 - 8 < 8 by omega, show 24 + (i - 8 - 8 - 8) = i by omega]

/-- The words of a body as sent, read back. -/
theorem beWords_flatMap (values : List Word) : beWords (values.flatMap beWord) = some values := by
  induction values with
  | nil => rfl
  | cons v rest ih =>
    rw [List.flatMap_cons]
    simp only [beWord, List.cons_append, List.nil_append, beWords]
    rw [ih]
    simp only [Option.map_some, Option.some.injEq, List.cons.injEq, and_true]
    exact word_of_bytes v

/-- A sound telegram as sent at a rate is received as its bytes. -/
theorem telegramBytes_waveform (rate : BitRate) (bytes : List Byte) :
    telegramBytes rate.bitTime (waveform rate.bitTime bytes) = some bytes := by
  unfold telegramBytes waveform
  rw [cellBits_cells]
  exact bytesOfBits_bitsOfBytes bytes

end Sys2Proof.Machine
end

