-- ==== Sys2Proof/Tests/Slice0.lean ====
section
/-! SUPPORT. The model's own tests: the checks of WellFormed, one small test for each command, the manual's worked
examples, and, for every obligation with hypotheses, concrete states that meet them (`test_witness_…`). -/

namespace Sys2Proof.Tests

open Sys2Proof.Machine

set_option Elab.async false

/-! ### Helpers -/

/-- The command answers a next state in which the test holds. -/
def holds (c : Instr) (s : State) (test : State → Bool) : Bool :=
  match exec c s with
  | .next t => test t
  | .fault _ => false
  | .refused _ => false

/-- The command is refused as no event of the device. -/
def refuses (c : Instr) (s : State) : Bool :=
  match exec c s with
  | .next _ => false
  | .fault _ => false
  | .refused r => r = .illFormed

/-- A Directory in which every setting is in range. -/
def settings : Directory :=
  { orderRing := 0x2000, resultRing := 0x3000, supplyRing := 0x4000, orderSize := 16, resultSize := 16, supplySize := 8
    lookInterval := 5, sweepPeriod := 100, replyWindow := 20, takeoverBase := 10, markInterval := 2
    attentionTime := 50, drainTime := 10, reportCount := 2, reportHold := 3, bulkWait := 4, refillThreshold := 4
    laneFaultLimit := 2, bitRate := .kbit500, laneMode := .singleA, masterTag := 1, startRole := .active
    listenLearn := true, sweepResults := true }

/-- The 64 bytes of a Directory with given ring size, lane mode and start role. -/
def directoryBytes (size mode startRole : Nat) : List Byte :=
  zeroFilled 64
    (leBytes 0x2000 8 ++ leBytes 0x3000 8 ++ leBytes 0x4000 8 ++ leBytes size 2 ++ leBytes 16 2 ++ leBytes 8 2 ++
      leBytes 5 2 ++ leBytes 100 2 ++ leBytes 20 2 ++ leBytes 10 2 ++ leBytes 2 2 ++ leBytes 50 2 ++ leBytes 10 2 ++
      leBytes 2 1 ++ leBytes 3 1 ++ leBytes 4 1 ++ leBytes 4 1 ++ leBytes 2 1 ++ leBytes 2 1 ++ leBytes mode 1 ++
      leBytes 1 1 ++ leBytes startRole 1 ++ leBytes 1 1 ++ leBytes 1 1)

/-- The 16 bytes of a Host Block. -/
def hostBytes (posted released bulk tag : Nat) : List Byte :=
  zeroFilled 16 (leBytes posted 4 ++ leBytes released 4 ++ leBytes bulk 4 ++ leBytes tag 1)

/-- A station ONLINE and verified at address 5, with slots 10 to 13. -/
def station5 : StationRecord :=
  { address := 5, kind := 0x21, firstSlot := 10, slotCount := 4, readChunk := 2, missLimit := 2, revisitEvery := 3
    lanePref := .a, retryLimit := 1, health := .online, verified := true, missCount := 0, readCursor := 0
    lastCondition := none, held := false }

/-- RUNNING and ACTIVE, with one station enrolled. -/
def active : State :=
  { State.reset with
    ctl.exchangeState := .running, ctl.areaBase := 0x10000, xpt.directory := some settings, xpt.lookTimer := true
    msu.role := .active, msu.markTimer := true, swe.state := .idle, swe.startDue := true
    lanes.a.rx := .quiet, lanes.b.rx := .quiet, stations := [station5] }

/-- RUNNING and in LISTEN. -/
def listening : State :=
  { active with
    msu := { Mastership.reset with role := .listen, takeoverTimer := true }
    swe := { SweepEngine.reset with state := .stopped } }

/-- DRAINING, with no exchange open. -/
def draining : State :=
  { listening with
    ctl.exchangeState := .draining, ctl.drainTimer := true, msu := Mastership.reset }

/-- FAULTED. -/
def faulted : State :=
  { listening with ctl.exchangeState := .faulted, msu.takeoverTimer := false, xpt.lookTimer := false }

/-- HALTED, with a START whose Directory is being read. -/
def starting : State :=
  { State.reset with
    ctl.start := some { base := 0x10000, directory := none }, xpt.readPath := some (.directory 0x10000) }

/-- HALTED, with a START whose Host Block is being read. -/
def startingBlock : State :=
  { State.reset with
    ctl.start := some { base := 0x10000, directory := some settings }
    xpt.readPath := some (.startHostBlock 0x10040) }

/-- An order with a body filled up with zeros. -/
def anOrder (kind : Byte) (station first count repeats : Nat) (body : List Byte) : Order :=
  { kind := kind, urgent := false, reportNow := true, orderId := 7, repeats := repeats, station := station
    first := first, count := count, body := zeroFilled 20 body }

/-- The state with one order in the Order Cache. -/
def ordered (o : Order) (s : State) : State := { s with oru.cache := [o] }

/-- The state with the Order Unit able to take the order is one in which it takes it. -/
theorem takes_ordered (o : Order) (k : OrderKind) (h : o.kind? = some k) : (ordered o active).Takes o k :=
  ⟨rfl, rfl, rfl, rfl, h⟩

/-- The same in LISTEN. -/
theorem takes_listening (o : Order) (k : OrderKind) (h : o.kind? = some k) : (ordered o listening).Takes o k :=
  ⟨rfl, rfl, rfl, rfl, h⟩

/-- A READ of two channels of station 5. -/
def readOrder : Order := anOrder 0x07 5 0 2 0 []

/-- An ORDER result of a MARKER. -/
def aResult : OrderResult := (anOrder 0x0D 0 0 0 0 []).result .done 0 (.values [])

/-- An ORDER result with more entries than fit inline. -/
def longResult : OrderResult :=
  (anOrder 0x0A 5 0 4 0 []).result .done 0
    (.values ((List.range 4).map (fun c => Point.default.snapEntry c)))

/-- A FETCH of a sweep poll to station 5 on Lane A, its reply being received. -/
def poll : Exchange :=
  { Exchange.new .sweep 5 .fetch 0 2 [] 2 .a with partA := .receiving }

/-- ACTIVE and SWEEPING, with the poll open. -/
def polling : State :=
  { active with
    swe := { active.swe with state := .sweeping, active := [5], startDue := false }
    exu.exchange := some poll, bar.reserved := 2, lanes.a.rx := .receiving }

/-- The GOOD reply to the poll. -/
def goodReply : Reply :=
  { address := 5, verb := .fetch, cls := .good, seq := 0, count := 2, condition := 0x11, values := [3, 4]
    identity := none }

/-- What Lane A hears of a telegram at 500 kbit/s. -/
def heardAs (telegram : List Byte) : List Nat := waveform 2000 telegram

/-- A request of the partner gateway. -/
def foreign (tag : BitVec 1) : Request :=
  { address := 5, tag := tag, verb := .fetch, seq := 0, first := 0, count := 2, values := [] }

/-- An exchange overheard on Lane A. -/
def overheard : Overheard :=
  { request := foreign 0, firstLane := .a, laneA := some OverLane.fresh, laneB := none, lateA := false, lateB := false }

/-! ### WellFormed: a command that no event of the device can be is refused -/

theorem test_illFormed_ignored_write : (Instr.registerWriteIgnored .run 1).wellFormed = false := by decide +kernel
theorem test_illFormed_ignored_write_refused : refuses (.registerWriteIgnored .run 3) State.reset = true := by
  decide +kernel
theorem test_illFormed_directory :
    (Instr.directoryReadDone (List.replicate 63 0)).wellFormed = false ∧
      refuses (.directoryReadDone (List.replicate 63 0)) starting = true := by decide +kernel
theorem test_illFormed_start_host_block :
    (Instr.startHostBlockReadDone (List.replicate 17 0)).wellFormed = false ∧
      refuses (.startHostBlockReadDone (List.replicate 17 0)) startingBlock = true := by decide +kernel
theorem test_illFormed_host_block :
    (Instr.hostBlockReadDone []).wellFormed = false ∧ refuses (.hostBlockReadDone []) active = true := by
  decide +kernel
theorem test_illFormed_supply_entry :
    (Instr.supplyEntryReadDone (List.replicate 15 0)).wellFormed = false ∧
      refuses (.supplyEntryReadDone (List.replicate 15 0)) active = true := by decide +kernel
theorem test_illFormed_order_fetch :
    (Instr.orderFetchDone []).wellFormed = false ∧
      (Instr.orderFetchDone (List.replicate 33 0)).wellFormed = false ∧
      (Instr.orderFetchDone (List.replicate 288 0)).wellFormed = false ∧
      refuses (.orderFetchDone (List.replicate 64 0))
        { active with xpt.readPath := some (.orderFetch 0x2000 1) } = true := by decide +kernel
theorem test_wellFormed :
    (Instr.orderFetchDone (List.replicate 256 0)).wellFormed = true ∧
      (Instr.registerWriteIgnored .run 4).wellFormed = true ∧ (Instr.registerWriteIgnored .ident 1).wellFormed = true ∧
      Instr.start.wellFormed = true := by decide +kernel
theorem test_no_word_spells_a_command : decodeTableWord 8 1 = none ∧ decodeTableWord 0 0 = none := by decide +kernel

/-! ### The manual's worked examples -/

/-- IDENT reads 00004A02h (section 10.1). -/
theorem test_ident : State.reset.readRegister .ident = 0x4A02#32 := by decide +kernel
/-- STATE of a RUNNING, ACTIVE device with INT_N released, and of a FAULTED one. -/
theorem test_state_register :
    active.readRegister .state = 0x009#32 ∧ faulted.readRegister .state = 0x107#32 := by decide +kernel
/-- The check examples of R71. -/
theorem test_check :
    check [0x00#8] = 0xFD02#16 ∧
      check [0x31#8, 0x32#8, 0x33#8, 0x34#8, 0x35#8, 0x36#8, 0x37#8, 0x38#8, 0x39#8] = 0xAEE7#16 := by decide +kernel
/-- The FETCH and the mark written out in section 10.5. -/
theorem test_telegrams :
    (Request.telegram
        { address := 23, tag := 0, verb := .fetch, seq := 5, first := 4, count := 4, values := [] }).take 3 =
      [0x17#8, 0x14#8, 0xA4#8] ∧
    (Request.telegram
        { address := 127, tag := 1, verb := .mark, seq := 0, first := 0, count := 1, values := [] }).take 3 =
      [0x7F#8, 0xD1#8, 0x00#8] := by decide +kernel

/-- An INSTANT point with a conversion record. -/
def instantPoint (scale : Int) (shift : Int) (offset : Int) : Point :=
  { Point.default with
    conv := { Point.default.conv with
      scale := BitVec.ofInt 16 scale, shift := BitVec.ofInt 8 shift, offset := BitVec.ofInt 32 offset } }

/-- The value of an INSTANT reading, and whether it is clipped. -/
def instantValue (raw scale shift offset : Int) : Int × Bool :=
  let r := conditionInstant (instantPoint scale shift offset) (BitVec.ofInt 32 raw)
  (r.point.image.value.toInt, r.clipped)

/-- The table of section 2.4. -/
theorem test_instant_table :
    instantValue 1500 1 0 0 = (1500, false) ∧ instantValue 7 3 (-2) 100 = (105, false) ∧
      instantValue (-7) 3 (-2) 100 = (94, false) ∧ instantValue (-300) (-1000) 3 (-5) = (2399995, false) ∧
      instantValue (-1) 1 (-31) 0 = (-1, false) ∧ instantValue 2000000000 2 0 0 = (2147483647, true) := by
  decide +kernel

/-- The point of the worked example of section 2.12. -/
def meter : Point :=
  { Point.default with
    conv := { mode := .total, scale := BitVec.ofInt 16 (-32768), shift := 15, offset := 0, jumpLimit := 2500000000
              notify := true } }

/-- The total after some readings, with clip_count and rebase_count. -/
def meterAfter (raws : List Word) : Int × Nat × Nat × Option Word :=
  let p := raws.foldl (fun p raw => (conditionPoint 10 p raw).point) meter
  (p.image.total.toInt, p.image.clipCount, p.image.rebaseCount, p.image.lastRaw)

/-- The six readings of section 2.12. -/
theorem test_total_example :
    meterAfter [1000000000] = (0, 0, 0, some 1000000000) ∧
      meterAfter [1000000000, 3500000000] = (-2684354560000000000, 0, 0, some 3500000000) ∧
      meterAfter [1000000000, 3500000000, 1705032704, 12] = (-5368709120000000000, 0, 1, some 12) ∧
      meterAfter [1000000000, 3500000000, 1705032704, 12, 2500000012, 705032716] =
        (-9223372036854775808, 1, 1, some 705032716) := by decide +kernel

/-! ### One small test for each command -/

theorem test_power_on : holds .powerOn faulted (fun t => t = State.reset) = true := by decide +kernel
theorem test_reset_pin : holds .resetPin active (fun t => t = State.reset) = true := by decide +kernel
theorem test_reset :
    holds .reset { faulted with ctl.areaLo := 0x5000 }
      (fun t => t.ctl.areaLo = 0x5000 ∧ t.ctl.exchangeState = .halted ∧ t.stations = []) = true := by decide +kernel
theorem test_start :
    holds .start { State.reset with ctl.areaLo := 0x5000, ctl.areaHi := 1 }
      (fun t => t.xpt.readPath = some (.directory 0x100005000)) = true := by decide +kernel
theorem test_halt :
    holds .halt active (fun t => t.ctl.exchangeState = .draining ∧ t.msu.role = .off ∧ t.swe.state = .stopped) = true
      ∧ holds .halt faulted (fun t => t.ctl.exchangeState = .halted) = true := by decide +kernel
theorem test_nudge : holds (.nudge 9) active (fun t => t.xpt.readWanted) = true := by decide +kernel
theorem test_area_lo_write :
    holds (.areaLoWrite 0x12345678) State.reset (fun t => t.ctl.areaLo = 0x12345000) = true := by decide +kernel
theorem test_area_hi_write :
    holds (.areaHiWrite 7) State.reset (fun t => t.ctl.areaHi = 7) = true ∧
      holds (.areaHiWrite 7) active (fun t => t.ctl.areaHi = 0) = true := by decide +kernel
theorem test_register_write_ignored :
    holds (.registerWriteIgnored .run 4) State.reset (fun t => t = State.reset) = true := by decide +kernel
theorem test_directory_read_done :
    holds (.directoryReadDone (directoryBytes 16 2 1)) starting
      (fun t => t.ctl.start = some { base := 0x10000, directory := some settings } ∧
        t.xpt.readPath = some (.startHostBlock 0x10040)) = true := by decide +kernel
theorem test_directory_refused :
    holds (.directoryReadDone (directoryBytes 17 2 1)) starting
      (fun t => t.ctl.faultCause = .directoryError ∧ t.ctl.startRefused ∧ t.ctl.start = none) = true := by
  decide +kernel
theorem test_start_host_block_read_done :
    holds (.startHostBlockReadDone (hostBytes 16 0 8 3)) startingBlock
      (fun t => t.ctl.exchangeState = .running ∧ t.msu.role = .active ∧ t.xpt.hostBlock.tagSeen = 3) = true := by
  decide +kernel
theorem test_start_counts_refused :
    holds (.startHostBlockReadDone (hostBytes 17 0 8 3)) startingBlock
      (fun t => t.ctl.faultCause = .countError ∧ t.ctl.exchangeState = .halted) = true := by decide +kernel
theorem test_look_timer_expiry :
    holds .lookTimerExpiry active (fun t => t.xpt.readWanted ∧ t.xpt.lookTimer) = true := by decide +kernel
theorem test_host_block_read_begin :
    holds .hostBlockReadBegin { active with xpt.readWanted := true }
      (fun t => t.xpt.readPath = some (.hostBlock 0x10040)) = true := by decide +kernel
theorem test_host_block_read_done :
    holds (.hostBlockReadDone (hostBytes 5 0 2 1)) { active with xpt.readPath := some (.hostBlock 0x10040) }
      (fun t => t.xpt.hostBlock.ordersPosted = 5 ∧ t.intN ∧ t.rpu.attention = .running) = true := by decide +kernel
theorem test_host_block_count_error :
    holds (.hostBlockReadDone (hostBytes 17 0 2 1)) { active with xpt.readPath := some (.hostBlock 0x10040) }
      (fun t => t.ctl.exchangeState = .faulted ∧ t.ctl.faultCause = .countError ∧ t.msu.role = .listen) = true := by
  decide +kernel
theorem test_order_fetch_begin :
    holds .orderFetchBegin { active with xpt.ordersTaken := 14, xpt.hostBlock.ordersPosted := 20 }
      (fun t => t.xpt.readPath = some (.orderFetch 0x21C0 2)) = true := by decide +kernel
theorem test_order_fetch_done :
    holds (.orderFetchDone (zeroFilled 32 [0x0D#8, 0xFF#8, 0x34#8, 0x12#8, 0xF3#8]))
      { active with xpt.readPath := some (.orderFetch 0x2000 1) }
      (fun t => t.xpt.ordersTaken = 1 ∧ t.rpu.holdTimer ∧
        t.oru.cache.map (fun o => (o.kind?, o.orderId, o.repeats, o.urgent)) =
          [(some .marker, 0x1234#16, 3, true)]) = true := by decide +kernel
theorem test_supply_entry_read_begin :
    holds .supplyEntryReadBegin
      { active with rpu.staging := [.order longResult], xpt.bulkTaken := 9, xpt.hostBlock.bulkPosted := 10 }
      (fun t => t.xpt.readPath = some (.supplyEntry 0x4010)) = true := by decide +kernel
theorem test_supply_entry_read_done :
    holds (.supplyEntryReadDone (zeroFilled 16 (leBytes 0x8008 8 ++ leBytes 64 4)))
      { active with rpu.staging := [.order longResult], xpt.readPath := some (.supplyEntry 0x4010) }
      (fun t => t.rpu.head = .buffer 0x8008 64 0 ∧ t.xpt.bulkTaken = 1) = true ∧
    holds (.supplyEntryReadDone (zeroFilled 16 (leBytes 0x8004 8 ++ leBytes 64 4)))
      { active with rpu.staging := [.order longResult], xpt.readPath := some (.supplyEntry 0x4010) }
      (fun t => t.rpu.head = .inlineOnly true) = true := by decide +kernel
theorem test_bulk_wait_timer_expiry :
    holds .bulkWaitTimerExpiry { active with rpu.staging := [.order longResult], rpu.bulkWaitTimer := true }
      (fun t => t.rpu.head = .inlineOnly false ∧ !t.rpu.bulkWaitTimer) = true := by decide +kernel
theorem test_access_error :
    holds (.accessError .write) { active with rpu.writePath := some (.bulk 0 []) }
      (fun t => t.ctl.faultCause = .accessError ∧ t.intN) = true ∧
    holds (.accessError .read) starting (fun t => t.ctl.exchangeState = .halted ∧ t.ctl.startRefused) = true := by
  decide +kernel
theorem test_result_write_begin :
    holds .resultWriteBegin { active with rpu.staging := [.order aResult] }
      (fun t => t.rpu.writePath = some (.record 0x3000
        (zeroFilled 32 [0x11#8, 0x02#8, 0x0D#8, 0#8, 7#8, 0#8, 0#8, 0#8]))) = true := by decide +kernel
theorem test_bulk_write :
    holds .resultWriteBegin { active with rpu.staging := [.order longResult], rpu.head := .buffer 0x8008 64 5 }
      (fun t => t.rpu.writePath.isSome) = true ∧
    holds .bulkWriteDone
      { active with
        rpu.staging := [.order longResult], rpu.head := .buffer 0x8008 64 5, rpu.writePath := some (.bulk 0x8008 []) }
      (fun t => t.rpu.writePath = some (.record 0x3000
        (zeroFilled 32
          ([0x11#8, 0x82#8, 0x0A#8, 4#8, 7#8, 0#8, 5#8, 0#8] ++ leBytes 0x8008 8 ++ leBytes 5 4 ++ leBytes 32 2)))) =
      true := by decide +kernel
theorem test_record_write_done :
    holds .recordWriteDone { active with rpu.staging := [.order aResult], rpu.writePath := some (.record 0x3000 []) }
      (fun t => t.rpu.resultsWritten = 1 ∧ t.rpu.staging = [] ∧ t.rpu.reportDue) = true := by decide +kernel
theorem test_report_block_write_begin :
    holds .reportBlockWriteBegin { active with rpu.reportDue := true, rpu.lastTag := 255 }
      (fun t => t.rpu.writePath = some (.report 0x10080
        (List.replicate 24 0#8 ++ [1#8, 6#8, 0#8, 1#8, 0#8, 0#8, 0#8, 0#8]) 1)) = true := by decide +kernel
theorem test_report_block_write_done :
    holds .reportBlockWriteDone { active with rpu.writePath := some (.report 0x10080 [] 1) }
      (fun t => t.rpu.lastTag = 1 ∧ t.intN) = true ∧
    holds .reportBlockWriteDone
      { draining with rpu.writePath := some (.report 0x10080 [] 1), ctl.drainEnded := true }
      (fun t => t.ctl.exchangeState = .halted ∧ !t.intN) = true := by decide +kernel
theorem test_hold_timer_expiry :
    holds .holdTimerExpiry { active with rpu.holdTimer := true } (fun t => t.rpu.reportDue) = true := by decide +kernel
theorem test_attention_timer_expiry :
    holds .attentionTimerExpiry { active with rpu.attention := .running, rpu.lastTag := 1 }
      (fun t => t.msu.role = .listen ∧ t.msu.shift = 1 ∧ t.rpu.attention = .expired) = true := by decide +kernel


theorem test_order_abandoned_in_drain :
    holds .orderAbandonedInDrain { draining with oru.cache := [readOrder] }
      (fun t => t.oru.completion.map (fun c => c.result.outcome) = [.abandoned] ∧ t.oru.cache = []) = true := by
  decide +kernel
theorem test_unrecognised_kind :
    holds .unrecognisedKind (ordered (anOrder 0x0F 0 0 0 0 []) active)
      (fun t => t.oru.completion.map (fun c => c.result.outcome) = [.badOrder]) = true := by decide +kernel

/-- An ENROL of station 9 with 4 slots from a given slot. -/
def enrolOrder (firstSlot : Nat) : Order :=
  anOrder 0x01 9 0 0 0 ([0x21#8, 4#8] ++ leBytes firstSlot 2 ++ [2#8, 2#8, 3#8, 1#8, 0#8])

theorem test_enrol :
    holds .enrol (ordered (enrolOrder 20) active)
      (fun t => t.stations.map (fun r => (r.address, r.lanePref)) = [(5, .a), (9, .b)] ∧
        t.oru.completion.map (fun c => c.result.outcome) = [.done]) = true := by decide +kernel
theorem test_enrol_overlap :
    holds .enrol (ordered (enrolOrder 13) active)
      (fun t => t.stations.length = 1 ∧ t.oru.completion.map (fun c => c.result.outcome) = [.overlap]) = true := by
  decide +kernel
theorem test_retire :
    holds .retire { ordered (anOrder 0x02 5 0 0 0 []) active with swe.active := [5, 5], swe.pendingList := [5] }
      (fun t => t.stations = [] ∧ t.swe.active = [] ∧ t.swe.pendingList = []) = true := by decide +kernel

/-- A SHAPE of channels 1 and 2 of station 5 to TOTAL. -/
def shapeOrder : Order := anOrder 0x03 5 1 0 1 [1#8, 1#8, 2#8, 0#8, 0xFE#8]

theorem test_shape :
    holds .shape (ordered shapeOrder active)
      (fun t => (t.point 11).conv.mode = .total ∧ (t.point 12).conv.shift.toInt = -2 ∧
        (t.point 13).conv.mode = .instant) = true := by decide +kernel
theorem test_shape_waits :
    holds .shape { ordered shapeOrder active with oru.busQueue := [BusEntry.new readOrder] }
      (fun t => t.oru.hand = .holdWait shapeOrder ∧ t.stations.all (fun r => r.held)) = true := by decide +kernel
theorem test_scan_begin :
    holds .scanBegin
      { ordered (anOrder 0x04 0 0 0 0 []) active with swe.pendingList := [5], swe.pendingReady := true }
      (fun t => t.swe.pendingList = [] ∧ !t.swe.pendingReady) = true := by decide +kernel
theorem test_scan_add :
    holds .scanAdd (ordered (anOrder 0x05 0 0 2 0 [5#8, 5#8]) active) (fun t => t.swe.pendingList = [5, 5]) = true ∧
      holds .scanAdd (ordered (anOrder 0x05 0 0 2 0 [5#8, 6#8]) active)
        (fun t => t.oru.completion.map (fun c => (c.result.outcome, c.result.detail)) = [(.notFound, 1)]) = true := by
  decide +kernel
theorem test_scan_commit :
    holds .scanCommit { ordered (anOrder 0x06 0 0 0 0 []) active with swe.pendingList := [5] }
      (fun t => t.swe.active = [5] ∧ t.swe.pendingList = []) = true := by decide +kernel
theorem test_read : holds .read (ordered readOrder active) (fun t => t.oru.busQueue.length = 1) = true := by
  decide +kernel
theorem test_write :
    holds .write (ordered (anOrder 0x08 5 0 4 0 []) active) (fun t => t.oru.busQueue.length = 1) = true ∧
      holds .write (ordered (anOrder 0x08 5 1 4 0 []) active)
        (fun t => t.oru.completion.map (fun c => c.result.outcome) = [.badOrder]) = true := by decide +kernel
theorem test_latch :
    holds .latch (ordered (anOrder 0x09 126 0 0 0 []) active) (fun t => t.oru.busQueue.length = 1) = true ∧
      holds .latch (ordered (anOrder 0x09 126 0 0 0 []) listening)
        (fun t => t.oru.completion.map (fun c => c.result.outcome) = [.notActive]) = true := by decide +kernel
theorem test_snap :
    holds .snap (ordered (anOrder 0x0A 5 1 2 0 []) active)
      (fun t => t.oru.completion.map (fun c => c.result.entries) =
        [.values [Point.default.snapEntry 1, Point.default.snapEntry 2]]) = true := by decide +kernel
theorem test_take_totals :
    holds .takeTotals
      { ordered (anOrder 0x0B 5 0 1 0 []) active with
        points := active.points.set 10
          { meter with image := { meter.image with total := 7, value := 7, clipCount := 1, lastRaw := some 9 } } }
      (fun t => (t.point 10).image.total = 0 ∧ (t.point 10).image.lastRaw = some 9 ∧
        t.oru.completion.map (fun c => match c.result.entries with
          | .totals l => l.map (fun e => e.total)
          | .values _ => []
          | .counters _ => []) = [[7]]) = true := by decide +kernel

/-- A ROLE order with a given request code. -/
def roleOrder (code : Byte) : Order := anOrder 0x0C 0 0 0 0 [code]

theorem test_claim :
    holds .claim { ordered (roleOrder 1) listening with msu.shift := 2 }
      (fun t => t.msu.role = .active ∧ t.msu.shift = 0 ∧ t.rpu.staging.length = 1 ∧ t.swe.startDue) = true ∧
    holds .claim
      { ordered (roleOrder 1) listening with msu.windDown := some { awaitHand := false } }
      (fun t => t.oru.hand = .claimDeferred (roleOrder 1)) = true := by decide +kernel
theorem test_yield :
    holds .yield (ordered (roleOrder 2) active)
      (fun t => t.msu.role = .listen ∧ t.msu.roleDue.length = 1 ∧ t.oru.hand = .yieldStaging (roleOrder 2)) = true := by
  decide +kernel
theorem test_role :
    holds .role (ordered (roleOrder 3) active)
      (fun t => t.oru.completion.map (fun c => c.result.outcome) = [.badOrder]) = true := by decide +kernel
theorem test_marker :
    holds .marker { ordered (anOrder 0x0D 0 0 0 0 []) active with oru.busQueue := [BusEntry.new readOrder] }
      (fun t => t.oru.hand = .markerWait (anOrder 0x0D 0 0 0 0 [])) = true := by decide +kernel
theorem test_stats :
    holds .stats { ordered (anOrder 0x0E 0 0 0 0 []) active with lanes.b.damaged := 4 }
      (fun t => t.oru.completion.map (fun c => c.result.entries) = [.counters [0, 0, 0, 4, 0, 0]]) = true := by
  decide +kernel
theorem test_hold_satisfied :
    holds .holdSatisfied { active with oru.hand := .holdWait shapeOrder }
      (fun t => (t.point 11).conv.mode = .total ∧ t.oru.hand = .stageWait shapeOrder) = true := by decide +kernel
theorem test_order_result_stage :
    holds .orderResultStage
      { active with
        oru.hand := .stageWait readOrder, oru.completion := [{ fromHand := true, result := readOrder.result .badOrder 0 (.values []) }] }
      (fun t => t.rpu.staging.length = 1 ∧ t.oru.hand = .empty ∧ t.rpu.events.orderErr) = true := by decide +kernel

/-- ACTIVE and SWEEPING, with the claim for station 5 raised. -/
def claiming : State :=
  { active with
    swe := { active.swe with state := .sweeping, active := [5], startDue := false, claim := some 5, firstPoll := true } }

theorem test_bus_grant :
    holds .busGrant claiming
      (fun t => t.bar.token = .busQueue ∧ t.bar.reserved = 2 ∧ t.exu.seqCounter = 1 ∧
        t.lanes.a.tx = .starting (withCheck [5#8, 0x92#8, 0#8]) ∧ t.lanes.b.tx = .idle) = true := by decide +kernel
theorem test_start_delimiter :
    holds (.startDelimiter .a .sent) { polling with lanes.a.tx := .starting [5#8] }
      (fun t => t.lanes.a.sent = 1 ∧ t.lanes.a.tx = .sending [5#8]) = true ∧
    holds (.startDelimiter .b (.heard 3000)) listening (fun t => t.lanes.b.rx = .receiving) = true ∧
    holds (.startDelimiter .b (.heard 2999)) listening (fun t => t.lanes.b.rx = .quiet) = true := by decide +kernel
theorem test_telegram_sent :
    holds (.telegramSent .a)
      { polling with lanes.a.tx := .sending [5#8], exu.exchange := some (poll.setPart .a .sending) }
      (fun t => t.exu.exchange = some (poll.setPart .a .waiting) ∧ t.lanes.a.tx = .idle) = true := by decide +kernel
theorem test_telegram_received :
    holds (.telegramReceived .a (heardAs goodReply.telegram)) polling
      (fun t => t.exu.exchange = none ∧ (t.point 10).image.value = 3 ∧ (t.point 11).image.value = 4 ∧
        t.stations.map (fun r => (r.readCursor, r.lastCondition)) = [(2, some 0x11#8)] ∧ t.swe.sweepCount = 1) =
      true := by decide +kernel
theorem test_telegram_damaged :
    holds (.telegramReceived .a (heardAs (goodReply.telegram.set 7 0#8))) polling
      (fun t => t.lanes.a.damaged = 1 ∧ t.lanes.a.faults = 1 ∧
        t.exu.exchange.map (fun x => x.attempt) = some 2 ∧ t.lanes.a.tx ≠ .idle) = true := by decide +kernel
theorem test_reply_window_expiry :
    holds (.replyWindowExpiry .a)
      { polling with exu.exchange := some { poll with partA := .waiting, attempt := 2 } }
      (fun t => t.exu.exchange = none ∧ t.lanes.silentWindows = 1 ∧
        t.stations.map (fun r => (r.health, r.missCount)) = [(.suspect, 1)]) = true := by decide +kernel
theorem test_overheard_window_expiry :
    holds (.overheardWindowExpiry .a) { listening with exu.overheard := some overheard }
      (fun t => t.exu.overheard = none) = true := by decide +kernel
theorem test_learned_reply :
    holds (.telegramReceived .a (heardAs goodReply.telegram))
      { listening with
        lanes.a.rx := .receiving
        exu.overheard := some (overheard.setLane .a { OverLane.fresh with receiving := true }) }
      (fun t => t.exu.overheard = none ∧ (t.point 10).image.value = 3) = true := by decide +kernel
theorem test_contest :
    holds (.telegramReceived .b (heardAs (foreign 0).telegram)) { active with lanes.b.rx := .receiving }
      (fun t => t.msu.role = .listen ∧ t.msu.contestCount = 1) = true := by decide +kernel
theorem test_takeover_timer_expiry :
    holds .takeoverTimerExpiry listening
      (fun t => t.msu.role = .active ∧ t.swe.startDue ∧ t.rpu.staging.length = 1) = true := by decide +kernel
theorem test_mark_timer_expiry :
    holds .markTimerExpiry active (fun t => t.msu.markClaim ∧ !t.msu.markTimer) = true := by decide +kernel
theorem test_role_result_stage :
    holds .roleResultStage
      { listening with
        msu := { listening.msu with
          takeoverTimer := false, windDown := some { awaitHand := false }
          roleDue := [{ role := .listen, previous := .active, reason := .hostSilent, shift := 1, foreignTag := none }] } }
      (fun t => t.msu.takeoverTimer ∧ t.msu.windDown = none ∧ t.rpu.events.role) = true := by decide +kernel
theorem test_period_timer_expiry :
    holds .periodTimerExpiry { polling with swe.periodTimer := true }
      (fun t => t.swe.late ∧ t.swe.overrunCount = 1 ∧ t.rpu.events.overrun) = true := by decide +kernel
theorem test_sweep_start :
    holds .sweepStart { active with swe.pendingList := [5], swe.pendingReady := true }
      (fun t => t.swe.state = .sweeping ∧ t.swe.active = [5] ∧ t.swe.firstPoll) = true := by decide +kernel
theorem test_sweep_claim :
    holds .sweepClaim { claiming with swe.claim := none } (fun t => t.swe.claim = some 5) = true := by decide +kernel
theorem test_sweep_result_stage :
    holds .sweepResultStage { claiming with swe.claim := none, swe.endWait := true }
      (fun t => t.swe.state = .idle ∧ t.rpu.staging.length = 1) = true := by decide +kernel
theorem test_drain_timer_expiry :
    holds .drainTimerExpiry { draining with oru.cache := [readOrder] }
      (fun t => t.ctl.dropped = 1 ∧ t.ctl.drainEnded ∧ t.rpu.reportDue) = true := by decide +kernel
theorem test_drain_end :
    holds .drainEnd draining (fun t => t.ctl.dropped = 0 ∧ t.rpu.reportDue) = true := by decide +kernel
theorem test_no_delimiter :
    holds (.noDelimiter .a 2999) listening (fun t => t.lanes.a.rx = .discarding) = true := by decide +kernel
theorem test_lane_quiet :
    holds (.laneQuiet .a) { listening with lanes.a.rx := .discarding } (fun t => t.lanes.a.rx = .quiet) = true := by
  decide +kernel

/-! ### Every hypothesis can be met: witnesses, obligation by obligation -/

theorem test_witness_StepRunsTheFrontCommand : State.reset.pending = [] ∧ (active.withPending [.halt]).pending = [.halt] :=
  ⟨rfl, rfl⟩

theorem test_witness_WellFormedCommandsAreTaken :
    (Instr.orderFetchDone (List.replicate 32 0)).wellFormed = true ∧
      ∀ address k, some (ReadAccess.orderFetch 0x2000 1) = some (ReadAccess.orderFetch address k) →
        (List.replicate 32 (0 : Byte)).length = 32 * k :=
  ⟨by decide +kernel, fun _ _ h => by cases h; decide +kernel⟩

/-- The four ways a head of Staging can stand (SettleBringsLevelsUpToDate). -/
theorem test_witness_SettleBringsLevelsUpToDate :
    { active with rpu.staging := [.order longResult] }.settle.rpu.bulkWaitTimer = true ∧
    { active with
      rpu.staging := [.order longResult]
      xpt.directory := some { settings with bulkWait := 0 } }.settle.rpu.head = .inlineOnly false ∧
    { active with
      rpu.staging := [.order longResult], xpt.hostBlock.bulkPosted := 1 }.settle.rpu.bulkWaitTimer = false ∧
    { active with
      rpu.changed := true, xpt.directory := some { settings with reportHold := 0 } }.settle.rpu.reportDue = true := by
  decide +kernel

theorem test_witness_RegisterWindow :
    (State.reset.ctl.exchangeState = .halted ∧ State.reset.ctl.start = none) ∧
      active.ctl.exchangeState ≠ .halted ∧ starting.ctl.start ≠ none ∧
      ((4 : Word) ≠ 1 ∧ (4 : Word) ≠ 2 ∧ (4 : Word) ≠ 3) := by decide +kernel

theorem test_witness_StartReadsAndTestsTheDirectory :
    starting.ctl.start = some { base := 0x10000, directory := none } ∧
      starting.xpt.readPath = some (.directory 0x10000) ∧ (directoryBytes 16 2 1).length = 64 ∧
      parseDirectory (directoryBytes 16 2 1) = some settings ∧ (directoryBytes 1025 2 1).length = 64 ∧
      parseDirectory (directoryBytes 1025 2 1) = none ∧ (parseDirectory (directoryBytes 1024 3 0)).isSome ∧
      parseDirectory (directoryBytes 16 4 1) = none ∧ parseDirectory (directoryBytes 16 2 2) = none := by decide +kernel

/-- Counts at the bounds of R183: 16 orders posted and 8 supply entries pass; one more, or a released result, fails. -/
theorem test_witness_StartTestsTheCountsAndRuns :
    startingBlock.ctl.start = some { base := 0x10000, directory := some settings } ∧
      startingBlock.xpt.readPath = some (.startHostBlock 0x10040) ∧ (hostBytes 16 0 8 3).length = 16 ∧
      leNat (hostBytes 16 0 8 3) 0 4 ≤ settings.orderSize ∧ leNat (hostBytes 16 0 8 3) 4 4 = 0 ∧
      leNat (hostBytes 16 0 8 3) 8 4 ≤ settings.supplySize ∧ settings.orderSize < leNat (hostBytes 17 0 8 3) 0 4 ∧
      leNat (hostBytes 16 1 8 3) 4 4 ≠ 0 ∧ settings.supplySize < leNat (hostBytes 16 0 9 3) 8 4 ∧
      settings.startRole = .active := by decide +kernel

theorem test_witness_AccessErrors :
    (starting.Phases ∧ starting.ctl.start.isSome ∧ starting.xpt.readPath.isSome) ∧
      (active.Phases ∧ active.Hosting ∧ { active with xpt.readPath := some (.hostBlock 0) }.xpt.readPath.isSome ∧
        { active with rpu.writePath := some (.bulk 0 []) }.rpu.writePath.isSome) ∧
      (faulted.Phases ∧ faulted.ctl.exchangeState = .faulted) := by
  refine ⟨⟨⟨?_, ?_, ?_, ?_⟩, ?_⟩, ⟨⟨?_, ?_, ?_, ?_⟩, Or.inl rfl, ?_⟩, ⟨?_, ?_, ?_, ?_⟩, ?_⟩ <;> decide +kernel

theorem test_witness_HaltInEveryState :
    active.ctl.exchangeState = .running ∧ active.exu.exchange = none ∧ polling.ctl.exchangeState = .running ∧
      polling.exu.exchange.isSome ∧ faulted.ctl.exchangeState = .faulted ∧ State.reset.ctl.exchangeState = .halted ∧
      draining.ctl.exchangeState = .draining := by decide +kernel

theorem test_witness_TheDrainEnds :
    (draining.ctl.exchangeState = .draining ∧ draining.ctl.drainTimer = true ∧ draining.xpt.readPath = none ∧
        draining.rpu.writePath = none) ∧
      { draining with xpt.readPath := some (.hostBlock 0) }.xpt.readPath.isSome ∧
      (draining.ctl.drainEnded = false ∧ draining.exu.exchange = none ∧ draining.oru.cache = [] ∧
        draining.oru.hand = .empty ∧ draining.oru.busQueue = [] ∧ draining.oru.completion = [] ∧
        draining.swe.abandoning = false ∧ draining.msu.roleDue = [] ∧ draining.rpu.staging = []) := by decide +kernel

/-- A Host Block read wanted, a supply entry wanted, and an order fetch wanted at the end of the ring. -/
theorem test_witness_HostReadsBegin :
    active.Hosting ∧ State.reset.ctl.exchangeState = .halted ∧ faulted.ctl.exchangeState = .faulted ∧
      active.xpt.lookTimer = true ∧
      (active.ctl.drainExpired = false ∧ active.ctl.drainEnded = false ∧ active.xpt.readPath = none ∧
        { active with xpt.readWanted := true }.xpt.readWanted = true) ∧
      (active.xpt.readWanted = false ∧
        { active with
          rpu.staging := [.order longResult], xpt.hostBlock.bulkPosted := 1 }.headNeedsBuffer = true ∧
        { active with
          rpu.staging := [.order longResult], xpt.hostBlock.bulkPosted := 1 }.supplyAvailable = true) ∧
      (active.headNeedsBuffer = false ∧ active.ctl.exchangeState = .running ∧
        active.oru.cache.length < active.dir.refillThreshold ∧ (15 : Word) ≠ 16) :=
  ⟨Or.inl rfl, by decide +kernel⟩

/-- Counts at the bounds of R163, and one past each. -/
theorem test_witness_HostBlockReadIsTested :
    active.Hosting ∧ active.xpt.readPath = none ∧
      { active with xpt.readPath := some (.hostBlock 0x10040) }.xpt.readPath = some (.hostBlock 0x10040) ∧
      (hostBytes 16 0 8 1).length = 16 ∧
      State.countsOk (parseHostBlock (hostBytes 16 2 8 1)) { active with rpu.resultsWritten := 2 } = true ∧
      State.countsOk (parseHostBlock (hostBytes 17 0 8 1)) active = false ∧
      State.countsOk (parseHostBlock (hostBytes 16 3 8 1)) { active with rpu.resultsWritten := 2 } = false ∧
      State.countsOk (parseHostBlock (hostBytes 16 0 9 1)) active = false ∧
      State.countsOk (parseHostBlock (hostBytes 16 0 1 1))
        { active with xpt.directory := some { settings with supplySize := 0 } } = false ∧
      State.countsOk (parseHostBlock (hostBytes 16 0 0 1))
        { active with xpt.directory := some { settings with supplySize := 0 } } = true :=
  ⟨Or.inl rfl, by decide +kernel⟩

theorem test_witness_OrdersAreFetched :
    active.Hosting ∧ { active with xpt.readPath := some (.orderFetch 0x2000 8) }.xpt.readPath =
        some (.orderFetch 0x2000 8) ∧
      (List.replicate 256 (0 : Byte)).length = 32 * 8 ∧ active.rpu.changed = false ∧
      (List.replicate 32 (0xFF : Byte)).length = 32 :=
  ⟨Or.inl rfl, by decide +kernel⟩

/-- Supply entries at the bounds of R167, and one past each. -/
theorem test_witness_SupplyEntryIsTested :
    active.Hosting ∧ (zeroFilled 16 (leBytes 8 8 ++ leBytes 64 4)).length = 16 ∧
      supplyValid (zeroFilled 16 (leBytes 8 8 ++ leBytes 64 4)) = true ∧
      supplyValid (zeroFilled 16 (leBytes 8 8 ++ leBytes 4096 4)) = true ∧
      supplyValid (zeroFilled 16 (leBytes 4 8 ++ leBytes 64 4)) = false ∧
      supplyValid (zeroFilled 16 (leBytes 8 8 ++ leBytes 4160 4)) = false ∧
      supplyValid (zeroFilled 16 (leBytes 8 8 ++ leBytes 96 4)) = false ∧
      supplyValid (zeroFilled 16 (leBytes 8 8 ++ leBytes 0 4)) = false :=
  ⟨Or.inl rfl, by decide +kernel⟩

/-- A head that needs no buffer, and one whose buffer is held; the ring with its last place free. -/
theorem test_witness_ResultsAreWritten :
    active.Hosting ∧ active.ctl.drainExpired = false ∧ active.ctl.drainEnded = false ∧
      ((15 : Word) - 0).toNat < active.dir.resultSize ∧ active.rpu.writePath = none ∧ active.rpu.reportDue = false ∧
      { active with rpu.staging := [.order aResult] }.headNeedsBuffer = false ∧
      { active with
        rpu.staging := [.order longResult], rpu.head := .buffer 8 64 0 }.headNeedsBuffer = false ∧
      HeadSettlement.isBuffer .unsettled = false ∧
      { active with rpu.writePath := some (.bulk 8 []) }.rpu.writePath = some (.bulk 8 []) :=
  ⟨Or.inl rfl, by decide +kernel⟩

theorem test_witness_RecordWriteCompletes :
    active.Hosting ∧ { active with rpu.staging := [.order aResult] }.rpu.staging = .order aResult :: [] ∧
      { active with rpu.writePath := some (.record 0 []) }.rpu.writePath = some (.record 0 []) ∧
      active.rpu.changed = false ∧ (Result.order aResult).reportNow = true ∧ settings.reportCount ≤ 1 + 1 ∧
      (Result.order longResult).truncated (.inlineOnly false) = true :=
  ⟨Or.inl rfl, by decide +kernel⟩

theorem test_witness_ReportBlockIsTaken :
    active.Hosting ∧ active.ctl.drainExpired = false ∧ { active with rpu.reportDue := true }.rpu.reportDue = true ∧
      active.rpu.writePath = none ∧ active.msu.shift ≤ 3 ∧ active.lanes.a.faults ≤ 15 ∧ active.lanes.b.faults ≤ 15 ∧
      active.stations.length ≤ 48 :=
  ⟨Or.inl rfl, by decide +kernel⟩

theorem test_witness_ReportBlockCompletes :
    (active.Hosting ∧ active.ctl.drainEnded = false) ∧
      (draining.Hosting ∧ { draining with ctl.drainEnded := true }.ctl.drainEnded = true) ∧
      { active with rpu.writePath := some (.report 0 [] 1) }.rpu.writePath = some (.report 0 [] 1) :=
  ⟨⟨Or.inl rfl, rfl⟩, ⟨Or.inr rfl, rfl⟩, rfl⟩

theorem test_witness_ReportUnitTimers :
    { active with rpu.bulkWaitTimer := true }.rpu.bulkWaitTimer = true ∧
      { active with rpu.holdTimer := true }.rpu.holdTimer = true ∧
      { active with rpu.attention := .running }.rpu.attention = .running ∧ listening.msu.role = .listen ∧
      active.msu.role = .active ∧ active.ctl.exchangeState = .running ∧ draining.msu.role = .off := by decide +kernel

theorem test_witness_ResultRecords :
    (Result.order aResult).needsBuffer = false ∧ (Result.order longResult).needsBuffer = true ∧
      HeadSettlement.buffer 8 64 0 ≠ .unsettled := by decide +kernel

theorem test_witness_OrdersThatEndAtOnceOrMark :
    (draining.ctl.exchangeState = .draining ∧ draining.oru.hand = .empty ∧ draining.oru.completion = [] ∧
        (ordered readOrder draining).oru.cache.head? = some readOrder) ∧
      (anOrder 0x0F 0 0 0 0 []).kind? = none ∧ (anOrder 0x00 0 0 0 0 []).kind? = none ∧
      ((ordered (roleOrder 3) active).Takes (roleOrder 3) .role ∧ byteAt (roleOrder 3).body 0 ≠ 1 ∧
        byteAt (roleOrder 3).body 0 ≠ 2) ∧
      (ordered (anOrder 0x0E 0 0 0 0 []) active).Takes (anOrder 0x0E 0 0 0 0 []) .stats ∧
      (ordered (anOrder 0x0D 0 0 0 0 []) active).Takes (anOrder 0x0D 0 0 0 0 []) .marker ∧
      active.oru.busQueue = [] ∧ { active with oru.busQueue := [BusEntry.new readOrder] }.oru.busQueue ≠ [] :=
  ⟨by decide +kernel, by decide +kernel, by decide +kernel,
    ⟨takes_ordered _ _ (by decide +kernel), by decide +kernel, by decide +kernel⟩,
    takes_ordered _ _ (by decide +kernel), takes_ordered _ _ (by decide +kernel), by decide +kernel, by decide +kernel⟩

/-- 48 stations in slots 0 to 47. -/
def fullTable : List StationRecord :=
  (List.range 48).map (fun i => { station5 with address := 20 + i, firstSlot := i, slotCount := 1 })

/-- An ENROL that succeeds in the last slots of the table, and one for each of the four tests. -/
theorem test_witness_Enrolment :
    (ordered (enrolOrder 380) active).Takes (enrolOrder 380) .enrol ∧
      ((enrolOrder 380).enrolRecord?.isSome ∧ (enrolOrder 381).enrolRecord? = none) ∧
      (active.station? 9 = none ∧
        ∃ r, (enrolOrder 380).enrolRecord? = some r ∧ (∀ q ∈ active.stations, r.overlaps q = false) ∧
          active.stations.length < 48 ∧ (∀ q ∈ fullTable, r.overlaps q = false)) ∧
      ({ active with stations := [{ station5 with address := 9 }] }.station? 9).isSome ∧
      (∃ r, (enrolOrder 13).enrolRecord? = some r ∧ ∃ q ∈ active.stations, r.overlaps q = true) ∧
      48 ≤ fullTable.length := by
  refine ⟨takes_ordered _ _ (by decide +kernel), by decide +kernel, ⟨by decide +kernel, ?_⟩, by decide +kernel, ?_,
    by decide +kernel⟩
  · exact ⟨_, rfl, by decide +kernel, by decide +kernel, by decide +kernel⟩
  · exact ⟨_, rfl, station5, by decide +kernel, by decide +kernel⟩

/-- A RETIRE of station 5. -/
def retireOrder : Order := anOrder 0x02 5 0 0 0 []

/-- A SHAPE of the last channel of station 5. -/
def shapeLast : Order := anOrder 0x03 5 3 0 0 [0#8]

theorem test_witness_RetireAndHolds :
    active.station? 5 = some station5 ∧ active.swe.claim ≠ some 5 ∧
      (∃ e ∈ { active with oru.busQueue := [BusEntry.new readOrder] }.oru.busQueue, e.order.station = retireOrder.station) ∧
      (∃ x, polling.exu.exchange = some x ∧ x.address = retireOrder.station) ∧
      (ordered retireOrder active).Takes retireOrder .retire ∧ (ordered shapeLast active).Takes shapeLast .shape ∧
      shapeLast.conversion?.isSome ∧ shapeLast.first + shapeLast.repeats < station5.slotCount ∧
      (active.exu.exchange = none ∧ active.swe.state ≠ .sweeping ∧ active.swe.claim = none ∧ active.oru.busQueue = []) := by
  refine ⟨by decide +kernel, by decide +kernel, ⟨_, List.mem_singleton.2 rfl, rfl⟩, ⟨_, rfl, rfl⟩,
    takes_ordered _ _ (by decide +kernel), takes_ordered _ _ (by decide +kernel), ?_⟩
  decide +kernel

theorem test_witness_ShapeIsApplied :
    (ordered shapeOrder active).Takes shapeOrder .shape ∧ active.station? 5 = some station5 ∧
      shapeOrder.conversion?.isSome ∧ shapeOrder.first + shapeOrder.repeats < station5.slotCount ∧
      shapeOrder.kind? = some .shape ∧ { active with oru.hand := .holdWait shapeOrder }.oru.hand = .holdWait shapeOrder ∧
      (active.exu.exchange = none ∧ active.swe.claim = none ∧ active.oru.busQueue = []) :=
  ⟨takes_ordered _ _ (by decide +kernel), by decide +kernel⟩

/-- A SCAN_ADD of 16 addresses. -/
def scanAdd16 : Order := anOrder 0x05 0 0 16 0 (List.replicate 16 5)

/-- Counts 0, 17 and addresses 0, 126 are out of range; 48 entries leave room for 16 more and 49 do not. -/
theorem test_witness_ScanAdd :
    (ordered scanAdd16 active).Takes scanAdd16 .scanAdd ∧
      (scanAdd16.count = 16 ∧ (scanAdd16.body.take scanAdd16.count).map BitVec.toNat = List.replicate 16 5 ∧
        (active.station? 5).isSome) ∧
      ((anOrder 0x05 0 0 17 0 []).kind? = some .scanAdd ∧ (anOrder 0x05 0 0 0 0 []).count = 0) ∧
      ((anOrder 0x05 0 0 2 0 [5#8, 6#8]).body.take 2).map BitVec.toNat = [5, 6] ∧ active.station? 6 = none ∧
      (List.replicate 48 5).length + 16 ≤ 64 ∧ 64 < (List.replicate 49 5).length + 16 :=
  ⟨takes_ordered _ _ (by decide +kernel), by decide +kernel⟩

theorem test_witness_ScanBeginAndCommit :
    (ordered (anOrder 0x04 0 0 0 0 []) active).Takes (anOrder 0x04 0 0 0 0 []) .scanBegin ∧
    (ordered (anOrder 0x06 0 0 0 0 []) active).Takes (anOrder 0x06 0 0 0 0 []) .scanCommit ∧
      active.swe.state ≠ .sweeping ∧ claiming.swe.state = .sweeping :=
  ⟨takes_ordered _ _ (by decide +kernel), takes_ordered _ _ (by decide +kernel), by decide +kernel⟩

/-- A WRITE of the four points of station 5, and a LATCH to it. -/
theorem test_witness_BusOrdersAreValidatedAndQueued :
    (ordered readOrder active).Takes readOrder .read ∧
      (ordered (anOrder 0x08 5 0 4 0 []) active).Takes (anOrder 0x08 5 0 4 0 []) .write ∧
      (ordered (anOrder 0x09 5 0 0 0 []) active).Takes (anOrder 0x09 5 0 0 0 []) .latch ∧
      (active.msu.role = .active ∧ active.station? 5 = some station5 ∧ station5.health ≠ .mismatch ∧
        readOrder.first + readOrder.count ≤ station5.slotCount ∧ 0 + 4 ≤ station5.slotCount ∧
        ∀ i, i < 4 → (active.point (station5.firstSlot + 0 + i)).conv.mode ≠ .total) ∧
      active.oru.busQueue.length < 4 ∧ ¬ (List.replicate 4 (BusEntry.new readOrder)).length < 4 :=
  ⟨takes_ordered _ _ (by decide +kernel), takes_ordered _ _ (by decide +kernel), takes_ordered _ _ (by decide +kernel),
    by decide +kernel⟩

/-- A READ that each validation step refuses. -/
theorem test_witness_BusOrders_refused :
    ((ordered (anOrder 0x07 126 0 1 0 []) active).Takes (anOrder 0x07 126 0 1 0 []) .read) ∧
      ((ordered (anOrder 0x07 6 0 1 0 []) active).Takes (anOrder 0x07 6 0 1 0 []) .read ∧ active.station? 6 = none) ∧
      ({ active with stations := [{ station5 with health := .mismatch }] }.station? 5).isSome ∧
      station5.slotCount < 3 + 2 ∧
      ((ordered readOrder listening).Takes readOrder .read ∧ listening.msu.role ≠ .active) :=
  ⟨takes_ordered _ _ (by decide +kernel), ⟨takes_ordered _ _ (by decide +kernel), by decide +kernel⟩, by decide +kernel,
    by decide +kernel, takes_listening _ _ (by decide +kernel), by decide +kernel⟩

theorem test_witness_SnapAndTakeTotals :
    (ordered (anOrder 0x0A 5 0 4 0 []) active).Takes (anOrder 0x0A 5 0 4 0 []) .snap ∧
      (ordered (anOrder 0x0B 5 3 1 0 []) active).Takes (anOrder 0x0B 5 3 1 0 []) .takeTotals ∧
      active.station? 5 = some station5 ∧ 0 + 4 ≤ station5.slotCount ∧ 3 + 1 ≤ station5.slotCount :=
  ⟨takes_ordered _ _ (by decide +kernel), takes_ordered _ _ (by decide +kernel), by decide +kernel⟩

theorem test_witness_ClaimAndYield :
    (ordered (roleOrder 1) active).Takes (roleOrder 1) .role ∧ (ordered (roleOrder 1) listening).Takes (roleOrder 1) .role ∧
      (ordered (roleOrder 2) active).Takes (roleOrder 2) .role ∧
      (ordered (roleOrder 2) listening).Takes (roleOrder 2) .role ∧
      (byteAt (roleOrder 1).body 0 = 1 ∧ byteAt (roleOrder 2).body 0 = 2 ∧ active.msu.role = .active ∧
        listening.msu.role = .listen ∧ listening.msu.windDown = none ∧ listening.msu.roleDue = [] ∧
        listening.rpu.staging.length + listening.bar.reserved < 6) :=
  ⟨takes_ordered _ _ (by decide +kernel), takes_listening _ _ (by decide +kernel), takes_ordered _ _ (by decide +kernel),
    takes_listening _ _ (by decide +kernel), by decide +kernel⟩

/-- A CLAIM in LISTEN during a wind-down. -/
theorem test_witness_ClaimAndYield_windDown :
    (ordered (roleOrder 1) { listening with msu.windDown := some { awaitHand := false } }).Takes (roleOrder 1) .role ∧
      (ordered (roleOrder 1) { listening with msu.windDown := some { awaitHand := false } }).msu.windDown.isSome :=
  ⟨⟨rfl, rfl, rfl, rfl, by decide +kernel⟩, rfl⟩

/-- Five results staged leave one place, and a READ with each of its outcomes. -/
theorem test_witness_OrderResults :
    draining.Hosting ∧ (List.replicate 5 (Result.order aResult)).length + 0 < 6 ∧
      { active with oru.completion := [{ fromHand := true, result := aResult }] }.oru.completion =
        { fromHand := true, result := aResult } :: [] ∧
      (0 < { BusEntry.new readOrder with good := 1 }.good ∧
        0 < { BusEntry.new readOrder with good := 1, miss := 1 }.miss ∧
        { BusEntry.new readOrder with refused := 1, busy := 1 }.good = 0 ∧
        0 < { BusEntry.new readOrder with busy := 1 }.busy ∧ (BusEntry.new readOrder).good = 0) :=
  ⟨Or.inr rfl, by decide +kernel⟩

/-- Each branch of the arbiter's choice, and a grant with three places free. -/
theorem test_witness_BusIsGranted :
    ({ claiming with oru.busQueue := [BusEntry.new { readOrder with urgent := true }] }.chooseClaim = some (.entry 0) ∧
      { claiming with oru.busQueue := [BusEntry.new readOrder] }.chooseClaim = some (.sweep 5) ∧
      { claiming with oru.busQueue := [BusEntry.new readOrder], bar.token := .busQueue }.chooseClaim = some (.entry 0) ∧
      { active with oru.busQueue := [BusEntry.new readOrder] }.chooseClaim = some (.entry 0) ∧
      { active with msu.markClaim := true }.chooseClaim = some .mark ∧ active.chooseClaim = none) ∧
    (claiming.msu.role = .active ∧ claiming.ctl.exchangeState = .running ∧ claiming.exu.exchange = none ∧
      (List.replicate 3 (Result.order aResult)).length + claiming.bar.reserved ≤ 3 ∧
      claiming.chooseClaim = some (.sweep 5) ∧ claiming.station? 5 = some station5 ∧ station5.verified = true ∧
      station5.health ≠ .mismatch) := by decide +kernel

/-- A LATCH order to all stations. -/
def latchOrder : Order := anOrder 0x09 126 0 0 0 []

/-- A grant open to an entry whose station is verified, unverified or in MISMATCH, to a LATCH to all stations, to a mark,
and to the poll of a station in MISMATCH. -/
theorem test_witness_EntriesAndMarksAreGranted :
    (let s : State := { active with oru.busQueue := [BusEntry.new readOrder] }
     s.grantOpen = true ∧ s.chooseClaim = some (.entry 0) ∧ s.oru.busQueue[0]? = some (BusEntry.new readOrder) ∧
      readOrder.station ≠ 126 ∧ s.station? 5 = some station5 ∧ station5.health ≠ .mismatch ∧ station5.verified = true ∧
      readOrder.kind? = some .read ∧ (anOrder 0x08 5 0 4 0 []).kind? = some .write ∧
      (anOrder 0x09 5 0 0 0 []).kind? = some .latch ∧ s.oru.hand = .empty) ∧
    (let q := { station5 with verified := false, health := .unknown }
     let s : State := { active with stations := [q], oru.busQueue := [BusEntry.new readOrder] }
     s.grantOpen = true ∧ s.chooseClaim = some (.entry 0) ∧ s.station? 5 = some q ∧ q.verified = false ∧
      q.health ≠ .mismatch) ∧
    (let q := { station5 with health := .mismatch }
     let s : State := { active with stations := [q], oru.busQueue := [BusEntry.new readOrder] }
     s.grantOpen = true ∧ s.chooseClaim = some (.entry 0) ∧ s.station? 5 = some q ∧ q.health = .mismatch ∧
      s.oru.hand = .empty ∧ { claiming with stations := [q] }.grantOpen = true ∧
      { claiming with stations := [q] }.chooseClaim = some (.sweep 5) ∧
      { claiming with stations := [q] }.station? 5 = some q) ∧
    (let s : State := { active with oru.busQueue := [BusEntry.new latchOrder] }
     s.grantOpen = true ∧ s.chooseClaim = some (.entry 0) ∧ latchOrder.station = 126) ∧
    ({ active with msu.markClaim := true }.grantOpen = true ∧
      { active with msu.markClaim := true }.chooseClaim = some .mark) := by decide +kernel

/-- Every lane mode, in ALTERNATE every pair of lane states, and an attempt on Lane A alone. -/
theorem test_witness_LanesOfAttempts :
    (poll.partA ≠ .unused ∧ poll.partB = .unused) ∧
    active.dir.laneMode = .singleA ∧
      (∀ mode, { active with xpt.directory := some { settings with laneMode := mode } }.dir.laneMode = mode) ∧
      (Verb.fetch ≠ .mark ∧ (125 : Nat) ≠ 126) ∧ (active.lanes.a.up = true ∧ active.lanes.b.up = true) ∧
      ({ active with lanes.a.up := false }.lanes.a.up = false ∧ { active with lanes.b.up := false }.lanes.b.up = false) :=
  ⟨by decide +kernel, rfl, fun _ => rfl, by decide +kernel⟩

/-- Holds at the bounds of R69 at 500 kbit/s: 3000 and 5000 ns are delimiters, 2999 ns is none. -/
theorem test_witness_DelimitersAndHolds :
    { polling with lanes.a.tx := .starting [5#8] }.lanes.a.tx = .starting [5#8] ∧
      (active.xpt.directory = some settings ∧ active.lanes.b.tx = .idle ∧ active.lanes.b.rx = .quiet ∧
        3 * settings.bitRate.bitTime ≤ 2 * 3000 ∧ 2 * 5000 ≤ 5 * settings.bitRate.bitTime ∧
        2 * 2999 < 3 * settings.bitRate.bitTime) ∧
      { listening with lanes.a.rx := .discarding }.lanes.a.rx = .discarding ∧
      (poll.verb ≠ .latch ∧ { poll with partA := .waiting }.part .a = .waiting) := by decide +kernel

/-- The exchange of a mark whose Lane B copy has been sent. -/
def markSent : Exchange := { markExchange with partA := .sending, partB := .closed }

theorem test_witness_TelegramSent :
    ({ polling with lanes.a.tx := .sending [5#8], exu.exchange := some (poll.setPart .a .sending) }.lanes.a.tx =
        .sending [5#8] ∧ (poll.setPart .a .sending).part .a = .sending ∧ poll.verb ≠ .mark) ∧
      (markSent.verb = .mark ∧ markSent.claimant = .mark ∧ markSent.address = 127 ∧ active.station? 127 = none ∧
        markSent.part .a = .sending ∧ markSent.part .b = .closed ∧ active.msu.offAtClose = false) := by decide +kernel

/-- An undamaged request in an own window and outside it, and a damaged telegram. -/
theorem test_witness_TelegramIsCounted :
    (polling.xpt.directory = some settings ∧ polling.lanes.a.tx = .idle ∧ polling.lanes.a.rx = .receiving) ∧
      receive .kbit500 (heardAs (foreign 0).telegram) = some (.request (foreign 0)) ∧
      receive .kbit500 [2000] = none ∧ polling.receivingReply .a = true ∧ active.receivingReply .a = false := by
  decide +kernel

theorem test_witness_GoodReplyClosesAPoll :
    (polling.xpt.directory = some settings ∧ settings.laneMode = .singleA ∧ polling.lanes.a.tx = .idle ∧
      polling.lanes.a.rx = .receiving ∧ polling.exu.exchange = some poll ∧ poll.claimant = .sweep ∧ poll.verb = .fetch ∧
      poll.partA = .receiving ∧ poll.partB = .unused ∧ polling.ctl.exchangeState = .running ∧
      polling.msu.role = .active ∧ polling.msu.offAtClose = false) ∧
    (receive settings.bitRate (heardAs goodReply.telegram) = some (.reply goodReply) ∧
      goodReply.address = poll.address ∧ goodReply.seq = poll.seq ∧ goodReply.verb = .fetch ∧
      goodReply.count = poll.count ∧ goodReply.cls = .good ∧ goodReply.values.length = poll.count) ∧
    (polling.station? poll.address = some station5 ∧ station5.verified = true ∧ station5.health = .online ∧
      poll.first + poll.count ≤ station5.slotCount ∧ station5.firstSlot + station5.slotCount ≤ 384) := by decide +kernel

/-- A LATCH whose window runs on Lane A. -/
def latchWaiting : Exchange := { latchAllExchange with partA := .waiting }

theorem test_witness_WindowsExpire :
    (polling.xpt.directory = some settings ∧ settings.laneMode = .singleA ∧
      { polling with exu.exchange := some { poll with partA := .waiting } }.exu.exchange =
        some { poll with partA := .waiting } ∧
      poll.verb = .fetch ∧ poll.partB = .unused ∧ poll.attempt < poll.attempts ∧ poll.noRetry = false ∧
      polling.msu.role = .active) ∧
    (polling.xpt.directory = some settings ∧ settings.laneMode = .singleA ∧
      { poll with partA := .waiting, attempt := 2 }.attempt = poll.attempts ∧ polling.ctl.exchangeState = .running ∧
      polling.msu.role = .active ∧ polling.station? 5 = some station5) ∧
    (latchWaiting.claimant = .busEntry ∧ latchWaiting.verb = .latch ∧ latchWaiting.partA = .waiting ∧
      latchWaiting.partB = .unused ∧ { BusEntry.new latchOrder with exchangeOpen := true }.exchangeOpen = true ∧
      latchOrder.kind? = some .latch ∧ active.oru.hand = .empty ∧ active.msu.offAtClose = false) := by decide +kernel

theorem test_witness_OverheardWindowExpires :
    { listening with exu.overheard := some overheard }.exu.overheard = some overheard ∧
      overheard.lane .a = some OverLane.fresh ∧ OverLane.fresh.result = .waiting ∧ OverLane.fresh.receiving = false ∧
      OverLane.fresh.windowExpired = false ∧ overheard.lane .b = none ∧
      (overheard.setLane .b OverLane.fresh).lane .b = some OverLane.fresh := by decide +kernel

theorem test_witness_VerdictAndFaults :
    (goodReply = goodReply ∧ goodReply ≠ { goodReply with condition := 0 }) ∧
      ({ active with xpt.directory := some { settings with laneMode := .mirror } }.dir.laneMode = .mirror ∧
        (LanePart.ended (.goodReply goodReply)).outcome? = some (.goodReply goodReply) ∧
        (LanePart.ended .silent).outcome? = some .silent ∧ (LanePart.ended .damaged).outcome? = some .damaged ∧
        active.lanes.b.up = true ∧ settings.laneFaultLimit ≤ min 15 (1 + 1)) ∧
      ({ active with xpt.directory := some { settings with laneMode := .alternate } }.dir.laneMode = .alternate ∧
        poll.failedB = false ∧ { poll with failedB := true, lanePref := .b }.failedB = true ∧
        { poll with failedB := true, lanePref := .b }.lanePref = .b ∧ poll.lanePref ≠ .b) ∧
      (active.dir.laneMode = .singleA ∧ (LanePart.ended .damaged).outcome? = some .damaged ∧
        poll.partA.outcome? ≠ some .damaged) := by decide +kernel

/-- Stations just below and at the miss limit, and QUERY replies of each class. -/
theorem test_witness_MissesAndQueries :
    (station5.missLimit ≤ min 15 ({ station5 with missCount := 1 }.missCount + 1) ∧
      min 15 (station5.missCount + 1) < station5.missLimit ∧ station5.health ≠ .mismatch) ∧
    (∃ q : Reply, q.cls = .good ∧ q.identity = some (0x21#8, 4) ∧ (0x21#8 : Byte) = station5.kind ∧ station5.slotCount ≤ 4) ∧
    (∃ q : Reply, q.cls = .good ∧ q.identity = some (0x22#8, 3) ∧ (0x22#8 : Byte) ≠ station5.kind ∧ 3 < station5.slotCount) ∧
    ({ goodReply with cls := .refused }.cls = .refused ∧ { goodReply with cls := .busy }.cls = .busy) :=
  ⟨by decide +kernel, ⟨{ goodReply with verb := .query, values := [], identity := some (0x21#8, 4) }, by decide +kernel⟩,
    ⟨{ goodReply with verb := .query, values := [], identity := some (0x22#8, 3) }, by decide +kernel⟩, by decide +kernel⟩

/-- A ROLE result due at the end of a wind-down. -/
def yieldDue : RoleChange := { role := .listen, previous := .active, reason := .yielded, shift := 0, foreignTag := none }

theorem test_witness_TakeoverAndWindDown :
    (listening.msu.takeoverTimer = true ∧ listening.ctl.exchangeState = .running ∧ listening.msu.role = .listen ∧
      listening.msu.windDown = none ∧ listening.msu.roleDue = [] ∧
      listening.rpu.staging.length + listening.bar.reserved < 6 ∧ 6 ≤ (List.replicate 6 (Result.order aResult)).length + 0) ∧
    (∃ s : State, s.ctl.exchangeState = .running ∧ s.msu.role = .listen ∧ s.msu.roleDue = [yieldDue] ∧
      yieldDue.role = .listen ∧ s.msu.windDown = some { awaitHand := false } ∧ s.exu.exchange = none ∧
      s.oru.busQueue = [] ∧ s.oru.completion = [] ∧ s.oru.hand = .empty ∧ s.swe.abandoning = false ∧
      s.rpu.staging.length + s.bar.reserved < 6) :=
  ⟨by decide +kernel,
    ⟨{ listening with msu.roleDue := [yieldDue], msu.windDown := some { awaitHand := false } }, by decide +kernel⟩⟩

theorem test_witness_ContestsAndMarks :
    active.msu.role = .active ∧ active.dir.masterTag = 1#1 ∧ active.ctl.exchangeState = .running ∧
      active.msu.markTimer = true ∧
      { active with xpt.directory := some { settings with masterTag := 0 } }.dir.masterTag = 0#1 := by decide +kernel

/-- An empty list, a list whose first entry is to be polled, with and without a swap, and an OFFLINE entry that is due. -/
theorem test_witness_SweepStarts :
    (active.swe.state = .idle ∧ active.swe.startDue = true ∧ active.swe.active = [] ∧ active.swe.pendingReady = false) ∧
      { active with swe.active := [5] }.swe.active = 5 :: [] ∧
      { active with swe.pendingReady := true, swe.pendingList := [5] }.swe.pendingList = 5 :: [] ∧
      (active.station? 5 = some station5 ∧ station5.held = false ∧ station5.health = .online) ∧
      (active.swe.sweepCount.toNat % station5.revisitEvery = 0 ∧ (4 : Word).toNat % station5.revisitEvery ≠ 0) := by
  decide +kernel

/-- Staging with one place left and with none. -/
theorem test_witness_SweepTimersAndClaims :
    ({ active with swe.periodTimer := true }.swe.periodTimer = true ∧ active.swe.state = .idle ∧
      claiming.swe.state = .sweeping) ∧
    (claiming.swe.endWait = false ∧ { claiming with swe.claim := none }.swe.claim = none ∧
      claiming.exu.exchange = none ∧ claiming.swe.active[claiming.swe.cursor]? = some 5 ∧
      claiming.station? 5 = some station5 ∧ station5.held = false) ∧
    (List.replicate 5 (Result.order aResult)).length + claiming.bar.reserved < 6 ∧
    6 ≤ (List.replicate 6 (Result.order aResult)).length + claiming.bar.reserved ∧
    { claiming with swe.endWait := true }.swe.endWait = true ∧ claiming.Hosting :=
  ⟨by decide +kernel, by decide +kernel, by decide +kernel, by decide +kernel, by decide +kernel, Or.inl rfl⟩

/-- An exact sum at each bound of R31 and past it. -/
theorem test_witness_InstantReading :
    instantValue 2147483647 1 0 0 = (2147483647, false) ∧ instantValue 2147483647 1 0 1 = (2147483647, true) ∧
      instantValue (-2147483648) 1 0 0 = (-2147483648, false) ∧
      instantValue (-2147483648) 1 0 (-1) = (-2147483648, true) := by decide +kernel

/-- A delta at the jump limit and past it, and no last raw value. -/
theorem test_witness_TotalReading :
    meter.image.lastRaw = none ∧ { meter with image.lastRaw := some 0 }.image.lastRaw = some 0 ∧
      meter.conv.jumpLimit ≠ 0 ∧ ((2500000000 : Word) - 0).toNat ≤ meter.conv.jumpLimit.toNat ∧
      meter.conv.jumpLimit.toNat < ((2500000001 : Word) - 0).toNat ∧ Point.default.conv.jumpLimit = 0 := by decide +kernel

/-- A FLAG point FRESH whose bits differ, and one never read. -/
theorem test_witness_FlagReading :
    let p : Point := { Point.default with
      conv := { Point.default.conv with mode := .flag, offset := 0xF, notify := true }, image.quality := .fresh }
    (p.image.quality ≠ .never ∧ (0x13 : Word) &&& p.conv.offset ≠ p.image.value ∧ p.conv.notify = true) ∧
      Point.default.image.quality = .never := by decide +kernel

theorem test_witness_RequestsAreReceivedAsSent :
    pairingOk 5 .store = true ∧ pairingOk 126 .latch = true ∧ pairingOk 127 .mark = true ∧
      pairingOk 126 .fetch = false ∧ pairingOk 127 .fetch = false ∧ pairingOk 0 .fetch = false ∧
      receive .kbit500 (heardAs ({ foreign 1 with first := 31, count := 8 } : Request).telegram) =
        some (.request { foreign 1 with first := 31, count := 8 }) := by decide +kernel

theorem test_witness_RepliesAreReceivedAsSent :
    (1 ≤ goodReply.address ∧ goodReply.address ≤ 125 ∧ goodReply.verb = .fetch ∧ 1 ≤ goodReply.count ∧
      goodReply.count ≤ 8 ∧ goodReply.values.length = goodReply.count ∧ goodReply.identity = none) ∧
    (let q : Reply :=
      { goodReply with verb := .query, count := 1, values := [], identity := some (0x21#8, 32) }
     receive .kbit500 (heardAs q.telegram) = some (.reply q)) := by decide +kernel

/-! The further clauses: each hypothesis met, and each side of a case taken. -/

/-- One SWEEP, STATION or CHANGE result's place in Staging: six results fill it. -/
def sixResults : List Result := List.replicate 6 (.order aResult)

/-- The host attends to nothing: a written tag that it has not seen. -/
def unseen : State := { active with rpu.lastTag := 1 }

/-- The attention timer starts, runs on, stays expired, and stops with its condition or with an attention time of 0. -/
theorem test_witness_Settle_attention :
    unseen.settle.rpu.attention = .running ∧ { unseen with rpu.attention := .running }.settle.rpu.attention = .running ∧
      { unseen with rpu.attention := .expired }.settle.rpu.attention = .expired ∧
      { active with rpu.attention := .expired }.settle.rpu.attention = .stopped ∧
      { unseen with
        rpu.attention := .running, xpt.directory := some { settings with attentionTime := 0 } }.settle.rpu.attention =
          .stopped := by decide +kernel

/-- A drain that ends once its last access is complete: an order in the cache and one in hand, or the result of the latter. -/
theorem test_witness_TheDrainEnds_expired :
    let s : State :=
      { draining with ctl.drainTimer := false, ctl.drainExpired := true, oru.cache := [readOrder] }
    (s.ctl.drainEnded = false ∧ s.xpt.readPath = none ∧ s.rpu.writePath = none) ∧
      holds .drainEnd { s with oru.hand := .queueWait readOrder } (fun t => t.ctl.dropped = 2) = true ∧
      holds .drainEnd
        { s with
          oru.hand := .stageWait readOrder, oru.completion := [{ fromHand := true, result := aResult }] }
        (fun t => t.ctl.dropped = 2) = true := by decide +kernel

/-- An order fetch that a wanted Host Block read, a wanted supply entry, or a read in progress bars. -/
theorem test_witness_HostReadsBegin_barred :
    let s : State := { active with xpt.hostBlock := { active.xpt.hostBlock with ordersPosted := 1, bulkPosted := 1 } }
    holds .orderFetchBegin { s with xpt.readWanted := true } (fun t => t.xpt.readPath = none) = true ∧
      holds .orderFetchBegin { s with rpu.staging := [.order longResult] } (fun t => t.xpt.readPath = none) = true ∧
      holds .orderFetchBegin { s with xpt.readPath := some (.hostBlock 0) }
        (fun t => t.xpt.readPath = some (.hostBlock 0)) = true ∧
      (let t : State := { s with rpu.staging := [.order longResult], xpt.hostBlock.bulkPosted := 0 }
       t.headNeedsBuffer = true ∧ t.supplyAvailable = false ∧ holds .orderFetchBegin t (fun u => u.xpt.readPath.isSome) =
        true) := by decide +kernel

/-- The new head behind a record: none that needs a buffer, one that finds a buffer posted, one that finds none and may
wait, and one that may not. -/
theorem test_witness_RecordWriteCompletes_newHead :
    let s : State :=
      { active with
        rpu.staging := [.order longResult, .order longResult], rpu.head := .buffer 8 64 0
        rpu.writePath := some (.record 0x3000 []) }
    holds .recordWriteDone s (fun t => t.rpu.head = .unsettled ∧ t.rpu.bulkWaitTimer) = true ∧
      holds .recordWriteDone { s with rpu.staging := [.order longResult, .order aResult] }
        (fun t => t.rpu.head = .unsettled ∧ !t.rpu.bulkWaitTimer) = true ∧
      holds .recordWriteDone { s with xpt.hostBlock.bulkPosted := 1 }
        (fun t => t.rpu.head = .unsettled ∧ !t.rpu.bulkWaitTimer) = true ∧
      holds .recordWriteDone { s with xpt.directory := some { settings with bulkWait := 0 } }
        (fun t => t.rpu.head = .inlineOnly false) = true ∧
      holds .recordWriteDone { s with xpt.directory := some { settings with supplySize := 0 } }
        (fun t => t.rpu.head = .inlineOnly false) = true := by decide +kernel

/-- ACTIVE in DRAINING: a HALT while an exchange is open. -/
def closingPoll : State :=
  { polling with ctl.exchangeState := .draining, swe.state := .stopped, msu.offAtClose := true }

theorem test_witness_ReportUnitTimers_draining :
    { closingPoll with rpu.attention := .running }.rpu.attention = .running ∧ closingPoll.msu.role = .active ∧
      closingPoll.ctl.exchangeState = .draining := by decide +kernel

/-- A result whose head may stand unsettled, and one that may not; BULK and SUPPLY_BAD in byte 1. -/
theorem test_witness_ResultRecords_flags :
    (Result.order aResult).needsBuffer = false ∧ HeadSettlement.inlineOnly true ≠ .unsettled ∧
      (byteAt ((Result.order longResult).record (.inlineOnly true)) 1) = 0x1A#8 ∧
      (byteAt ((Result.order longResult).record (.buffer 8 64 0)) 1) = 0x82#8 ∧
      (byteAt ((Result.sweep { number := 1, polls := 2, skipped := 3, misses := 0, late := true
                               abandoned := true }).record .unsettled) 1) = 0x62#8 := by decide +kernel

/-- A station at address 6, in the slots behind those of station 5. -/
def station6 : StationRecord := { station5 with address := 6, firstSlot := 14 }

/-- A claim withdrawn by a RETIRE that waits, a RETIRE in a sweep at the cursor and behind it, and both refusals. -/
theorem test_witness_RetireAndHolds_sweep :
    (let s : State := { claiming with oru.busQueue := [BusEntry.new readOrder], oru.cache := [retireOrder] }
     s.swe.claim = some retireOrder.station ∧ s.Takes retireOrder .retire) ∧
    (let s : State :=
      { ordered retireOrder claiming with
        stations := [station5, station6], swe := { claiming.swe with active := [5, 6, 5], claim := none } }
     s.Takes retireOrder .retire ∧ s.station? 5 = some station5 ∧ s.swe.claim ≠ some 5 ∧ s.exu.exchange = none ∧
      (s.swe.active[s.swe.cursor]? = some 5 ∧ (s.swe.active.filter (fun a => a ≠ 5))[0]? = some 6 ∧
        s.station? 6 = some station6 ∧ station6.held = false ∧ station6.health = .online) ∧
      { s with swe.cursor := 1 }.swe.active[1]? ≠ some 5) ∧
    (∀ station ∈ [0, 126], (ordered (anOrder 0x02 station 0 0 0 []) active).Takes (anOrder 0x02 station 0 0 0 []) .retire) ∧
    (ordered (anOrder 0x02 6 0 0 0 []) active).Takes (anOrder 0x02 6 0 0 0 []) .retire ∧ active.station? 6 = none ∧
    (let s : State := { active with oru.hand := .holdWait retireOrder }
     s.oru.hand = .holdWait retireOrder ∧ retireOrder.kind? = some .retire ∧ s.swe.state ≠ .sweeping) := by
  refine ⟨⟨rfl, ⟨rfl, rfl, rfl, rfl, by decide +kernel⟩⟩, ⟨⟨rfl, rfl, rfl, rfl, by decide +kernel⟩, by decide +kernel⟩,
    fun station _ => takes_ordered _ _ (by rfl), takes_ordered _ _ (by decide +kernel), by decide +kernel,
    by decide +kernel⟩

/-- A SHAPE with a field out of range, to no station, and past the end of the window. -/
theorem test_witness_ShapeIsApplied_refused :
    ((ordered (anOrder 0x03 5 0 0 0 [3#8]) active).Takes (anOrder 0x03 5 0 0 0 [3#8]) .shape ∧
      (byteAt (anOrder 0x03 5 0 0 0 [3#8]).body 0).toNat = 3) ∧
    ((byteAt (anOrder 0x03 5 0 0 0 [0#8, 0#8, 0#8, 0#8, 0xE1#8]).body 4).toInt = -31 ∧
      (byteAt (anOrder 0x03 5 0 0 0 [0#8, 0#8, 0#8, 0#8, 0x10#8]).body 4).toInt = 16) ∧
    ((ordered (anOrder 0x03 6 0 0 0 []) active).Takes (anOrder 0x03 6 0 0 0 []) .shape ∧ active.station? 6 = none) ∧
    ((ordered (anOrder 0x03 5 3 0 1 []) active).Takes (anOrder 0x03 5 3 0 1 []) .shape ∧ station5.slotCount ≤ 3 + 1) :=
  ⟨⟨takes_ordered _ _ (by decide +kernel), by decide +kernel⟩, by decide +kernel,
    ⟨takes_ordered _ _ (by decide +kernel), by decide +kernel⟩, takes_ordered _ _ (by decide +kernel), by decide +kernel⟩

/-- A WRITE of a TOTAL point, of too many channels and in LISTEN; a LATCH to 126, in ACTIVE and LISTEN, to 0, 127 and to no
station. -/
theorem test_witness_BusOrders_writeAndLatch :
    ((ordered (anOrder 0x08 5 0 1 0 []) active).Takes (anOrder 0x08 5 0 1 0 []) .write ∧
      ({ active with points := active.points.set 10 meter }.point (station5.firstSlot + 0 + 0)).conv.mode = .total ∧
      (anOrder 0x08 5 0 5 0 []).kind? = some .write ∧
      (ordered (anOrder 0x08 5 0 1 0 []) listening).Takes (anOrder 0x08 5 0 1 0 []) .write) ∧
    ((ordered latchOrder active).Takes latchOrder .latch ∧ latchOrder.station = 126 ∧
      (ordered latchOrder listening).Takes latchOrder .latch ∧
      (ordered (anOrder 0x09 0 0 0 0 []) active).Takes (anOrder 0x09 0 0 0 0 []) .latch ∧
      (ordered (anOrder 0x09 127 0 0 0 []) active).Takes (anOrder 0x09 127 0 0 0 []) .latch ∧
      (ordered (anOrder 0x09 6 0 0 0 []) active).Takes (anOrder 0x09 6 0 0 0 []) .latch) :=
  ⟨⟨takes_ordered _ _ (by decide +kernel), by decide +kernel, by decide +kernel, takes_listening _ _ (by decide +kernel)⟩,
    takes_ordered _ _ (by decide +kernel), rfl, takes_listening _ _ (by decide +kernel),
    takes_ordered _ _ (by decide +kernel), takes_ordered _ _ (by decide +kernel), takes_ordered _ _ (by decide +kernel)⟩

/-- A SNAP of no channel and of 33, and one past the end of the window. -/
theorem test_witness_SnapAndTakeTotals_refused :
    (ordered (anOrder 0x0A 5 0 0 0 []) active).Takes (anOrder 0x0A 5 0 0 0 []) .snap ∧
      (ordered (anOrder 0x0B 5 0 33 0 []) active).Takes (anOrder 0x0B 5 0 33 0 []) .takeTotals ∧
      (ordered (anOrder 0x0B 6 0 1 0 []) active).Takes (anOrder 0x0B 6 0 1 0 []) .takeTotals ∧
      (ordered (anOrder 0x0A 5 3 2 0 []) active).Takes (anOrder 0x0A 5 3 2 0 []) .snap ∧ station5.slotCount < 3 + 2 :=
  ⟨takes_ordered _ _ (by decide +kernel), takes_ordered _ _ (by decide +kernel), takes_ordered _ _ (by decide +kernel),
    takes_ordered _ _ (by decide +kernel), by decide +kernel⟩

/-- A CLAIM that finds Staging full, and one behind a ROLE result due. -/
theorem test_witness_ClaimAndYield_waits :
    (let s : State := { ordered (roleOrder 1) listening with rpu.staging := sixResults }
     s.Takes (roleOrder 1) .role ∧ 6 ≤ s.rpu.staging.length + s.bar.reserved ∧ s.msu.windDown = none) ∧
    (let s : State := { ordered (roleOrder 1) listening with msu.roleDue := [yieldDue] }
     s.Takes (roleOrder 1) .role ∧ s.msu.roleDue ≠ [] ∧ s.msu.windDown = none) :=
  ⟨⟨⟨rfl, rfl, rfl, rfl, by decide +kernel⟩, by decide +kernel⟩, ⟨rfl, rfl, rfl, rfl, by decide +kernel⟩, by decide +kernel⟩

/-- A READ of station 5 with one more instance to make, its exchange open. -/
def openRead : BusEntry := { BusEntry.new { readOrder with repeats := 1 } with exchangeOpen := true }

/-- ACTIVE with the READ's exchange open, behind an entry that has none. -/
def reading : State :=
  { polling with
    oru.busQueue := [BusEntry.new readOrder, openRead]
    exu.exchange := some { poll with claimant := .busEntry } }

/-- An open entry with an instance to make, and in its last; each class of reply, a QUERY of an unverified station. -/
theorem test_witness_OrderResults_closes :
    reading.OpenEntry [BusEntry.new readOrder] openRead [] ∧ reading.Hosting ∧
      (openRead.nextInstance < openRead.order.repeats ∧
        { openRead with nextInstance := 1 }.order.repeats ≤ { openRead with nextInstance := 1 }.nextInstance) ∧
      (∀ c : ReplyClass, { goodReply with cls := c }.cls = c) ∧
      { reading with stations := [{ station5 with verified := false }] }.station? 5 =
        some { station5 with verified := false } ∧
      (∀ v : Verb, { poll with verb := v }.verb = v) :=
  ⟨⟨rfl, rfl, by decide +kernel⟩, Or.inl rfl, by decide +kernel, fun _ => rfl, by decide +kernel, fun _ => rfl⟩

/-- A sweep poll of an unverified station, no grant behind a ROLE result due, and none with four places taken. -/
theorem test_witness_BusIsGranted_query :
    (let s : State := { claiming with stations := [{ station5 with verified := false, health := .unknown }] }
     s.grantOpen = true ∧ s.chooseClaim = some (.sweep 5) ∧
      holds .busGrant s (fun t => t.exu.exchange.map (fun x => x.verb) = some .query) = true) ∧
    claiming.msu.roleDue = [] ∧ { claiming with msu.roleDue := [yieldDue] }.grantOpen = false ∧
    { claiming with rpu.staging := List.replicate 4 (.order aResult) }.grantOpen = false ∧
    { claiming with rpu.staging := List.replicate 3 (.order aResult) }.grantOpen = true := by decide +kernel

/-- An entry whose station is in MISMATCH leaves the queue with a READ in QUEUE_WAIT, and with a MARKER waiting. -/
theorem test_witness_EntriesAndMarksAreGranted_hand :
    let s : State :=
      { active with
        stations := [{ station5 with health := .mismatch }], oru.busQueue := [BusEntry.new readOrder] }
    holds .busGrant { s with oru.hand := .queueWait readOrder }
        (fun t => t.oru.busQueue = [BusEntry.new readOrder] ∧ t.oru.hand = .empty) = true ∧
      holds .busGrant { s with oru.hand := .markerWait readOrder }
        (fun t => t.oru.busQueue = [] ∧ t.oru.completion.length = 2 ∧ t.oru.hand = .stageWait readOrder) = true := by
  decide +kernel

/-- Delimiters in a window of the overheard exchange, on a lane outside it before and after its first window expired. -/
theorem test_witness_DelimitersAndHolds_overheard :
    (let s : State := { listening with exu.overheard := some overheard }
     (s.lanes.a.rx = .quiet ∧ s.lanes.b.rx = .quiet ∧ s.lanes.a.tx = .idle) ∧
      overheard.lane .a = some OverLane.fresh ∧ overheard.lane .b = none ∧
      overheard.lane overheard.firstLane = some OverLane.fresh ∧ s.ctl.exchangeState = .running ∧
      s.msu.role = .listen) ∧
    ({ OverLane.fresh with result := .silent }.result ≠ .waiting ∧
      { OverLane.fresh with windowExpired := true }.windowExpired = true) ∧
    (active.lanes.b.rx = .quiet ∧ active.msu.role = .active ∧ active.ctl.exchangeState = .running) ∧
    (latchWaiting.verb = .latch ∧ draining.msu.role = .off) := by decide +kernel

/-- A sweep whose poll misses at its last entry, with and without a further entry that is polled. -/
theorem test_witness_WindowsExpire_sweep :
    (let s : State := { polling with stations := [station5, station6], swe.active := [5, 6] }
     s.swe.state = .sweeping ∧ s.swe.active[s.swe.cursor + 1]? = some 6 ∧ s.Polls 6) ∧
    (polling.swe.active.length = polling.swe.cursor + 1 ∧ { settings with sweepResults := false }.sweepResults = false) :=
  ⟨⟨rfl, rfl, station6, by decide +kernel, by decide +kernel, by decide +kernel⟩, by decide +kernel⟩

/-- An exchange overheard on both lanes. -/
def overheardBoth (b : OverResult) : Overheard := { overheard with laneB := some { OverLane.fresh with result := b } }

/-- The other lane waiting, SILENT, SPOILED, and with the same and another recorded reply. -/
theorem test_witness_Overheard_otherLane :
    (let s (b : OverResult) : State := { listening with exu.overheard := some (overheardBoth b) }
     (∀ b ∈ [OverResult.silent, .spoiled, .recorded goodReply],
        holds (.overheardWindowExpiry .a) (s b) (fun t => t.exu.overheard = none) = true) ∧
      holds (.overheardWindowExpiry .a) (s .waiting) (fun t => t.exu.overheard.isSome) = true) := by decide +kernel

/-- The first telegram of an overheard window: a reply that matches, one that does not, and a damaged telegram. -/
theorem test_witness_Overheard_received :
    (let s : State :=
      { listening with
        lanes.a.rx := .receiving
        exu.overheard := some (overheard.setLane .a { OverLane.fresh with receiving := true }) }
     s.xpt.directory = some settings ∧ s.lanes.a.tx = .idle ∧ s.msu.role = .listen ∧ s.exu.exchange = none) ∧
    (receive .kbit500 (heardAs goodReply.telegram) = some (.reply goodReply) ∧ goodReply.address = 5 ∧
      goodReply.seq = (foreign 0).seq ∧ goodReply.verb = (foreign 0).verb ∧ goodReply.count = (foreign 0).count) ∧
    (receive .kbit500 (heardAs { goodReply with seq := 1 }.telegram) = some (.reply { goodReply with seq := 1 }) ∧
      ({ goodReply with seq := 1 } : Reply).seq ≠ (foreign 0).seq ∧ receive .kbit500 [2000] = none) ∧
    (goodReply ≠ { goodReply with condition := 0 }) := by decide +kernel

/-- A pair that is learned, and pairs that each test discards. -/
theorem test_witness_Overheard_learned :
    listening.dir.listenLearn = true ∧ listening.station? (foreign 0).address = some station5 ∧
      (foreign 0).verb = .fetch ∧ goodReply.cls = .good ∧ station5.verified = true ∧ station5.health ≠ .mismatch ∧
      listening.rpu.staging.length + listening.bar.reserved < 6 ∧ ¬ sixResults.length + 0 < 6 ∧
      (State.reset.station? 5 = none ∧ { settings with listenLearn := false }.listenLearn = false ∧
        ({ goodReply with cls := .busy } : Reply).cls ≠ .good) := by decide +kernel

/-- Each lane mode; the other lane's part lasting, unused and ended; a request in an own window in ACTIVE. -/
theorem test_witness_VerdictAndFaults_attempts :
    (∀ mode, { active with xpt.directory := some { settings with laneMode := mode } }.dir.laneMode = mode) ∧
      (∀ p ∈ [LanePart.sending, .waiting, .receiving, .unused, .ended .silent, .ended .damaged],
        { poll with partA := .waiting, partB := p }.part .a = .waiting ∧ { poll with partB := p }.part .a = .receiving ∧
          { poll with partB := p }.part (otherLane .a) = p) ∧
      (polling.exu.exchange = some poll ∧ poll.verb = .fetch ∧ polling.lanes.a.rx = .receiving ∧
        polling.lanes.a.tx = .idle ∧ polling.msu.role = .active) ∧
      receive .kbit500 (heardAs (foreign 0).telegram) = some (.request (foreign 0)) ∧
      (active.lanes.a.up = true ∧ { active with lanes.a.up := false }.lanes.a.up = false) :=
  ⟨fun _ => rfl, by decide +kernel, by decide +kernel, by decide +kernel, by decide +kernel⟩

/-- Records that enter ONLINE, OFFLINE and MISMATCH, and one that stays; readings with no change, one and two. -/
theorem test_witness_MissesAndQueries_results :
    (let old := { station5 with health := .unknown, verified := false }
     (station5.health = .online ∧ old.health = .unknown) ∧
      ({ station5 with missCount := 1 }.missed.health = .offline ∧ station5.health ≠ .offline) ∧
      ({ old with health := .mismatch }.health = .mismatch ∧ old.health ≠ .mismatch) ∧
      station5.firstSlot + station5.slotCount ≤ 384) ∧
    (let flag : Point := { Point.default with
      conv := { Point.default.conv with mode := .flag, offset := 0xF, notify := true }, image.quality := .fresh }
     let s : State := { active with points := (active.points.set 10 flag).set 11 flag }
     (s.conditionReply station5 false (readingsOf 0 [0, 0])).1.rpu = s.rpu ∧
      (s.conditionReply station5 false (readingsOf 0 [1, 0])).1.rpu.staging.length = 1 ∧
      (s.conditionReply station5 false (readingsOf 0 [1, 1])).1.rpu.staging.length = 1 ∧
      ({ s with rpu.staging := sixResults }.conditionReply station5 true (readingsOf 0 [1, 1])).1.rpu.staging.length = 6 ∧
      (s.conditionReply station5 false (readingsOf 3 [1, 1])).2.length = 1) ∧
    ({ poll with claimant := .busEntry }.claimant ≠ .sweep ∧ poll.first + poll.count ≤ station5.slotCount ∧
      active.station? 9 = none) := by decide +kernel

/-- A request on a lane in ACTIVE and in OFF, outside an own window. -/
theorem test_witness_ContestsAndMarks_received :
    (let s : State := { active with lanes.b.rx := .receiving }
     s.xpt.directory = some settings ∧ s.lanes.b.tx = .idle ∧ s.msu.role = .active ∧ s.exu.exchange = none) ∧
    (let s : State := { draining with lanes.b.rx := .receiving }
     s.xpt.directory = some settings ∧ s.msu.role = .off) ∧
    (poll.part .b ≠ .receiving ∧ receive .kbit500 (heardAs (foreign 1).telegram) = some (.request (foreign 1))) ∧
    holds (.telegramReceived .b (heardAs (foreign 0).telegram)) { active with lanes.b.rx := .receiving }
      (fun t => t.rpu.events.role) = true := by decide +kernel

/-- A list whose entries are all skipped, one whose first is, and the end of the sweep with and without room. -/
theorem test_witness_SweepTimersAndClaims_walk :
    (let s : State :=
      { claiming with
        stations := [{ station5 with health := .mismatch }, station6]
        swe := { claiming.swe with active := [5, 5, 6], claim := none } }
     s.swe.active.drop s.swe.cursor = [5, 5] ++ [6] ∧ (∀ a ∈ [5, 5], s.skips a = true) ∧ s.skips 6 = false ∧
      s.walk.swe.cursor = 2 ∧ s.walk.swe.skipped = 2 ∧ { s with swe.active := [5, 5] }.walk.swe.state = .idle ∧
      { s with swe.active := [5, 5], rpu.staging := sixResults }.walk.swe.endWait = true ∧
      { s with swe.active := [5], xpt.directory := some { settings with sweepResults := false } }.walk.rpu.staging = []) :=
  by decide +kernel

/-- A sweep abandoned with its poll open, with none, and with Staging full; and its result staged at the last. -/
theorem test_witness_SweepTimersAndClaims_abandoned :
    (polling.ctl.exchangeState = .running ∧ polling.swe.state = .sweeping ∧ polling.exu.exchange = some poll ∧
      poll.claimant = .sweep ∧ polling.dir.sweepResults = true) ∧
    (holds .halt polling (fun t => t.swe.abandoning ∧ t.rpu.staging = []) = true ∧
      holds .halt claiming (fun t => t.swe = claiming.swe.stopped ∧ t.rpu.staging = [claiming.swe.abandoned]) = true ∧
      holds .halt { claiming with rpu.staging := sixResults } (fun t => t.swe.abandoning) = true) ∧
    ((ordered (roleOrder 2) active).swe.state = .idle ∧ listening.swe.state = .stopped) ∧
    (let s : State := { closingPoll with exu.exchange := none, swe.abandoning := true }
     s.swe.endWait = false ∧ holds .sweepResultStage s (fun t => t.rpu.staging.length = 1 ∧ t.swe = s.swe.stopped) = true) := by
  decide +kernel

/-- A drain that ends with a held station, a sweep abandoned and lists: the held mark clears, the lists and counts stay. -/
theorem test_witness_TheDrainEnds_tables :
    let s : State :=
      { draining with
        stations := [{ station5 with held := true }], swe.active := [5], swe.sweepCount := 7, swe.abandoning := true }
    let kept (t : State) : Bool :=
      t.stations = [station5] ∧ t.swe.active = [5] ∧ t.swe.sweepCount = 7 ∧ t.ctl.dropped = 1
    holds .drainTimerExpiry s kept = true ∧
      holds .drainEnd { s with ctl.drainTimer := false, ctl.drainExpired := true } kept = true ∧
      holds .drainTimerExpiry { s with rpu.writePath := some (.record 0 []) }
        (fun t => t.stations = s.stations ∧ t.swe = s.swe) = true := by decide +kernel

/-- A silent host in ACTIVE with an entry that ends: the hand in QUEUE_WAIT, MARKER_WAIT and HOLD_WAIT. -/
theorem test_witness_ReportUnitTimers_hand :
    let s (h : Hand) : State :=
      { active with rpu.attention := .running, oru.busQueue := [BusEntry.new readOrder], oru.hand := h }
    holds .attentionTimerExpiry (s (.queueWait readOrder))
        (fun t => t.oru.busQueue = [] ∧ t.oru.completion.map (fun c => c.fromHand) = [false, true] ∧
          t.msu.windDown = some { awaitHand := true }) = true ∧
      holds .attentionTimerExpiry (s (.markerWait readOrder))
        (fun t => t.oru.completion.map (fun c => c.result.outcome) = [.notActive, .done]) = true ∧
      holds .attentionTimerExpiry (s (.holdWait retireOrder))
        (fun t => t.oru.hand = .holdWait retireOrder ∧ t.msu.windDown = some { awaitHand := true }) = true := by
  decide +kernel

/-- ALTERNATE with one lane DOWN: the first poll probes it, a later poll and an entry's exchange go on the other. -/
theorem test_witness_Grants_alternate :
    let s : State :=
      { claiming with
        xpt.directory := some { settings with laneMode := .alternate }, lanes.b.up := false, swe.firstPoll := true }
    let parts (t : State) : Option (LanePart × LanePart) := t.exu.exchange.map (fun x => (x.partA, x.partB))
    holds .busGrant s (fun t => parts t = some (.unused, .sending)) = true ∧
      holds .busGrant { s with swe.firstPoll := false } (fun t => parts t = some (.sending, .unused)) = true ∧
      holds .busGrant { s with swe.claim := none, oru.busQueue := [BusEntry.new readOrder] }
        (fun t => parts t = some (.sending, .unused)) = true ∧
      holds .busGrant { s with swe.claim := none, oru.busQueue := [BusEntry.new latchOrder] }
        (fun t => parts t = some (.sending, .sending)) = true := by decide +kernel

/-- A RETIRE in a sweep: taken with its own claim raised, applied after its hold at the cursor, and with a successor that is
skipped. -/
theorem test_witness_RetireAndHolds_walk :
    let s : State :=
      { ordered retireOrder claiming with stations := [station5, station6], swe.active := [5, 6], swe.claim := some 5 }
    let unclaimed (q : StationRecord) : State := { s with stations := [station5, q], swe.claim := none }
    (s.Takes retireOrder .retire ∧ s.swe.claim = some retireOrder.station ∧ s.station? 5 = some station5) ∧
      holds .retire s (fun t => t.swe.active = [6] ∧ t.swe.cursor = 0 ∧ t.swe.claim = none ∧ t.swe.skipped = 1) = true ∧
      holds .holdSatisfied { unclaimed station6 with oru.cache := [], oru.hand := .holdWait retireOrder }
        (fun t => t.swe.state = .sweeping ∧ t.swe.active[t.swe.cursor]? = some 6) = true ∧
      holds .retire (unclaimed { station6 with health := .mismatch })
        (fun t => t.swe.state = .idle ∧ t.swe.skipped = 1 ∧ t.rpu.staging.length = 1) = true := by
  refine ⟨⟨⟨rfl, rfl, rfl, rfl, by decide +kernel⟩, rfl, by decide +kernel⟩, ?_⟩
  decide +kernel

/-- A SHAPE taken with an exchange open to another station, with a claim raised for another, and for its own. -/
theorem test_witness_ShapeIsApplied_sweep :
    let s : State := { ordered shapeOrder claiming with stations := [station5, station6], swe.active := [5, 6] }
    (s.Takes shapeOrder .shape ∧ s.station? 5 = some station5) ∧
      holds .shape { s with exu.exchange := some { poll with address := 6 }, swe.claim := none }
        (fun t => t.exu.exchange.isSome ∧ (t.point 11).conv.mode = .total) = true ∧
      holds .shape { s with swe.cursor := 1, swe.claim := some 6 } (fun t => t.swe.claim = some 6) = true ∧
      holds .shape s
        (fun t => t.swe.claim = none ∧ t.swe.cursor = 1 ∧ t.swe.skipped = 1 ∧ t.stations = s.stations) = true := by
  refine ⟨⟨⟨rfl, rfl, rfl, rfl, by decide +kernel⟩, by decide +kernel⟩, ?_⟩
  decide +kernel

/-- The first copy of a MARK, and its last in a drain that waits for the close and in FAULTED. -/
theorem test_witness_TelegramSent_closes :
    let s : State := { active with lanes.a.tx := .sending [5#8], exu.exchange := some markSent, bar.reserved := 2 }
    holds (.telegramSent .a) { s with exu.exchange := some { markSent with partB := .sending } }
        (fun t => t.exu.exchange = some { markSent with partA := .closed, partB := .sending }) = true ∧
      holds (.telegramSent .a) { s with ctl.exchangeState := .draining, msu.offAtClose := true }
        (fun t => t.msu.role = .off ∧ t.exu.exchange = none) = true ∧
      holds (.telegramSent .a)
        { s with ctl.exchangeState := .faulted, msu.windDown := some { awaitHand := false } }
        (fun t => t.msu.windDown = none) = true := by decide +kernel

/-- A LATCH that closes with Lane B, its entry behind another, with hands that wait, in a drain and after a fault. -/
theorem test_witness_WindowsExpire_latch :
    let e : BusEntry := { BusEntry.new latchOrder with exchangeOpen := true }
    let s : State :=
      { active with
        exu.exchange := some { latchWaiting with partA := .closed, partB := .waiting }, bar.reserved := 2
        oru.busQueue := [BusEntry.new readOrder, e] }
    s.OpenEntry [BusEntry.new readOrder] e [] ∧
      holds (.replyWindowExpiry .b) { s with oru.hand := .queueWait readOrder }
        (fun t => t.oru.busQueue.length = 2 ∧ t.oru.hand = .empty ∧ t.oru.completion.length = 1) = true ∧
      holds (.replyWindowExpiry .b)
        { s with oru.busQueue := [e], oru.hand := .markerWait readOrder, ctl.exchangeState := .draining
                 msu.offAtClose := true }
        (fun t => t.oru.completion.map (fun c => c.result.outcome) = [.done, .abandoned] ∧ t.msu.role = .off) = true ∧
      holds (.replyWindowExpiry .b) { s with ctl.exchangeState := .faulted, oru.busQueue := [] }
        (fun t => t.oru.completion = [] ∧ t.exu.exchange = none) = true ∧
      holds (.replyWindowExpiry .b)
        { s with exu.exchange := some { latchWaiting with partB := .waiting } }
        (fun t => t.exu.exchange = some { latchWaiting with partB := .closed }) = true :=
  ⟨⟨rfl, rfl, by decide +kernel⟩, by decide +kernel⟩

/-- The state in LISTEN with a telegram ending on Lane B, and an overheard exchange. -/
def hearing (o : Option Overheard) : State := { listening with lanes.b.rx := .receiving, exu.overheard := o }

/-- A request heard in LISTEN: with none open, to address 127, as the mirrored copy, late, and another with one reply
recorded, two alike and two different. -/
theorem test_witness_Overheard_requests :
    let heard := heardAs (foreign 0).telegram
    let other := heardAs (foreign 1).telegram
    let toA (r : OverResult) : Overheard := { overheard with laneA := some { OverLane.fresh with result := r } }
    let both (r q : Reply) : Overheard := { toA (.recorded r) with laneB := (overheardBoth (.recorded q)).laneB }
    let learned (t : State) : Bool := t.station? 5 = some { station5 with lastCondition := some 0x11 }
    holds (.telegramReceived .b heard) (hearing none)
        (fun t => t.exu.overheard.map (fun o => (o.firstLane, o.laneA, o.laneB)) = some (.b, none, some OverLane.fresh)) =
          true ∧
      holds (.telegramReceived .b (heardAs (active.request markExchange).telegram)) (hearing (some overheard))
        (fun t => t.exu.overheard = none) = true ∧
      holds (.telegramReceived .b heard) (hearing (some overheard))
        (fun t => t.exu.overheard = some (overheard.setLane .b OverLane.fresh)) = true ∧
      holds (.telegramReceived .b heard) (hearing (some { overheard with lateB := true }))
        (fun t => t.exu.overheard.map (fun o => o.firstLane) = some .b) = true ∧
      holds (.telegramReceived .b other) (hearing (some (toA (.recorded goodReply)))) learned = true ∧
      holds (.telegramReceived .b other) (hearing (some (both goodReply goodReply))) learned = true ∧
      holds (.telegramReceived .b other) (hearing (some (both goodReply { goodReply with condition := 0 })))
        (fun t => t.stations = [station5] ∧ t.exu.overheard.isSome) = true := by decide +kernel

/-- A request, and a reply that is overheard too, as the first telegram of an own window in LISTEN; a request in OFF. -/
theorem test_witness_VerdictAndFaults_listen :
    let s : State := { polling with msu.role := .listen, swe.state := .stopped, exu.exchange := some { poll with noRetry := true } }
    holds (.telegramReceived .a (heardAs (foreign 0).telegram)) s
        (fun t => t.exu.exchange = none ∧ t.exu.overheard.isSome ∧ t.lanes.a.damaged = 1) = true ∧
      holds (.telegramReceived .a (heardAs goodReply.telegram))
        { s with exu.overheard := some (overheard.setLane .a { OverLane.fresh with receiving := true }) }
        (fun t => t.exu.exchange = none ∧ t.exu.overheard = none) = true ∧
      holds (.telegramReceived .a (heardAs (foreign 0).telegram)) { s with msu.role := .off }
        (fun t => t.exu.exchange = none ∧ t.exu.overheard = none) = true := by decide +kernel

/-- A ROLE result due in LISTEN with its wind-down's other conditions met. -/
def windingUp (h : Hand) : State :=
  { listening with
    msu.takeoverTimer := false, msu.roleDue := [yieldDue], msu.windDown := some { awaitHand := false }, oru.hand := h }

/-- ROLE_RESULT_STAGE: a YIELD that waits, a deferred CLAIM with places for two, for one and with another result due, a CLAIM
that waits for an entry to ACTIVE, a drain, and no place. -/
theorem test_witness_TakeoverAndWindDown_hands :
    let claimed : RoleChange := { yieldDue with role := .active, previous := .listen, reason := .claimed }
    let deferred := windingUp (.claimDeferred (roleOrder 1))
    holds .roleResultStage (windingUp (.yieldStaging (roleOrder 2)))
        (fun t => t.oru.hand = .stageWait (roleOrder 2) ∧ t.msu.takeoverTimer) = true ∧
      holds .roleResultStage deferred
        (fun t => t.rpu.staging.length = 2 ∧ t.msu.role = .active ∧ t.oru.hand = .stageWait (roleOrder 1)) = true ∧
      holds .roleResultStage { deferred with rpu.staging := List.replicate 5 (.order aResult) }
        (fun t => t.msu.roleDue = [claimed] ∧ t.oru.hand = .claimStaging (roleOrder 1)) = true ∧
      holds .roleResultStage { deferred with msu.roleDue := [yieldDue, yieldDue] }
        (fun t => t.msu.roleDue = [yieldDue, claimed] ∧ t.oru.hand = .claimStaging (roleOrder 1)) = true ∧
      holds .roleResultStage { active with msu.roleDue := [claimed], oru.hand := .claimStaging (roleOrder 1) }
        (fun t => t.oru.hand = .stageWait (roleOrder 1) ∧ t.msu.roleDue = []) = true ∧
      holds .roleResultStage
        { draining with msu.roleDue := [yieldDue], msu.windDown := some { awaitHand := false } }
        (fun t => t.msu.windDown = none ∧ t.msu.takeoverTimer = false ∧ t.rpu.staging.length = 1) = true ∧
      holds .roleResultStage { deferred with rpu.staging := sixResults } (fun t => t.msu.roleDue = [yieldDue]) = true ∧
      holds .roleResultStage { deferred with msu.windDown := some { awaitHand := true } }
        (fun t => t.msu.roleDue = [yieldDue]) = true := by decide +kernel

/-- A Directory that passes, each of its codes away from 0, and the settings it gives. -/
theorem test_witness_DirectoryFields :
    (directoryBytes 16 1 1).length = 64 ∧
      (parseDirectory (directoryBytes 16 1 1)).map (fun d => (d.orderRing, d.resultRing, d.bitRate, d.laneMode)) =
        some (0x2000#64, 0x3000#64, .kbit500, .alternate) ∧
      (parseDirectory (directoryBytes 16 3 0)).map (fun d => (d.laneMode, d.masterTag, d.startRole, d.sweepResults)) =
        some (.singleB, 1#1, .listen, true) := by decide +kernel

/-- The first, a middle and the last kind code, and codes that are no kind. -/
theorem test_witness_KindCodes :
    ([0x01#8, 0x07#8, 0x08#8, 0x0E#8].map (fun k => (anOrder k 5 0 1 0 []).kind?) =
        [some .enrol, some .read, some .write, some .stats]) ∧
      ([0x00#8, 0x0F#8, 0xFF#8].map (fun k => (anOrder k 5 0 1 0 []).kind?) = [none, none, none]) := by decide +kernel

/-- A fetch and a record that make no Report Block due, and with report_hold 0 the same that do. -/
theorem test_witness_reports_not_due :
    let now (s : State) : State := { s with xpt.directory := some { settings with reportHold := 0 } }
    let fetched : State := { active with xpt.readPath := some (.orderFetch 0 1) }
    let written : State :=
      { active with
        rpu.staging := [.order { aResult with reportNow := false }], rpu.writePath := some (.record 0x3000 []) }
    let due (t : State) : Bool := t.rpu.reportDue
    holds (.orderFetchDone (List.replicate 32 0)) fetched (fun t => !due t) = true ∧
      holds (.orderFetchDone (List.replicate 32 0)) (now fetched) due = true ∧
      holds .recordWriteDone written (fun t => !due t) = true ∧ holds .recordWriteDone (now written) due = true := by
  decide +kernel

/-- Windows that share a slot, and windows side by side. -/
theorem test_witness_Enrolment_overlap :
    station5.overlaps { station5 with firstSlot := 13 } = true ∧
      station5.overlaps { station5 with firstSlot := 14 } = false ∧ 1 ≤ station5.slotCount := by decide +kernel

/-- A SHAPE body whose every field differs: notify FEh is off (R189). -/
theorem test_witness_ShapeFields :
    (anOrder 0x03 5 0 0 0
        [2#8, 0xFE#8, 0x34#8, 0x12#8, 0xE1#8, 0#8, 0#8, 0#8, 1#8, 2#8, 3#8, 4#8, 5#8, 6#8, 7#8, 8#8]).conversion? =
      some { mode := .flag, scale := 0x1234#16, shift := 0xE1#8, offset := 0x04030201#32, jumpLimit := 0x08070605#32
             notify := false } := by decide +kernel

/-- A delimiter in a window of an own exchange: nothing of it changes but the lane's part. -/
theorem test_witness_DelimitersAndHolds_own :
    let x : Exchange := { poll with partA := .waiting, attempt := 2, noRetry := true }
    holds (.startDelimiter .a (.heard 4000))
      { polling with lanes.a.rx := .quiet, exu.exchange := some x, exu.seqCounter := 3 }
      (fun t => t.exu.exchange = some { x with partA := .receiving } ∧ t.exu.seqCounter = 3) = true := by decide +kernel

/-- A STORE and three replies written out from section 10.5, values most significant byte first. -/
theorem test_telegrams_with_values :
    Request.telegram
        { address := 5, tag := 1, verb := .store, seq := 2, first := 3, count := 1, values := [0x01020304#32] } =
      withCheck [0x05#8, 0xA1#8, 0x43#8, 1#8, 2#8, 3#8, 4#8] ∧
    Reply.telegram { goodReply with seq := 2, count := 1, values := [0x01020304#32] } =
      withCheck [0x85#8, 0x2A#8, 1#8, 0x11#8, 1#8, 2#8, 3#8, 4#8] ∧
    Reply.telegram { goodReply with cls := .busy, values := [] } = withCheck [0x85#8, 0x30#8, 2#8, 0x11#8] ∧
    Reply.telegram
        { goodReply with verb := .query, cls := .good, count := 1, values := [], identity := some (0x21#8, 4) } =
      withCheck [0x85#8, 0x68#8, 1#8, 0x11#8, 0x21#8, 4#8] := by decide +kernel

/-- A point of each mode. -/
theorem test_witness_modes : Point.default.conv.mode = .instant ∧ meter.conv.mode = .total ∧
    { Point.default with conv := { Point.default.conv with mode := .flag } }.conv.mode = .flag := by decide +kernel

/-- Intervals at the bounds of R70 at 500 kbit/s; sound cells, tails that damage a telegram, and fields that are sound. -/
theorem test_witness_CheckOfATelegram :
    (classify 2000 500 = .half ∧ classify 2000 1499 = .half ∧ classify 2000 1500 = .whole ∧ classify 2000 2500 = .whole ∧
      classify 2000 499 = .error ∧ classify 2000 2501 = .error ∧ classify 2000 5000 = .error) ∧
    (∀ c ∈ [[2000], [1000, 1000]],
      (∃ w, c = [w] ∧ classify 2000 w = .whole) ∨
        (∃ h k, c = [h, k] ∧ classify 2000 h = .half ∧ classify 2000 k = .half)) ∧
    receive .kbit500 [2000, 1000] = none ∧ receive .kbit500 [1000, 2000] = none ∧
    soundRequest [0x17#8, 0x14#8, 0xA4#8] ∧ soundReply [0x85#8, 0x28#8, 1#8, 0#8, 1#8, 2#8, 3#8, 4#8] := by
  refine ⟨by decide +kernel, fun c hc => ?_, by decide +kernel, by decide +kernel, ?_, ?_⟩
  · simp only [List.mem_cons, List.not_mem_nil, or_false] at hc
    rcases hc with rfl | rfl
    · exact Or.inl ⟨2000, rfl, by decide +kernel⟩
    · exact Or.inr ⟨1000, 1000, rfl, by decide +kernel, by decide +kernel⟩
  · unfold soundRequest; decide +kernel
  · unfold soundReply; decide +kernel

/-! The invariants hold of a RUNNING device with a station enrolled, a scan list and a poll open, and it takes steps. -/

theorem test_witness_invariants_areas_and_queues :
    polling.AreaAligned ∧ polling.StagingSound ∧ polling.QueuesSound ∧ polling.RoleSound ∧ polling.CountsSound :=
  ⟨⟨by decide, by decide, fun _ h => (by cases h)⟩,
    ⟨⟨by decide, by decide, by decide, by decide⟩, ⟨by decide, by decide⟩, fun _ => rfl, by decide⟩,
    ⟨by decide, by decide, by decide, fun _ _ h => (by cases h)⟩,
    ⟨⟨by decide, by decide, by decide, by decide⟩, ⟨by decide, by decide⟩, fun h => (by cases h), fun h => (by cases h),
      fun h => (by cases h)⟩,
    ⟨by decide, by decide, by decide⟩⟩

theorem test_witness_invariants_tables : polling.StationsSound ∧ polling.ListsSound ∧ polling.PointsSound := by
  have h : polling.StationsSound :=
    ⟨by decide, List.pairwise_singleton _ _, List.pairwise_singleton _ _, by decide⟩
  refine ⟨h, ⟨by decide, by decide, by decide, by decide⟩, h, fun slot hs _ => ?_, fun _ _ h => (by cases h)⟩
  simp [polling, active, State.reset, State.point, hs]

/-- The Sweep Engine's invariant of a device with a poll open, and with a claim raised. -/
theorem test_witness_invariants_sweep : polling.SweepSound ∧ claiming.SweepSound := by
  constructor
  · refine ⟨⟨by decide, by decide, by decide, by decide⟩, by decide, fun _ h => (by cases h), by decide, by decide,
      by decide, fun _ _ h => (by cases h)⟩
  · refine ⟨⟨by decide, by decide, by decide, by decide⟩, by decide, fun a h => ?_, by decide, by decide, by decide,
      fun _ _ h => (by cases h)⟩
    cases h
    exact ⟨rfl, rfl, rfl, fun _ h => (by cases h), fun r h => (by cases h; rfl)⟩

theorem test_witness_invariants_records : polling.RecordsSound ∧ polling.RingsSound := by
  refine ⟨⟨by decide, by decide, by decide, fun x h _ => ?_, fun x h hv => ?_⟩,
    ⟨by decide, fun _ _ h => (by cases h), fun _ _ h => (by cases h), by decide, fun _ _ h => (by cases h)⟩⟩
  · cases h
    exact ⟨station5, by decide, rfl⟩
  · cases h
    cases hv

/-- The holds of a device with a RETIRE in HOLD_WAIT. -/
theorem test_witness_invariants_holds :
    { polling with oru.hand := .holdWait retireOrder, stations := [{ station5 with held := true }] }.HoldsSound := by
  refine ⟨⟨by decide, by decide, by decide, by decide⟩, fun r hr _ => ?_,
    fun h => absurd h (by decide), by decide, fun c h _ => (by cases h)⟩
  cases hr with
  | head => exact ⟨retireOrder, rfl, rfl⟩
  | tail _ h => cases h

theorem test_witness_invariants_step : ∃ t, step (polling.withPending [.areaLoWrite 1]) = .next t := ⟨_, rfl⟩

end Sys2Proof.Tests
end

/-! The readings of INSTANT and FLAG points (R31, R32, R38): the exact shift, saturation to a signed range, and what one
reading does to its point. -/

namespace Sys2Proof.Machine

/-! ### The exact shift (R31) -/

theorem shiftExact_natCast (x : Int) (n : Nat) : shiftExact x n = x * 2 ^ n := by
  rw [shiftExact, if_pos (Int.natCast_nonneg n), Int.toNat_natCast]

/-- A shift of 0 takes the multiplying branch of the model, and there the quotient by 2^0 is the same number. -/
theorem shiftExact_neg_natCast (x : Int) (n : Nat) : shiftExact x (-(n : Int)) = Int.fdiv x (2 ^ n) := by
  rcases Nat.eq_zero_or_pos n with rfl | hn
  · simp [shiftExact]
  · rw [shiftExact, if_neg (by omega), Int.neg_neg, Int.toNat_natCast]

/-- A negative shift rounds toward minus infinity. -/
theorem shiftExact_neg_natCast_bounds (x : Int) (n : Nat) :
    shiftExact x (-(n : Int)) * 2 ^ n ≤ x ∧ x < (shiftExact x (-(n : Int)) + 1) * 2 ^ n := by
  have hpos : (0 : Int) < 2 ^ n := Int.pow_pos (by decide)
  rw [shiftExact_neg_natCast, Int.fdiv_eq_ediv_of_nonneg x hpos.le]
  exact ⟨Int.ediv_mul_le x hpos.ne', Int.lt_ediv_add_one_mul_self x hpos⟩

/-! ### Saturation (R31) -/

section
variable {w : Nat} {x : Int}

theorem saturate_of_inRange (hlo : -2 ^ (w - 1) ≤ x) (hhi : x ≤ 2 ^ (w - 1) - 1) : saturate w x = x := by
  rw [saturate, if_neg (by omega), if_neg (by omega)]

theorem saturate_of_above (h : 2 ^ (w - 1) - 1 < x) : saturate w x = 2 ^ (w - 1) - 1 := by
  have hpos : (0 : Int) < 2 ^ (w - 1) := Int.pow_pos (by decide)
  rw [saturate, if_neg (by omega), if_pos h]

theorem saturate_of_below (h : x < -2 ^ (w - 1)) : saturate w x = -2 ^ (w - 1) := by
  rw [saturate, if_pos h]

theorem saturate_inRange (w : Nat) (x : Int) : -2 ^ (w - 1) ≤ saturate w x ∧ saturate w x < 2 ^ (w - 1) := by
  have hpos : (0 : Int) < 2 ^ (w - 1) := Int.pow_pos (by decide)
  unfold saturate
  split
  · omega
  · split <;> omega

/-- A saturated number is read back from the word that holds it. -/
theorem toInt_ofInt_saturate (hw : 0 < w) (x : Int) : (BitVec.ofInt w (saturate w x)).toInt = saturate w x :=
  BitVec.toInt_ofInt_eq_self hw (saturate_inRange w x).1 (saturate_inRange w x).2

end

/-! ### An INSTANT reading (R31, R32) -/

/-- The exact sum of R31. -/
def instantSum (p : Point) (raw : Word) : Int :=
  shiftExact (raw.toInt * p.conv.scale.toInt) p.conv.shift.toInt + p.conv.offset.toInt

/-- Whatever the sum is, only the value and clip_count of the image move. -/
theorem conditionInstant_frame (p : Point) (raw : Word) :
    (conditionInstant p raw).rebased = false ∧ (conditionInstant p raw).change = none ∧
      (conditionInstant p raw).point.conv = p.conv ∧
      { (conditionInstant p raw).point.image with value := p.image.value, clipCount := p.image.clipCount } = p.image :=
  ⟨rfl, rfl, rfl, rfl⟩

theorem conditionInstant_value (p : Point) (raw : Word) :
    (conditionInstant p raw).point.image.value.toInt = saturate 32 (instantSum p raw) :=
  toInt_ofInt_saturate (by decide) _

theorem conditionInstant_clipped (p : Point) (raw : Word) :
    (conditionInstant p raw).clipped = decide (saturate 32 (instantSum p raw) ≠ instantSum p raw) := rfl

theorem conditionInstant_clipCount (p : Point) (raw : Word) :
    (conditionInstant p raw).point.image.clipCount =
      if (conditionInstant p raw).clipped then min 65535 (p.image.clipCount + 1) else p.image.clipCount := rfl

/-- A sum within the range is the value, and nothing is clipped. -/
theorem conditionInstant_of_inRange (p : Point) (raw : Word)
    (hlo : -2147483648 ≤ instantSum p raw) (hhi : instantSum p raw ≤ 2147483647) :
    (conditionInstant p raw).point.image.value.toInt = instantSum p raw ∧
      (conditionInstant p raw).clipped = false ∧
      (conditionInstant p raw).point.image.clipCount = p.image.clipCount := by
  have hsat : saturate 32 (instantSum p raw) = instantSum p raw := saturate_of_inRange hlo hhi
  have hclip : (conditionInstant p raw).clipped = false := by simp [conditionInstant_clipped, hsat]
  exact ⟨by rw [conditionInstant_value, hsat], hclip, by simp [conditionInstant_clipCount, hclip]⟩

/-- A sum that saturates to another number, at either bound, counts as clipped. -/
theorem conditionInstant_of_saturated (p : Point) (raw : Word) {bound : Int}
    (hsat : saturate 32 (instantSum p raw) = bound) (hne : bound ≠ instantSum p raw) :
    (conditionInstant p raw).point.image.value.toInt = bound ∧
      (conditionInstant p raw).clipped = true ∧
      (conditionInstant p raw).point.image.clipCount = min 65535 (p.image.clipCount + 1) := by
  have hclip : (conditionInstant p raw).clipped = true := by simp [conditionInstant_clipped, hsat, hne]
  exact ⟨by rw [conditionInstant_value, hsat], hclip, by simp [conditionInstant_clipCount, hclip]⟩

theorem conditionPoint_of_instant (count raw : Word) (p : Point) (h : p.conv.mode = .instant) :
    conditionPoint count p raw =
      { conditionInstant p raw with point.image := (conditionInstant p raw).point.image.accept count } := by
  simp only [conditionPoint, h]

/-- Settles O47: the sum lies within the signed 32-bit range, above it or below it. -/
theorem instantReading : Obligations.InstantReading := by
  refine ⟨fun x n => ⟨shiftExact_natCast x n, shiftExact_neg_natCast_bounds x n⟩, fun p raw => ?_,
    fun count raw p => conditionPoint_of_instant count raw p⟩
  refine ⟨conditionInstant_of_inRange p raw, fun habove => ?_, fun hbelow => ?_, conditionInstant_frame p raw⟩
  · exact conditionInstant_of_saturated p raw (saturate_of_above habove) (ne_of_lt habove)
  · exact conditionInstant_of_saturated p raw (saturate_of_below hbelow) (ne_of_gt hbelow)

/-! ### A FLAG reading (R38, R41) -/

/-- Only the value of the image moves, to the masked bits. -/
theorem conditionFlag_point (p : Point) (raw : Word) :
    (conditionFlag p raw).point = { p with image := { p.image with value := raw &&& p.conv.offset } } := rfl

theorem conditionFlag_unflagged (p : Point) (raw : Word) :
    (conditionFlag p raw).clipped = false ∧ (conditionFlag p raw).rebased = false := ⟨rfl, rfl⟩

theorem conditionFlag_change_of_differs (p : Point) (raw : Word) (hread : p.image.quality ≠ .never)
    (hbits : raw &&& p.conv.offset ≠ p.image.value) (hnotify : p.conv.notify = true) :
    (conditionFlag p raw).change = some (.flag, p.image.value) :=
  if_pos ⟨hread, hbits, hnotify⟩

/-- A point never read, bits as they were, or a point whose notify is off: no change. -/
theorem conditionFlag_change_none (p : Point) (raw : Word)
    (h : p.image.quality = .never ∨ raw &&& p.conv.offset = p.image.value ∨ p.conv.notify = false) :
    (conditionFlag p raw).change = none := by
  refine if_neg fun ⟨hread, hbits, hnotify⟩ => ?_
  rcases h with hnever | hsame | hoff
  · exact hread hnever
  · exact hbits hsame
  · exact absurd hnotify (by simp [hoff])

theorem conditionPoint_of_flag (count raw : Word) (p : Point) (h : p.conv.mode = .flag) :
    conditionPoint count p raw =
      { conditionFlag p raw with point.image := (conditionFlag p raw).point.image.accept count } := by
  simp only [conditionPoint, h]

/-- Settles O49: the change turns on the three conditions of R38 and R41; the rest is the masked value alone. -/
theorem flagReading : Obligations.FlagReading := by
  refine ⟨fun p raw => ?_, fun count raw p => conditionPoint_of_flag count raw p⟩
  obtain ⟨hclip, hrebase⟩ := conditionFlag_unflagged p raw
  exact ⟨conditionFlag_point p raw, hclip, hrebase, conditionFlag_change_of_differs p raw,
    conditionFlag_change_none p raw⟩

end Sys2Proof.Machine

/-! SCAN_ADD (R52): the chain of its tests as `refuseScanAdd` answers it, and the order carried out on either answer. -/

namespace Sys2Proof.Machine

@[simp] theorem within_eq_true_iff (low high n : Nat) : within low high n = true ↔ low ≤ n ∧ n ≤ high := by
  simp [within]

/-! ### The tests of SCAN_ADD, in order -/

/-- The ranges of step 1: the count and every address that the order carries. -/
def Order.ScanInRange (o : Order) : Prop :=
  1 ≤ o.count ∧ o.count ≤ 16 ∧ ∀ a ∈ o.scanAddresses, 1 ≤ a ∧ a ≤ 125

/-- Step 1 as the model tests it. -/
theorem Order.scanInRange_iff (o : Order) :
    (within 1 16 o.count && o.scanAddresses.all (within 1 Config.maxStationAddress)) = true ↔ o.ScanInRange := by
  simp [Order.ScanInRange, Config.maxStationAddress, and_assoc]

section
variable {s : State} {o : Order}

theorem State.refuseScanAdd_of_outOfRange (h : ¬ o.ScanInRange) : s.refuseScanAdd o = some (.badOrder, 0) := by
  rw [← o.scanInRange_iff] at h
  simp only [State.refuseScanAdd, h, Bool.not_false, if_true]

/-- The first address that names no enrolled station gives its position. -/
theorem State.refuseScanAdd_of_notEnrolled (h : o.ScanInRange) {i a : Nat} (ha : o.scanAddresses[i]? = some a)
    (hnone : s.station? a = none)
    (hbefore : ∀ j b, j < i → o.scanAddresses[j]? = some b → (s.station? b).isSome) :
    s.refuseScanAdd o = some (.notFound, i) := by
  obtain ⟨hi, rfl⟩ := List.getElem?_eq_some_iff.1 ha
  have hfirst : o.scanAddresses.findIdx? (fun a => (s.station? a).isNone) = some i := by
    refine List.findIdx?_eq_some_iff_getElem.2 ⟨hi, by simp [hnone], fun j hj => ?_⟩
    simpa [Option.ne_none_iff_isSome] using hbefore j _ hj (List.getElem?_eq_getElem (hj.trans hi))
  rw [← o.scanInRange_iff] at h
  simp only [State.refuseScanAdd, h, Bool.not_true, Bool.false_eq_true, if_false, hfirst]

/-- With every address enrolled, only the room in the list is left to test. -/
theorem State.refuseScanAdd_of_enrolled (h : o.ScanInRange) (hall : ∀ a ∈ o.scanAddresses, (s.station? a).isSome) :
    s.refuseScanAdd o =
      if Config.scanListEntries < s.swe.pendingList.length + o.count then some (.listFull, 0) else none := by
  have hnone : o.scanAddresses.findIdx? (fun a => (s.station? a).isNone) = none :=
    List.findIdx?_eq_none_iff.2 fun a ha => by simpa [Option.ne_none_iff_isSome] using hall a ha
  rw [← o.scanInRange_iff] at h
  simp only [State.refuseScanAdd, h, Bool.not_true, Bool.false_eq_true, if_false, hnone]

end

/-! ### The order carried out -/

section
variable {s : State} {o : Order} {k : OrderKind}

/-- An order that completes as it is taken: the completion list was empty (R133, R134). -/
theorem State.completeHand_popOrder_of_Takes (h : s.Takes o k) (c : OrderOutcome) (detail : Nat) (entries : Entries) :
    s.popOrder.completeHand o c detail entries = s.finished o c detail entries := by
  simp [State.completeHand, State.popOrder, State.finished, h.completion]

/-- The Sweep Engine has no part in whether an order is taken. -/
theorem State.Takes.setSweep (h : s.Takes o k) (swe : SweepEngine) : ({ s with swe := swe } : State).Takes o k :=
  ⟨h.running, h.hand, h.completion, h.head, h.kind⟩

/-- A test that fails: the order completes with its outcome and detail, and the list is not touched. -/
theorem exec_scanAdd_of_refused (h : s.Takes o .scanAdd) {c : OrderOutcome} {detail : Nat}
    (hrefuse : s.refuseScanAdd o = some (c, detail)) :
    exec .scanAdd s = .next (s.finished o c detail (.values [])).settle := by
  change execScanAdd s = _
  simp only [execScanAdd, State.takes_of_Takes h, hrefuse, State.completeHand_popOrder_of_Takes h, done_eq]

/-- Every test passes: the addresses join the tail of the Pending Scan List. -/
theorem exec_scanAdd_of_accepted (h : s.Takes o .scanAdd) (haccept : s.refuseScanAdd o = none) :
    exec .scanAdd s =
      .next
        (({ s with swe.pendingList := s.swe.pendingList ++ o.scanAddresses } : State).finished o .done 0
          (.values [])).settle := by
  change execScanAdd s = _
  simp only [execScanAdd, State.takes_of_Takes h, haccept, State.answer,
    State.completeHand_popOrder_of_Takes (h.setSweep _), done_eq]

end

/-- Settles O26: the answer of each test of R52 in turn, and what the order then does. -/
theorem scanAdd : Obligations.ScanAdd := by
  intro s o h addresses inRange
  refine ⟨fun hout => ?_, fun hin i a ha hnone hbefore => ?_, fun hin hall => ⟨fun hfull => ?_, fun hroom => ?_⟩⟩
  · exact exec_scanAdd_of_refused h (State.refuseScanAdd_of_outOfRange hout)
  · exact exec_scanAdd_of_refused h (State.refuseScanAdd_of_notEnrolled hin ha hnone hbefore)
  · exact exec_scanAdd_of_refused h ((State.refuseScanAdd_of_enrolled hin hall).trans (if_pos hfull))
  · exact exec_scanAdd_of_accepted h
      ((State.refuseScanAdd_of_enrolled hin hall).trans (if_neg (Nat.not_lt.2 hroom)))

end Sys2Proof.Machine

/-! HOST_BLOCK_READ_DONE (R163) and the interrupt line (R177): entry to FAULTED with its levels settled, the tests of the
counts as one proposition, and the three answers of the command. -/

namespace Sys2Proof.Machine

/-! ### The exchange state as the meanings test it -/

section
variable {s t : State} {cause : FaultCause}

theorem State.hosting_iff : s.hosting = true ↔ s.Hosting := by
  simp [State.hosting, State.running, State.draining, State.Hosting]

theorem State.intN_iff :
    s.intN = true ↔
      s.ctl.exchangeState = .faulted ∨ (s.Hosting ∧ s.rpu.lastTag ≠ s.xpt.hostBlock.tagSeen) := by
  simp [State.intN, State.hosting_iff]

theorem State.not_hosting_of_faulted (h : s.ctl.exchangeState = .faulted) : ¬ s.Hosting := by
  simp [State.Hosting, h]

/-! ### The timers that a settlement leaves stopped -/

theorem State.headNeedsBuffer_of_nothing_staged (h : s.rpu.staging = []) : s.headNeedsBuffer = false := by
  simp [State.headNeedsBuffer, h]

/-- With nothing staged no head waits for a buffer (R168). -/
theorem State.settle_bulkWaitTimer_of_nothing_staged (h : s.rpu.staging = []) :
    s.settle.rpu.bulkWaitTimer = false := by
  simp [State.settle, State.settleHead, State.headNeedsBuffer_of_nothing_staged h]

theorem State.attentionCondition_of_not_hosting (h : ¬ s.Hosting) : s.attentionCondition = false := by
  have hrunning : s.ctl.exchangeState ≠ .running := fun hr => h (Or.inl hr)
  simp [← Bool.not_eq_true, State.attentionCondition_iff, h, hrunning]

theorem State.settleAttention_of_not_hosting (h : ¬ s.Hosting) :
    s.settleAttention = { s with rpu.attention := .stopped } := by
  simp [State.settleAttention, State.attentionCondition_of_not_hosting h]

/-- Outside RUNNING and DRAINING the attention timer has no condition to run for (R178). -/
theorem State.settle_attention_of_not_hosting (h : ¬ s.Hosting) : s.settle.rpu.attention = .stopped := by
  have hsettled : ¬ s.settleHead.settleReport.Hosting := by simpa [State.Hosting] using h
  simp [State.settle, State.settleAttention_of_not_hosting hsettled]

/-! ### Entry to FAULTED (R186) -/

/-- An open exchange is forbidden its retry and otherwise kept (R84). -/
theorem State.forbidRetry_exchange (s : State) :
    s.forbidRetry.exu.exchange = s.exu.exchange.map (fun x => { x with noRetry := true }) := rfl

theorem State.fault_role (s : State) (cause : FaultCause) :
    (s.fault cause).msu.role =
      if s.ctl.exchangeState = .running ∧ s.msu.role = .active then .listen else s.msu.role := by
  have hactive : (s.running && decide (s.msu.role = .active)) = true ↔
      s.ctl.exchangeState = .running ∧ s.msu.role = .active := by simp [State.running]
  exact if_congr hactive rfl rfl

theorem State.fault_faultedFrom (s : State) (cause : FaultCause) : (s.fault cause).FaultedFrom s cause where
  state := rfl
  cause := rfl
  intN := State.intN_iff.2 (Or.inl rfl)
  paths := ⟨rfl, rfl⟩
  staging := rfl
  orders := rfl
  sweep := ⟨rfl, rfl, rfl, rfl, rfl, rfl⟩
  timers := ⟨rfl, rfl, rfl, rfl, rfl, rfl, rfl, rfl⟩
  role := s.fault_role cause
  exchange := s.forbidRetry_exchange
  held := rfl
  kept := ⟨rfl, rfl, rfl, rfl⟩
  lists := ⟨rfl, rfl, rfl, rfl, rfl⟩
  counts := ⟨rfl, rfl, rfl, rfl, rfl, rfl, rfl, rfl, rfl⟩
  mastership := ⟨rfl, rfl⟩

/-- In FAULTED nothing is staged and no host access goes on, so the levels start no timer. -/
theorem State.FaultedFrom.settle (h : t.FaultedFrom s cause) : t.settle.FaultedFrom s cause where
  state := by simpa using h.state
  cause := by simpa using h.cause
  intN := State.intN_iff.2 (Or.inl (by simpa using h.state))
  paths := by simpa using h.paths
  staging := by simpa using h.staging
  orders := by simpa using h.orders
  sweep := by simpa using h.sweep
  timers := by
    obtain ⟨hlook, hhold, -, -, hmastership⟩ := h.timers
    exact ⟨by simpa using hlook, by simpa using hhold, State.settle_bulkWaitTimer_of_nothing_staged h.staging,
      State.settle_attention_of_not_hosting (State.not_hosting_of_faulted h.state), by simpa using hmastership⟩
  role := by simpa using h.role
  exchange := by simpa using h.exchange
  held := by simpa using h.held
  kept := by simpa using h.kept
  lists := by simpa using h.lists
  counts := by simpa using h.counts
  mastership := by simpa using h.mastership

end

/-! ### The tests of R163 -/

/-- The counts of a Host Block read lie within what the device has taken and written (R163). -/
def State.CountsWithin (s : State) (h : HostBlock) : Prop :=
  (h.ordersPosted - s.xpt.ordersTaken).toNat ≤ s.dir.orderSize ∧
    (h.resultsReleased - s.xpt.hostBlock.resultsReleased).toNat ≤
      (s.rpu.resultsWritten - s.xpt.hostBlock.resultsReleased).toNat ∧
    (s.dir.supplySize ≠ 0 → (h.bulkPosted - s.xpt.bulkTaken).toNat ≤ s.dir.supplySize) ∧
    (s.dir.supplySize = 0 → h.bulkPosted = s.xpt.bulkTaken)

theorem State.countsOk_iff (s : State) (h : HostBlock) : s.countsOk h = true ↔ s.CountsWithin h := by
  by_cases hsupply : s.dir.supplySize = 0 <;> simp [State.countsOk, State.CountsWithin, hsupply, and_assoc]

/-! ### The answers of HOST_BLOCK_READ_DONE -/

section
variable {s : State} {address : Quad} {data : List Byte}

theorem exec_hostBlockReadDone_of_hosting (hhosting : s.Hosting)
    (hpath : s.xpt.readPath = some (.hostBlock address)) (hlength : data.length = 16) :
    exec (.hostBlockReadDone data) s =
      if s.countsOk (parseHostBlock data) then
        .next ({ s with xpt.hostBlock := parseHostBlock data, xpt.readPath := none } : State).settle
      else .next (s.fault .countError).settle := by
  change execHostBlockReadDone data s = _
  simp [execHostBlockReadDone, hlength, hpath, State.hosting_of_Hosting hhosting]

/-- The four values are taken together. -/
theorem exec_hostBlockReadDone_of_countsWithin (hhosting : s.Hosting)
    (hpath : s.xpt.readPath = some (.hostBlock address)) (hlength : data.length = 16)
    (hcounts : s.CountsWithin (parseHostBlock data)) :
    exec (.hostBlockReadDone data) s =
      .next ({ s with xpt.hostBlock := parseHostBlock data, xpt.readPath := none } : State).settle := by
  rw [exec_hostBlockReadDone_of_hosting hhosting hpath hlength, if_pos ((s.countsOk_iff _).2 hcounts)]

/-- None of the four values is taken, and the device becomes FAULTED. -/
theorem exec_hostBlockReadDone_of_not_countsWithin (hhosting : s.Hosting)
    (hpath : s.xpt.readPath = some (.hostBlock address)) (hlength : data.length = 16)
    (hcounts : ¬ s.CountsWithin (parseHostBlock data)) :
    exec (.hostBlockReadDone data) s = .next (s.fault .countError).settle := by
  rw [exec_hostBlockReadDone_of_hosting hhosting hpath hlength, if_neg (mt (s.countsOk_iff _).1 hcounts)]

/-- The data of a read that has been abandoned are discarded (R186, R188). -/
theorem exec_hostBlockReadDone_of_no_read (hpath : s.xpt.readPath = none) (hlength : data.length = 16) :
    exec (.hostBlockReadDone data) s = .next s := by
  change execHostBlockReadDone data s = _
  simp [execHostBlockReadDone, hlength, hpath]

end

/-- Settles O13: the tests pass, one fails, or no read is in progress. -/
theorem hostBlockReadIsTested : Obligations.HostBlockReadIsTested := by
  refine ⟨fun s address data hhosting hpath hlength => ⟨fun hpass => ?_, fun hfail => ?_⟩,
    fun s data hpath hlength => exec_hostBlockReadDone_of_no_read hpath hlength⟩
  · exact exec_hostBlockReadDone_of_countsWithin hhosting hpath hlength hpass
  · exact ⟨_, exec_hostBlockReadDone_of_not_countsWithin hhosting hpath hlength hfail,
      (s.fault_faultedFrom .countError).settle⟩

/-- Settles O6: the Bool that drives the line is R177's condition. -/
theorem interruptLine : Obligations.InterruptLine := fun _ => State.intN_iff

end Sys2Proof.Machine

/-! What a step can do, said once: the next state of every command is the state as it was, or one of the effects listed
here, with its levels brought up to date or not. An invariant that every effect keeps is kept by every step. -/

namespace Sys2Proof.Machine

/-! ### Orders taken in hand -/

/-- The Order Unit takes the order `o` from the head of the cache (R133). -/
structure State.InHand (s : State) (o : Order) : Prop where
  hosting : s.Hosting
  hand : s.oru.hand = .empty
  completion : s.oru.completion = []
  head : s.oru.cache.head? = some o

theorem State.Takes.inHand {s : State} {o : Order} {k : OrderKind} (h : s.Takes o k) : s.InHand o :=
  ⟨.inl h.running, h.hand, h.completion, h.head⟩

theorem State.running_iff (s : State) : s.running = true ↔ s.ctl.exchangeState = .running := by simp [State.running]

theorem State.draining_iff (s : State) : s.draining = true ↔ s.ctl.exchangeState = .draining := by
  simp [State.draining]

theorem State.handFree_iff (s : State) : s.handFree = true ↔ s.oru.hand = .empty ∧ s.oru.completion = [] := by
  simp [State.handFree]

theorem State.taken?_eq_some {s : State} {p : Order → Bool} {o : Order} :
    s.taken? p = some o ↔ s.ctl.exchangeState = .running ∧ s.InHand o ∧ p o = true := by
  unfold State.taken?
  constructor
  · intro h
    split at h
    · rename_i hfree
      obtain ⟨hrun, hhand⟩ := (Bool.and_eq_true _ _).mp hfree
      obtain ⟨hempty, hcompletion⟩ := (State.handFree_iff s).1 hhand
      obtain ⟨hhead, hp⟩ := Option.filter_eq_some_iff.1 h
      exact ⟨(State.running_iff s).1 hrun, ⟨.inl ((State.running_iff s).1 hrun), hempty, hcompletion, hhead⟩, hp⟩
    · cases h
  · rintro ⟨hrun, ⟨-, hempty, hcompletion, hhead⟩, hp⟩
    rw [if_pos (by simp [(State.running_iff s).2 hrun, (State.handFree_iff s).2 ⟨hempty, hcompletion⟩]), hhead]
    simp [hp]

theorem State.takes_iff_Takes {s : State} {k : OrderKind} {o : Order} : s.takes k = some o ↔ s.Takes o k := by
  refine ⟨fun h => ?_, State.takes_of_Takes⟩
  obtain ⟨hrun, ⟨-, hempty, hcompletion, hhead⟩, hkind⟩ := State.taken?_eq_some.1 h
  exact ⟨hrun, hempty, hcompletion, hhead, by simpa using hkind⟩

theorem State.takesRole_iff {s : State} {q : RoleRequest} {o : Order} :
    s.takesRole q = some o ↔ s.Takes o .role ∧ o.roleRequest = q := by
  simp only [State.takesRole, State.taken?_eq_some, Bool.and_eq_true, decide_eq_true_eq]
  exact ⟨fun ⟨hrun, ⟨_, hempty, hcompletion, hhead⟩, hkind, hq⟩ => ⟨⟨hrun, hempty, hcompletion, hhead, hkind⟩, hq⟩,
    fun ⟨h, hq⟩ => ⟨h.running, h.inHand, h.kind, hq⟩⟩

/-! ### The effects -/

/-- The effects of the commands, each with the conditions under which it comes about, before the levels are brought up to
date. -/
inductive State.Effect (s : State) : State → Prop
  -- Control
  | powerOn : s.Effect { State.reset with pending := s.pending }
  | reset :
      s.Effect
        { State.reset with
          pending := s.pending, ctl := { Control.reset with areaLo := s.ctl.areaLo, areaHi := s.ctl.areaHi } }
  | start (halted : s.ctl.exchangeState = .halted) (idle : s.ctl.start = none) :
      s.Effect
        { s with
          ctl.faultCause := .none, ctl.startRefused := false
          ctl.start := some { base := s.ctl.areaRegisters, directory := none }
          xpt.readPath := some (.directory s.ctl.areaRegisters) }
  | beginDrain (running : s.ctl.exchangeState = .running) : s.Effect s.beginDrain
  | haltFromFault (faulted : s.ctl.exchangeState = .faulted) : s.Effect s.haltFromFault
  | areaLo (value : Word) (halted : s.ctl.exchangeState = .halted) (idle : s.ctl.start = none) :
      s.Effect { s with ctl.areaLo := value &&& 0xFFFFF000#32 }
  | areaHi (value : Word) (halted : s.ctl.exchangeState = .halted) (idle : s.ctl.start = none) :
      s.Effect { s with ctl.areaHi := value }
  | refuseStart (cause : FaultCause) (started : s.ctl.start.isSome) : s.Effect (s.refuseStart cause)
  | directoryPassed (p : StartProgress) (d : Directory) (started : s.ctl.start = some p) :
      s.Effect
        { s with
          ctl.start := some { p with directory := some d }, xpt.readPath := some (.startHostBlock (p.base + 64)) }
  | takeStart (base : Quad) (d : Directory) (h : HostBlock) (started : s.ctl.start = some { base, directory := some d })
      (counts : startCountsOk d h = true) : s.Effect (s.takeStart base d h)
  | fault (cause : FaultCause) (hosting : s.Hosting) : s.Effect (s.fault cause)
  | drainExpired (draining : s.ctl.exchangeState = .draining) (timer : s.ctl.drainTimer = true)
      (busy : s.pathsFree = false) :
      s.Effect { s.cutExchange with ctl := { s.ctl with drainTimer := false, drainExpired := true } }
  | drainExpiredEnd (draining : s.ctl.exchangeState = .draining) (timer : s.ctl.drainTimer = true)
      (free : s.pathsFree = true) :
      s.Effect ({ s.cutExchange with ctl := { s.ctl with drainTimer := false, drainExpired := true } } : State).endDrain
  | drainEnd (draining : s.ctl.exchangeState = .draining) (going : s.ctl.drainEnded = false) (free : s.pathsFree = true)
      (finished : s.ctl.drainExpired = true ∨ s.drained = true) : s.Effect s.endDrain
  -- Exchange Port
  | readWanted : s.Effect { s with xpt.readWanted := true }
  | hostBlockReadBegin (free : s.xpt.readPath = none) :
      s.Effect { s with xpt.readPath := some (.hostBlock (s.ctl.areaBase + 64)), xpt.readWanted := false }
  | hostBlockTaken (h : HostBlock) (address : Quad) (hosting : s.Hosting)
      (reading : s.xpt.readPath = some (.hostBlock address)) (counts : s.CountsWithin h) :
      s.Effect { s with xpt.hostBlock := h, xpt.readPath := none }
  | orderFetchBegin (free : s.xpt.readPath = none) (running : s.ctl.exchangeState = .running) :
      s.Effect
        { s with
          xpt.readPath := some
            (.orderFetch (slotAddress s.dir.orderRing s.dir.orderSize 32 s.xpt.ordersTaken) s.fetchCount) }
  | orderFetchDone (address : Quad) (k : Nat) (data : List Byte) (hosting : s.Hosting)
      (reading : s.xpt.readPath = some (.orderFetch address k)) :
      s.Effect
        ({ s with
            oru.cache := s.oru.cache ++ parseOrders data k
            xpt.ordersTaken := s.xpt.ordersTaken + BitVec.ofNat 32 k, xpt.readPath := none } : State).noteChange
  | supplyEntryReadBegin (free : s.xpt.readPath = none) :
      s.Effect
        { s with
          xpt.readPath := some (.supplyEntry (slotAddress s.dir.supplyRing s.dir.supplySize 16 s.xpt.bulkTaken)) }
  | supplyEntryTaken (head : HeadSettlement) (hosting : s.Hosting) :
      s.Effect { s with xpt.bulkTaken := s.xpt.bulkTaken + 1, xpt.readPath := none, rpu.head := head }
  -- Report Unit
  | bulkWaitExpired : s.Effect { s with rpu.head := .inlineOnly false, rpu.bulkWaitTimer := false }
  | writeBegin (w : WriteAccess) (room : s.ringRoom = true) : s.Effect { s with rpu.writePath := some w }
  | bulkWritten (address : Quad) (data : List Byte) (r : Result)
      (writing : s.rpu.writePath = some (.bulk address data)) :
      s.Effect { s with rpu.writePath := some (.record s.recordAddress (r.record s.rpu.head)) }
  | bulkAbandoned : s.Effect { s with rpu.writePath := none }
  | recordWritten (address : Quad) (data : List Byte) (r : Result) (rest : List Result) (hosting : s.Hosting)
      (writing : s.rpu.writePath = some (.record address data)) (staged : s.rpu.staging = r :: rest) :
      s.Effect
        (let t : State :=
          { s with
            rpu.writePath := none, rpu.staging := rest, rpu.head := .unsettled
            rpu.resultsWritten := s.rpu.resultsWritten + 1
            rpu.recordsSinceReport := s.rpu.recordsSinceReport + 1
            rpu.reportDue := s.rpu.reportDue || s.reportTriggered r }
        t.noteChange.setEvent? (if r.truncated s.rpu.head then some .truncate else none))
  | reportBegin :
      s.Effect
        { s with
          rpu.writePath := some (.report (s.ctl.areaBase + 128) s.reportBlock (nextTag s.rpu.lastTag))
          rpu.reportDue := false, rpu.changed := false, rpu.holdTimer := false, rpu.recordsSinceReport := 0
          rpu.events := EventSummary.clear }
  | reportWritten (tag : Byte) : s.Effect { s with rpu.writePath := none, rpu.lastTag := tag }
  | finalReportWritten (tag : Byte) (ended : s.ctl.drainEnded = true) :
      s.Effect ({ s with rpu.writePath := none, rpu.lastTag := tag } : State).enterHalted
  | holdExpired : s.Effect { s with rpu.holdTimer := false, rpu.reportDue := true }
  | attentionExpired : s.Effect ({ s with rpu.attention := .expired } : State).hostAttention
  -- Order Unit
  | finish (o : Order) (c : OrderOutcome) (detail : Nat) (entries : Entries) (taken : s.InHand o) :
      s.Effect (s.popOrder.completeHand o c detail entries)
  | enrol (o : Order) (r : StationRecord) (taken : s.Takes o .enrol) (checked : s.checkEnrol o = .ok r) :
      s.Effect ((s.enrolRecord r).popOrder.answer o .done)
  | retire (o : Order) (taken : s.Takes o .retire) (checked : s.refuseRetire o = none) :
      s.Effect (s.popOrder.holdOrApply o)
  | shape (o : Order) (taken : s.Takes o .shape) (checked : s.refuseShape o = none) :
      s.Effect (s.popOrder.holdOrApply o)
  | scanBegin (o : Order) (taken : s.Takes o .scanBegin) :
      s.Effect (({ s with swe.pendingList := [], swe.pendingReady := false } : State).popOrder.answer o .done)
  | scanAdd (o : Order) (taken : s.Takes o .scanAdd) (checked : s.refuseScanAdd o = none) :
      s.Effect (({ s with swe.pendingList := s.swe.pendingList ++ o.scanAddresses } : State).popOrder.answer o .done)
  | scanCommit (o : Order) (taken : s.Takes o .scanCommit) (sweeping : s.swe.state = .sweeping) :
      s.Effect (({ s with swe.pendingReady := true } : State).popOrder.answer o .done)
  | scanSwap (o : Order) (taken : s.Takes o .scanCommit) (idle : s.swe.state ≠ .sweeping) :
      s.Effect (({ s with swe := s.swe.swap } : State).popOrder.answer o .done)
  | joinQueue (o : Order) (taken : s.InHand o) : s.Effect (s.popOrder.joinQueue o)
  | takeTotals (o : Order) (r : StationRecord) (taken : s.Takes o .takeTotals) (checked : s.checkWindow o = .ok r) :
      s.Effect
        (({ s with points := updateWindow Point.takeTotal (r.firstSlot + o.first) o.count s.points } :
          State).popOrder.completeHand o .done 0 (.totals (s.totalEntries o r)))
  | claimHeld (o : Order) (taken : s.Takes o .role) (active : s.msu.role = .active) :
      s.Effect (({ s.popOrder with msu.shift := 0 } : State).answer o .done)
  | claimDeferred (o : Order) (taken : s.Takes o .role) (listen : s.msu.role = .listen)
      (windDown : s.msu.windDown.isSome) : s.Effect { s.popOrder with oru.hand := .claimDeferred o }
  | claim (o : Order) (taken : s.Takes o .role) (listen : s.msu.role = .listen) (windDown : s.msu.windDown = none) :
      s.Effect (s.popOrder.carryOutClaim o)
  | yield (o : Order) (taken : s.Takes o .role) (active : s.msu.role = .active) :
      s.Effect (({ s.popOrder with oru.hand := .yieldStaging o } : State).leaveActive .yielded none)
  | marker (o : Order) (taken : s.Takes o .marker) (queued : s.oru.busQueue ≠ []) :
      s.Effect { s.popOrder with oru.hand := .markerWait o }
  | holdSatisfied (o : Order) (waiting : s.oru.hand = .holdWait o) (satisfied : s.holdSatisfied o.station = true) :
      s.Effect (s.applyHeld o)
  | orderResultStaged (c : Completed) (rest : List Completed) (completion : s.oru.completion = c :: rest)
      (hosting : s.Hosting) (room : 0 < s.freePlaces) (own : c.fromHand = false) :
      s.Effect (({ s with oru.completion := rest } : State).stage (.order c.result))
  | handResultStaged (c : Completed) (rest : List Completed) (completion : s.oru.completion = c :: rest)
      (hosting : s.Hosting) (room : 0 < s.freePlaces) (own : c.fromHand = true) :
      s.Effect (({ s with oru.completion := rest } : State).stage (.order c.result)).releaseHand
  -- The bus and the lanes
  | grant (g : Grant) (granting : s.grantOpen = true) (chosen : s.chooseClaim = some g) : s.Effect (s.grant g)
  | delimiterSent (lane : LaneId) (telegram : List Byte) (starting : (s.lanes.get lane).tx = .starting telegram) :
      s.Effect
        (s.updateLane lane (fun l => { l with tx := .sending telegram, sent := l.sent + 1 })).lineActivity
  | delimiterHeard (lane : LaneId) (hears : s.hears lane = true) : s.Effect (s.delimiterHeard lane)
  | telegramSent (lane : LaneId) (telegram : List Byte) (sending : (s.lanes.get lane).tx = .sending telegram)
      (free : s.exu.exchange = none) : s.Effect (s.updateLane lane (fun l => { l with tx := .idle, rx := .quiet }))
  | windowOpened (lane : LaneId) (telegram : List Byte) (x : Exchange)
      (sending : (s.lanes.get lane).tx = .sending telegram) (exchange : s.exu.exchange = some x)
      (verb : x.verb ≠ .mark) :
      s.Effect ((s.updateLane lane (fun l => { l with tx := .idle, rx := .quiet })).setPart lane .waiting)
  | markSent (lane : LaneId) (telegram : List Byte) (x : Exchange)
      (sending : (s.lanes.get lane).tx = .sending telegram) (exchange : s.exu.exchange = some x)
      (verb : x.verb = .mark) :
      s.Effect ((s.updateLane lane (fun l => { l with tx := .idle, rx := .quiet })).setPart lane .closed).checkAttempt
  | telegram (lane : LaneId) (t : Option Telegram) : s.Effect (s.telegram lane t)
  | windowExpired (lane : LaneId) (x : Exchange) (waiting : s.windowOpen lane = some x) :
      s.Effect (s.setPart lane (if x.verb = .latch then .closed else .ended .silent)).checkAttempt
  | overheardWindowNoted (lane : LaneId) (v : Overheard) (l : OverLane) (overheard : s.exu.overheard = some v)
      (entry : v.lane lane = some l) :
      s.Effect { s with exu.overheard := some (v.setLane lane { l with windowExpired := true }) }
  | overheardWindowExpired (lane : LaneId) (v : Overheard) (l : OverLane) (overheard : s.exu.overheard = some v)
      (entry : v.lane lane = some l) :
      s.Effect (s.setOverResult v lane { l with result := .silent, windowExpired := true })
  | receiver (lane : LaneId) (rx : Receiver) : s.Effect (s.updateLane lane (fun l => { l with rx := rx }))
  -- Mastership and the sweep
  | takeover (running : s.ctl.exchangeState = .running) (listen : s.msu.role = .listen)
      (windDown : s.msu.windDown = none) : s.Effect (s.enterActive .takeover)
  | markTimer (running : s.ctl.exchangeState = .running) (active : s.msu.role = .active) :
      s.Effect { s with msu.markTimer := false, msu.markClaim := true }
  | roleResultStaged (d : RoleChange) (rest : List RoleChange) (due : s.msu.roleDue = d :: rest) (hosting : s.Hosting)
      (room : 0 < s.freePlaces) (stageable : s.roleStageable d = true) (active : d.role ≠ .listen) :
      s.Effect ((({ s with msu.roleDue := rest } : State).stageRole d).roleStaged d.reason)
  | windDownStaged (d : RoleChange) (rest : List RoleChange) (due : s.msu.roleDue = d :: rest) (hosting : s.Hosting)
      (room : 0 < s.freePlaces) (ready : s.windDownReady = true) (listen : d.role = .listen) :
      s.Effect ((({ s with msu.roleDue := rest } : State).stageRole d).roleStaged d.reason).endWindDown
  | periodInIdle (idle : s.swe.state = .idle) :
      s.Effect { s with swe.periodTimer := false, swe.startDue := true }
  | periodInSweep (sweeping : s.swe.state = .sweeping) :
      s.Effect
        (({ s with
            swe.periodTimer := false, swe.startDue := true, swe.late := true
            swe.overrunCount := s.swe.overrunCount + 1 } : State).setEvent .overrun)
  | swapped (idle : s.swe.state = .idle) : s.Effect { s with swe := s.swe.swap }
  | sweepBegins (idle : s.swe.state = .idle) : s.Effect s.beginSweep
  | swapBegins (idle : s.swe.state = .idle) : s.Effect ({ s with swe := s.swe.swap } : State).beginSweep
  | claimRaised (a : Nat) (claimable : s.claimable = some a) (room : 0 < s.freePlaces) :
      s.Effect { s with swe.claim := some a }
  | sweepResultStaged (hosting : s.Hosting) (room : 0 < s.freePlaces) (ended : s.swe.endWait = true) :
      s.Effect (s.stage (.sweep (s.swe.result false))).finishSweep
  | abandonedStaged (hosting : s.Hosting) (room : 0 < s.freePlaces) (abandoning : s.swe.abandoning = true) :
      s.Effect s.finishAbandon

end Sys2Proof.Machine

namespace Sys2Proof.Machine

/-! ### Every answer is an effect -/

/-- Every next state that the outcome answers is the state `s` as it was or an effect on it. -/
def State.Steps (s : State) (o : Host.Outcome State Fault Refusal) : Prop :=
  ∀ t, o = .next t → t = s ∨ ∃ u, s.Effect u ∧ (t = u ∨ t = u.settle)

section
variable {s u : State}

theorem State.Steps.same : s.Steps (.next s) := fun _ h => .inl (Host.Outcome.next.inj h).symm

theorem State.Steps.refused {r : Refusal} : s.Steps (.refused r) := fun _ h => nomatch h

theorem State.Effect.next (e : s.Effect u) : s.Steps (.next u) :=
  fun _ h => .inr ⟨u, e, .inl (Host.Outcome.next.inj h).symm⟩

theorem State.Effect.done (e : s.Effect u) : s.Steps (done u) :=
  fun _ h => .inr ⟨u, e, .inr (Host.Outcome.next.inj h).symm⟩

/-- An order that completes as it is taken (R133, R134). -/
theorem State.InHand.finishOrder {o : Order} (h : s.InHand o) (c : OrderOutcome) : s.Steps (s.finishOrder o c) :=
  (State.Effect.finish o c 0 (.values []) h).done

end

/-! ### Control -/

theorem steps_start (s : State) : s.Steps (execStart s) := by
  unfold execStart
  split
  next h => exact (State.Effect.start h.1 h.2).next
  next => exact .same

theorem steps_halt (s : State) : s.Steps (execHalt s) := by
  unfold execHalt
  split
  next h => exact (State.Effect.beginDrain h).done
  next h => exact (State.Effect.haltFromFault h).done
  all_goals exact .same

theorem steps_nudge (s : State) (value : Word) : s.Steps (execNudge value s) := by
  unfold execNudge
  split
  · exact State.Effect.readWanted.next
  · exact .same

theorem State.areaWritable_iff (s : State) :
    s.areaWritable = true ↔ s.ctl.exchangeState = .halted ∧ s.ctl.start = none := by
  simp [State.areaWritable]

theorem steps_areaLoWrite (s : State) (value : Word) : s.Steps (execAreaLoWrite value s) := by
  unfold execAreaLoWrite
  split
  next h =>
    obtain ⟨hhalted, hidle⟩ := (State.areaWritable_iff s).1 h
    exact (State.Effect.areaLo value hhalted hidle).next
  next => exact .same

theorem steps_areaHiWrite (s : State) (value : Word) : s.Steps (execAreaHiWrite value s) := by
  unfold execAreaHiWrite
  split
  next h =>
    obtain ⟨hhalted, hidle⟩ := (State.areaWritable_iff s).1 h
    exact (State.Effect.areaHi value hhalted hidle).next
  next => exact .same

theorem steps_registerWriteIgnored (s : State) (target : IgnoredTarget) (value : Word) :
    s.Steps (execRegisterWriteIgnored target value s) := by
  unfold execRegisterWriteIgnored
  split
  · exact .refused
  · exact .same

theorem steps_directoryReadDone (s : State) (data : List Byte) : s.Steps (execDirectoryReadDone data s) := by
  unfold execDirectoryReadDone
  split
  · exact .refused
  split
  next p _ hstart _ =>
    split
    · exact (State.Effect.refuseStart _ (by simp [hstart])).next
    next d _ => exact (State.Effect.directoryPassed p d hstart).next
  next => exact .same

theorem steps_startHostBlockReadDone (s : State) (data : List Byte) :
    s.Steps (execStartHostBlockReadDone data s) := by
  unfold execStartHostBlockReadDone
  split
  · exact .refused
  split
  next base d _ hstart _ =>
    split
    next h => exact (State.Effect.takeStart base d _ hstart h).done
    next => exact (State.Effect.refuseStart _ (by simp [hstart])).next
  next => exact .same

theorem steps_accessError (s : State) (path : AccessPath) : s.Steps (execAccessError path s) := by
  unfold execAccessError
  split
  · split
    next h => exact (State.Effect.refuseStart _ h.1).next
    next =>
      split
      next h => exact (State.Effect.fault _ (State.hosting_iff.1 h)).done
      next => exact .same
  · exact .same

theorem steps_drainTimerExpiry (s : State) : s.Steps (execDrainTimerExpiry s) := by
  unfold execDrainTimerExpiry
  split
  next h =>
    obtain ⟨hdraining, htimer⟩ := h
    have hdraining := (State.draining_iff s).1 hdraining
    dsimp only
    split
    next hfree => exact (State.Effect.drainExpiredEnd hdraining htimer hfree).done
    next hbusy => exact (State.Effect.drainExpired hdraining htimer (Bool.eq_false_iff.2 hbusy)).done
  next => exact .same

theorem steps_drainEnd (s : State) : s.Steps (execDrainEnd s) := by
  unfold execDrainEnd
  split
  next h =>
    obtain ⟨hdraining, hgoing, hfree, hfinished⟩ := h
    exact (State.Effect.drainEnd ((State.draining_iff s).1 hdraining) hgoing hfree hfinished).done
  next => exact .same

/-! ### Exchange Port -/

theorem steps_lookTimerExpiry (s : State) : s.Steps (execLookTimerExpiry s) := by
  unfold execLookTimerExpiry
  split
  · exact State.Effect.readWanted.next
  · exact .same

theorem steps_hostBlockReadBegin (s : State) : s.Steps (execHostBlockReadBegin s) := by
  unfold execHostBlockReadBegin
  split
  next h => exact (State.Effect.hostBlockReadBegin h.2.1).done
  next => exact .same

theorem steps_hostBlockReadDone (s : State) (data : List Byte) : s.Steps (execHostBlockReadDone data s) := by
  unfold execHostBlockReadDone
  split
  · exact .refused
  split
  next address hreading =>
    split
    next hhosting =>
      have hhosting := State.hosting_iff.1 hhosting
      split
      next h => exact (State.Effect.hostBlockTaken _ address hhosting hreading ((s.countsOk_iff _).1 h)).done
      next => exact (State.Effect.fault _ hhosting).done
    next => exact .same
  next => exact .same

theorem steps_orderFetchBegin (s : State) : s.Steps (execOrderFetchBegin s) := by
  unfold execOrderFetchBegin
  split
  next h =>
    obtain ⟨-, hfree, -, -, hwanted⟩ := h
    have hrunning : s.ctl.exchangeState = .running := by simp_all [State.fetchWanted, State.running]
    exact (State.Effect.orderFetchBegin hfree hrunning).done
  next => exact .same

theorem steps_orderFetchDone (s : State) (data : List Byte) : s.Steps (execOrderFetchDone data s) := by
  unfold execOrderFetchDone
  split
  next address k hreading =>
    split
    · exact .refused
    · split
      next h => exact (State.Effect.orderFetchDone address k data (State.hosting_iff.1 h) hreading).done
      next => exact .same
  next => exact .same

theorem steps_supplyEntryReadBegin (s : State) : s.Steps (execSupplyEntryReadBegin s) := by
  unfold execSupplyEntryReadBegin
  split
  next h => exact (State.Effect.supplyEntryReadBegin h.2.1).done
  next => exact .same

theorem steps_supplyEntryReadDone (s : State) (data : List Byte) : s.Steps (execSupplyEntryReadDone data s) := by
  unfold execSupplyEntryReadDone
  split
  · exact .refused
  split
  · split
    next h => exact (State.Effect.supplyEntryTaken _ (State.hosting_iff.1 h)).done
    next => exact .same
  · exact .same

/-! ### Report Unit -/

theorem steps_bulkWaitTimerExpiry (s : State) : s.Steps (execBulkWaitTimerExpiry s) := by
  unfold execBulkWaitTimerExpiry
  split
  · exact State.Effect.bulkWaitExpired.done
  · exact .same

theorem steps_resultWriteBegin (s : State) : s.Steps (execResultWriteBegin s) := by
  unfold execResultWriteBegin
  split
  · exact .same
  · split
    next h =>
      have hroom : s.ringRoom = true := by simp_all [State.headWritable]
      split <;> exact (State.Effect.writeBegin _ hroom).done
    next => exact .same

theorem steps_bulkWriteDone (s : State) : s.Steps (execBulkWriteDone s) := by
  unfold execBulkWriteDone
  split
  next address data r _ hwriting _ =>
    split
    · exact (State.Effect.bulkWritten address data r hwriting).done
    · exact State.Effect.bulkAbandoned.done
  next => exact .same

theorem steps_recordWriteDone (s : State) : s.Steps (execRecordWriteDone s) := by
  unfold execRecordWriteDone
  split
  next address data r rest hwriting hstaged =>
    split
    next h =>
      have e := State.Effect.recordWritten address data r rest (State.hosting_iff.1 h) hwriting hstaged
      dsimp only at e ⊢
      split
      next htruncated => simpa only [if_pos htruncated, State.setEvent?] using e.done
      next htruncated => simpa only [if_neg htruncated, State.setEvent?] using e.done
    next => exact .same
  next => exact .same

theorem steps_reportBlockWriteBegin (s : State) : s.Steps (execReportBlockWriteBegin s) := by
  unfold execReportBlockWriteBegin
  split
  · exact State.Effect.reportBegin.done
  · exact .same

theorem steps_reportBlockWriteDone (s : State) : s.Steps (execReportBlockWriteDone s) := by
  unfold execReportBlockWriteDone
  split
  next tag _ =>
    split
    · dsimp only
      split
      next h => exact (State.Effect.finalReportWritten tag h).done
      next => exact (State.Effect.reportWritten tag).done
    · exact .same
  next => exact .same

theorem steps_holdTimerExpiry (s : State) : s.Steps (execHoldTimerExpiry s) := by
  unfold execHoldTimerExpiry
  split
  · exact State.Effect.holdExpired.done
  · exact .same

theorem steps_attentionTimerExpiry (s : State) : s.Steps (execAttentionTimerExpiry s) := by
  unfold execAttentionTimerExpiry
  split
  · exact State.Effect.attentionExpired.done
  · exact .same

end Sys2Proof.Machine

namespace Sys2Proof.Machine

/-! ### Order Unit -/

theorem steps_orderAbandonedInDrain (s : State) : s.Steps (execOrderAbandonedInDrain s) := by
  unfold execOrderAbandonedInDrain
  split
  next h =>
    obtain ⟨hdraining, hfree⟩ := h
    obtain ⟨hempty, hcompletion⟩ := (State.handFree_iff s).1 hfree
    split
    next o hhead =>
      have htaken : s.InHand o := ⟨.inr ((State.draining_iff s).1 hdraining), hempty, hcompletion, hhead⟩
      exact htaken.finishOrder _
    next => exact .same
  next => exact .same

theorem steps_unrecognisedKind (s : State) : s.Steps (execUnrecognisedKind s) := by
  unfold execUnrecognisedKind
  split
  next o h => exact (State.taken?_eq_some.1 h).2.1.finishOrder _
  next => exact .same

theorem steps_enrol (s : State) : s.Steps (execEnrol s) := by
  unfold execEnrol
  split
  · exact .same
  next o h =>
    have htaken := State.takes_iff_Takes.1 h
    split
    · exact htaken.inHand.finishOrder _
    next r hchecked => exact (State.Effect.enrol o r htaken hchecked).done

theorem steps_retire (s : State) : s.Steps (execRetire s) := by
  unfold execRetire
  split
  · exact .same
  next o h =>
    have htaken := State.takes_iff_Takes.1 h
    split
    · exact htaken.inHand.finishOrder _
    next hchecked => exact (State.Effect.retire o htaken hchecked).done

theorem steps_shape (s : State) : s.Steps (execShape s) := by
  unfold execShape
  split
  · exact .same
  next o h =>
    have htaken := State.takes_iff_Takes.1 h
    split
    · exact htaken.inHand.finishOrder _
    next hchecked => exact (State.Effect.shape o htaken hchecked).done

theorem steps_scanBegin (s : State) : s.Steps (execScanBegin s) := by
  unfold execScanBegin
  split
  · exact .same
  next o h => exact (State.Effect.scanBegin o (State.takes_iff_Takes.1 h)).done

theorem steps_scanAdd (s : State) : s.Steps (execScanAdd s) := by
  unfold execScanAdd
  split
  · exact .same
  next o h =>
    have htaken := State.takes_iff_Takes.1 h
    split
    next c detail _ => exact (State.Effect.finish o c detail (.values []) htaken.inHand).done
    next hchecked => exact (State.Effect.scanAdd o htaken hchecked).done

theorem State.sweeping_iff (s : State) : s.sweeping = true ↔ s.swe.state = .sweeping := by simp [State.sweeping]

theorem steps_scanCommit (s : State) : s.Steps (execScanCommit s) := by
  unfold execScanCommit
  split
  · exact .same
  next o h =>
    have htaken := State.takes_iff_Takes.1 h
    split
    next hsweeping => exact (State.Effect.scanCommit o htaken ((State.sweeping_iff s).1 hsweeping)).done
    next hidle => exact (State.Effect.scanSwap o htaken (mt (State.sweeping_iff s).2 hidle)).done

theorem steps_read (s : State) : s.Steps (execRead s) := by
  unfold execRead
  split
  · exact .same
  next o h =>
    have htaken := (State.takes_iff_Takes.1 h).inHand
    split
    · exact htaken.finishOrder _
    · exact (State.Effect.joinQueue o htaken).done

theorem steps_write (s : State) : s.Steps (execWrite s) := by
  unfold execWrite
  split
  · exact .same
  next o h =>
    have htaken := (State.takes_iff_Takes.1 h).inHand
    split
    · exact htaken.finishOrder _
    · exact (State.Effect.joinQueue o htaken).done

theorem steps_latch (s : State) : s.Steps (execLatch s) := by
  unfold execLatch
  split
  · exact .same
  next o h =>
    have htaken := (State.takes_iff_Takes.1 h).inHand
    split
    · exact htaken.finishOrder _
    · exact (State.Effect.joinQueue o htaken).done

theorem steps_snap (s : State) : s.Steps (execSnap s) := by
  unfold execSnap
  split
  · exact .same
  next o h =>
    have htaken := (State.takes_iff_Takes.1 h).inHand
    split
    · exact htaken.finishOrder _
    next r _ => exact (State.Effect.finish o .done 0 (.values (s.snapEntries o r)) htaken).done

theorem steps_takeTotals (s : State) : s.Steps (execTakeTotals s) := by
  unfold execTakeTotals
  split
  · exact .same
  next o h =>
    have htaken := State.takes_iff_Takes.1 h
    split
    · exact htaken.inHand.finishOrder _
    next r hchecked => exact (State.Effect.takeTotals o r htaken hchecked).done

theorem steps_claim (s : State) : s.Steps (execClaim s) := by
  unfold execClaim
  split
  · exact .same
  next o h =>
    obtain ⟨htaken, -⟩ := State.takesRole_iff.1 h
    dsimp only
    split
    next hactive => exact (State.Effect.claimHeld o htaken hactive).done
    next hlisten =>
      split
      next hwind => exact (State.Effect.claimDeferred o htaken hlisten hwind).done
      next hwind => exact (State.Effect.claim o htaken hlisten (by simpa using hwind)).done
    next => exact htaken.inHand.finishOrder _

theorem steps_yield (s : State) : s.Steps (execYield s) := by
  unfold execYield
  split
  · exact .same
  next o h =>
    obtain ⟨htaken, -⟩ := State.takesRole_iff.1 h
    dsimp only
    split
    next hactive => exact (State.Effect.yield o htaken hactive).done
    all_goals exact htaken.inHand.finishOrder _

theorem steps_role (s : State) : s.Steps (execRole s) := by
  unfold execRole
  split
  next o h => exact (State.takesRole_iff.1 h).1.inHand.finishOrder _
  next => exact .same

theorem steps_marker (s : State) : s.Steps (execMarker s) := by
  unfold execMarker
  split
  · exact .same
  next o h =>
    have htaken := State.takes_iff_Takes.1 h
    split
    · exact htaken.inHand.finishOrder _
    next hqueued => exact (State.Effect.marker o htaken (by simpa using hqueued)).done

theorem steps_stats (s : State) : s.Steps (execStats s) := by
  unfold execStats
  split
  · exact .same
  next o h =>
    exact (State.Effect.finish o .done 0 (.counters s.laneCounters) (State.takes_iff_Takes.1 h).inHand).done

theorem steps_holdSatisfied (s : State) : s.Steps (execHoldSatisfied s) := by
  unfold execHoldSatisfied
  split
  next o hwaiting =>
    split
    next hsatisfied => exact (State.Effect.holdSatisfied o hwaiting hsatisfied).done
    next => exact .same
  next => exact .same

theorem steps_orderResultStage (s : State) : s.Steps (execOrderResultStage s) := by
  unfold execOrderResultStage
  split
  · exact .same
  next c rest hcompletion =>
    split
    next h =>
      obtain ⟨hhosting, hroom⟩ := h
      have hhosting := State.hosting_iff.1 hhosting
      dsimp only
      split
      next hown => exact (State.Effect.handResultStaged c rest hcompletion hhosting hroom hown).done
      next hown =>
        exact (State.Effect.orderResultStaged c rest hcompletion hhosting hroom (Bool.eq_false_iff.2 hown)).done
    next => exact .same

/-! ### The bus and the lanes -/

theorem steps_busGrant (s : State) : s.Steps (execBusGrant s) := by
  unfold execBusGrant
  split
  next hopen =>
    split
    next g hchosen => exact (State.Effect.grant g hopen hchosen).done
    next => exact .same
  next => exact .same

theorem steps_startDelimiter (s : State) (lane : LaneId) (delimiter : Delimiter) :
    s.Steps (execStartDelimiter lane delimiter s) := by
  unfold execStartDelimiter
  split
  · unfold State.delimiterSent
    split
    next t h =>
      split at h
      next telegram htx =>
        cases h
        exact (State.Effect.delimiterSent lane telegram htx).done
      all_goals cases h
    next => exact .same
  · split
    next h => exact (State.Effect.delimiterHeard lane h.1).done
    next => exact .same

theorem steps_telegramSent (s : State) (lane : LaneId) : s.Steps (execTelegramSent lane s) := by
  unfold execTelegramSent
  split
  next telegram hsending =>
    dsimp only
    split
    next hfree =>
      rw [State.updateLane_exu] at hfree
      exact (State.Effect.telegramSent lane telegram hsending hfree).done
    next x hexchange =>
      rw [State.updateLane_exu] at hexchange
      split
      next hmark => exact (State.Effect.markSent lane telegram x hsending hexchange hmark).done
      next hverb => exact (State.Effect.windowOpened lane telegram x hsending hexchange hverb).done
  all_goals exact .same

theorem steps_telegramReceived (s : State) (lane : LaneId) (intervals : List Nat) :
    s.Steps (execTelegramReceived lane intervals s) := by
  unfold execTelegramReceived
  split
  · exact (State.Effect.telegram lane _).done
  · exact .same

theorem steps_replyWindowExpiry (s : State) (lane : LaneId) : s.Steps (execReplyWindowExpiry lane s) := by
  unfold execReplyWindowExpiry
  split
  next x h => exact (State.Effect.windowExpired lane x h).done
  next => exact .same

theorem steps_overheardWindowExpiry (s : State) (lane : LaneId) : s.Steps (execOverheardWindowExpiry lane s) := by
  unfold execOverheardWindowExpiry
  split
  · exact .same
  next v hv =>
    split
    · exact .same
    next l hl =>
      split
      · exact .same
      · split
        · exact (State.Effect.overheardWindowNoted lane v l hv hl).next
        · exact (State.Effect.overheardWindowExpired lane v l hv hl).done

theorem steps_noDelimiter (s : State) (lane : LaneId) (holdNs : Nat) : s.Steps (execNoDelimiter lane holdNs s) := by
  unfold execNoDelimiter
  split
  · exact (State.Effect.receiver lane .discarding).next
  · exact .same

theorem steps_laneQuiet (s : State) (lane : LaneId) : s.Steps (execLaneQuiet lane s) := by
  unfold execLaneQuiet
  split
  · exact (State.Effect.receiver lane .quiet).next
  · exact .same

/-! ### Mastership and the sweep -/

theorem steps_takeoverTimerExpiry (s : State) : s.Steps (execTakeoverTimerExpiry s) := by
  unfold execTakeoverTimerExpiry
  split
  next h =>
    obtain ⟨-, hrunning, hlisten, hwind⟩ := h
    exact (State.Effect.takeover ((State.running_iff s).1 hrunning) hlisten hwind).done
  next => exact .same

theorem steps_markTimerExpiry (s : State) : s.Steps (execMarkTimerExpiry s) := by
  unfold execMarkTimerExpiry
  split
  next h =>
    obtain ⟨-, hrunning, hactive⟩ := h
    exact (State.Effect.markTimer ((State.running_iff s).1 hrunning) hactive).next
  next => exact .same

theorem steps_roleResultStage (s : State) : s.Steps (execRoleResultStage s) := by
  unfold execRoleResultStage
  split
  · exact .same
  next d rest hdue =>
    split
    next h =>
      obtain ⟨hhosting, hroom, hstageable⟩ := h
      have hhosting := State.hosting_iff.1 hhosting
      dsimp only
      split
      next hlisten =>
        have hready : s.windDownReady = true := by simpa [State.roleStageable, hlisten] using hstageable
        exact (State.Effect.windDownStaged d rest hdue hhosting hroom hready hlisten).done
      next hactive => exact (State.Effect.roleResultStaged d rest hdue hhosting hroom hstageable hactive).done
    next => exact .same

theorem steps_periodTimerExpiry (s : State) : s.Steps (execPeriodTimerExpiry s) := by
  unfold execPeriodTimerExpiry
  split
  · split
    next hidle => exact (State.Effect.periodInIdle hidle).next
    next hsweeping => exact (State.Effect.periodInSweep hsweeping).done
    next => exact .same
  · exact .same

theorem steps_sweepStart (s : State) : s.Steps (execSweepStart s) := by
  unfold execSweepStart
  split
  next h =>
    obtain ⟨hidle, -⟩ := h
    dsimp only
    split
    · split
      · exact (State.Effect.swapped hidle).next
      · exact (State.Effect.swapBegins hidle).done
    · split
      · exact .same
      · exact (State.Effect.sweepBegins hidle).done
  next => exact .same

theorem steps_sweepClaim (s : State) : s.Steps (execSweepClaim s) := by
  unfold execSweepClaim
  split
  next a hclaimable =>
    split
    next hroom => exact (State.Effect.claimRaised a hclaimable hroom).next
    next => exact .same
  next => exact .same

theorem steps_sweepResultStage (s : State) : s.Steps (execSweepResultStage s) := by
  unfold execSweepResultStage
  split
  next h =>
    obtain ⟨hhosting, hroom⟩ := h
    have hhosting := State.hosting_iff.1 hhosting
    split
    next hended => exact (State.Effect.sweepResultStaged hhosting hroom hended).done
    next =>
      split
      next habandoned => exact (State.Effect.abandonedStaged hhosting hroom habandoned.1).done
      next => exact .same
  next => exact .same

/-! ### The step -/

/-- The next state of a command is the state as it was, or an effect with its levels brought up to date or not. -/
theorem exec_steps (c : Instr) (s : State) : s.Steps (exec c s) := by
  cases c with
  | powerOn => exact State.Effect.powerOn.next
  | resetPin => exact State.Effect.powerOn.next
  | start => exact steps_start s
  | halt => exact steps_halt s
  | reset => exact State.Effect.reset.next
  | nudge value => exact steps_nudge s value
  | areaLoWrite value => exact steps_areaLoWrite s value
  | areaHiWrite value => exact steps_areaHiWrite s value
  | registerWriteIgnored target value => exact steps_registerWriteIgnored s target value
  | directoryReadDone data => exact steps_directoryReadDone s data
  | startHostBlockReadDone data => exact steps_startHostBlockReadDone s data
  | lookTimerExpiry => exact steps_lookTimerExpiry s
  | hostBlockReadBegin => exact steps_hostBlockReadBegin s
  | hostBlockReadDone data => exact steps_hostBlockReadDone s data
  | orderFetchBegin => exact steps_orderFetchBegin s
  | orderFetchDone data => exact steps_orderFetchDone s data
  | supplyEntryReadBegin => exact steps_supplyEntryReadBegin s
  | supplyEntryReadDone data => exact steps_supplyEntryReadDone s data
  | bulkWaitTimerExpiry => exact steps_bulkWaitTimerExpiry s
  | accessError path => exact steps_accessError s path
  | resultWriteBegin => exact steps_resultWriteBegin s
  | bulkWriteDone => exact steps_bulkWriteDone s
  | recordWriteDone => exact steps_recordWriteDone s
  | reportBlockWriteBegin => exact steps_reportBlockWriteBegin s
  | reportBlockWriteDone => exact steps_reportBlockWriteDone s
  | holdTimerExpiry => exact steps_holdTimerExpiry s
  | attentionTimerExpiry => exact steps_attentionTimerExpiry s
  | orderAbandonedInDrain => exact steps_orderAbandonedInDrain s
  | unrecognisedKind => exact steps_unrecognisedKind s
  | enrol => exact steps_enrol s
  | retire => exact steps_retire s
  | shape => exact steps_shape s
  | scanBegin => exact steps_scanBegin s
  | scanAdd => exact steps_scanAdd s
  | scanCommit => exact steps_scanCommit s
  | read => exact steps_read s
  | write => exact steps_write s
  | latch => exact steps_latch s
  | snap => exact steps_snap s
  | takeTotals => exact steps_takeTotals s
  | claim => exact steps_claim s
  | yield => exact steps_yield s
  | marker => exact steps_marker s
  | stats => exact steps_stats s
  | holdSatisfied => exact steps_holdSatisfied s
  | orderResultStage => exact steps_orderResultStage s
  | busGrant => exact steps_busGrant s
  | startDelimiter lane delimiter => exact steps_startDelimiter s lane delimiter
  | telegramSent lane => exact steps_telegramSent s lane
  | telegramReceived lane intervals => exact steps_telegramReceived s lane intervals
  | replyWindowExpiry lane => exact steps_replyWindowExpiry s lane
  | overheardWindowExpiry lane => exact steps_overheardWindowExpiry s lane
  | takeoverTimerExpiry => exact steps_takeoverTimerExpiry s
  | markTimerExpiry => exact steps_markTimerExpiry s
  | roleResultStage => exact steps_roleResultStage s
  | periodTimerExpiry => exact steps_periodTimerExpiry s
  | sweepStart => exact steps_sweepStart s
  | sweepClaim => exact steps_sweepClaim s
  | sweepResultStage => exact steps_sweepResultStage s
  | drainTimerExpiry => exact steps_drainTimerExpiry s
  | drainEnd => exact steps_drainEnd s
  | role => exact steps_role s
  | noDelimiter lane holdNs => exact steps_noDelimiter s lane holdNs
  | laneQuiet lane => exact steps_laneQuiet s lane

/-- An invariant that does not look at the queue, and that a settlement and every effect keep, is kept by every step. -/
theorem step_keeps {P : State → Prop} (queue : ∀ s q, P s → P (s.withPending q)) (settle : ∀ s, P s → P s.settle)
    (effect : ∀ s u, P s → s.Effect u → P u) (s t : State) (h : P s) (hstep : step s = .next t) : P t := by
  unfold step at hstep
  split at hstep
  next => exact Host.Outcome.next.inj hstep ▸ h
  next c rest _ =>
    have hrest := queue s rest h
    rcases exec_steps c (s.withPending rest) t hstep with rfl | ⟨u, heffect, rfl | rfl⟩
    · exact hrest
    · exact effect _ _ hrest heffect
    · exact settle _ (effect _ _ hrest heffect)

end Sys2Proof.Machine

/-! The invariants of Control and of the mastership (R109, R123, R158, R179, R182 to R185): the area base, the phases of a
start and of a drain, the exchange that is open in neither, and the role. -/

namespace Sys2Proof.Machine

/-! ### What the remaining operations leave alone -/

section
variable (s : State)

@[simp] theorem State.beginSweep_ctl : s.beginSweep.ctl = s.ctl := by simp [State.beginSweep]
@[simp] theorem State.beginSweep_xpt : s.beginSweep.xpt = s.xpt := by simp [State.beginSweep]
@[simp] theorem State.beginSweep_stations : s.beginSweep.stations = s.stations := by simp [State.beginSweep]
@[simp] theorem State.beginSweep_points : s.beginSweep.points = s.points := by simp [State.beginSweep]
@[simp] theorem State.beginSweep_exu : s.beginSweep.exu = s.exu := by simp [State.beginSweep]
@[simp] theorem State.beginSweep_lanes : s.beginSweep.lanes = s.lanes := by simp [State.beginSweep]
@[simp] theorem State.beginSweep_bar : s.beginSweep.bar = s.bar := by simp [State.beginSweep]
@[simp] theorem State.beginSweep_msu : s.beginSweep.msu = s.msu := by simp [State.beginSweep]
@[simp] theorem State.beginSweep_oru : s.beginSweep.oru = s.oru := by simp [State.beginSweep]
@[simp] theorem State.beginSweep_active : s.beginSweep.swe.active = s.swe.active := by simp [State.beginSweep]
@[simp] theorem State.beginSweep_pendingList : s.beginSweep.swe.pendingList = s.swe.pendingList := by
  simp [State.beginSweep]
@[simp] theorem State.beginSweep_resultsWritten : s.beginSweep.rpu.resultsWritten = s.rpu.resultsWritten := by
  simp [State.beginSweep]
@[simp] theorem State.beginSweep_writePath : s.beginSweep.rpu.writePath = s.rpu.writePath := by
  simp [State.beginSweep]

@[simp] theorem State.releaseHand_ctl : s.releaseHand.ctl = s.ctl := rfl
@[simp] theorem State.releaseHand_xpt : s.releaseHand.xpt = s.xpt := rfl
@[simp] theorem State.releaseHand_rpu : s.releaseHand.rpu = s.rpu := rfl
@[simp] theorem State.releaseHand_stations : s.releaseHand.stations = s.stations := rfl
@[simp] theorem State.releaseHand_points : s.releaseHand.points = s.points := rfl
@[simp] theorem State.releaseHand_swe : s.releaseHand.swe = s.swe := rfl
@[simp] theorem State.releaseHand_exu : s.releaseHand.exu = s.exu := rfl
@[simp] theorem State.releaseHand_lanes : s.releaseHand.lanes = s.lanes := rfl
@[simp] theorem State.releaseHand_bar : s.releaseHand.bar = s.bar := rfl
@[simp] theorem State.releaseHand_role : s.releaseHand.msu.role = s.msu.role := rfl
@[simp] theorem State.releaseHand_shift : s.releaseHand.msu.shift = s.msu.shift := rfl
@[simp] theorem State.releaseHand_offAtClose : s.releaseHand.msu.offAtClose = s.msu.offAtClose := rfl

@[simp] theorem State.enrolRecord_ctl (r : StationRecord) : (s.enrolRecord r).ctl = s.ctl := rfl
@[simp] theorem State.enrolRecord_xpt (r : StationRecord) : (s.enrolRecord r).xpt = s.xpt := rfl
@[simp] theorem State.enrolRecord_rpu (r : StationRecord) : (s.enrolRecord r).rpu = s.rpu := rfl
@[simp] theorem State.enrolRecord_swe (r : StationRecord) : (s.enrolRecord r).swe = s.swe := rfl
@[simp] theorem State.enrolRecord_exu (r : StationRecord) : (s.enrolRecord r).exu = s.exu := rfl
@[simp] theorem State.enrolRecord_lanes (r : StationRecord) : (s.enrolRecord r).lanes = s.lanes := rfl
@[simp] theorem State.enrolRecord_bar (r : StationRecord) : (s.enrolRecord r).bar = s.bar := rfl
@[simp] theorem State.enrolRecord_msu (r : StationRecord) : (s.enrolRecord r).msu = s.msu := rfl
@[simp] theorem State.enrolRecord_oru (r : StationRecord) : (s.enrolRecord r).oru = s.oru := rfl

@[simp] theorem State.delimiterHeard_ctl (lane : LaneId) : (s.delimiterHeard lane).ctl = s.ctl := by
  simp [State.delimiterHeard]
@[simp] theorem State.delimiterHeard_xpt (lane : LaneId) : (s.delimiterHeard lane).xpt = s.xpt := by
  simp [State.delimiterHeard]
@[simp] theorem State.delimiterHeard_rpu (lane : LaneId) : (s.delimiterHeard lane).rpu = s.rpu := by
  simp [State.delimiterHeard]
@[simp] theorem State.delimiterHeard_stations (lane : LaneId) : (s.delimiterHeard lane).stations = s.stations := by
  simp [State.delimiterHeard]
@[simp] theorem State.delimiterHeard_points (lane : LaneId) : (s.delimiterHeard lane).points = s.points := by
  simp [State.delimiterHeard]
@[simp] theorem State.delimiterHeard_swe (lane : LaneId) : (s.delimiterHeard lane).swe = s.swe := by
  simp [State.delimiterHeard]
@[simp] theorem State.delimiterHeard_bar (lane : LaneId) : (s.delimiterHeard lane).bar = s.bar := by
  simp [State.delimiterHeard]
@[simp] theorem State.delimiterHeard_oru (lane : LaneId) : (s.delimiterHeard lane).oru = s.oru := by
  simp [State.delimiterHeard]
@[simp] theorem State.delimiterHeard_role (lane : LaneId) : (s.delimiterHeard lane).msu.role = s.msu.role := by
  simp [State.delimiterHeard]
@[simp] theorem State.delimiterHeard_shift (lane : LaneId) : (s.delimiterHeard lane).msu.shift = s.msu.shift := by
  simp [State.delimiterHeard]
@[simp] theorem State.delimiterHeard_offAtClose (lane : LaneId) :
    (s.delimiterHeard lane).msu.offAtClose = s.msu.offAtClose := by simp [State.delimiterHeard]
@[simp] theorem State.delimiterHeard_exchange (lane : LaneId) :
    (s.delimiterHeard lane).exu.exchange = s.exu.exchange.map (fun x => x.delimiter lane) := by
  simp [State.delimiterHeard]

@[simp] theorem State.beginDrain_ctl :
    s.beginDrain.ctl = { s.ctl with exchangeState := .draining, drainTimer := true } := by simp [State.beginDrain]
@[simp] theorem State.haltFromFault_ctl : s.haltFromFault.ctl = { s.ctl with exchangeState := .halted } := rfl

end

/-! ### The area base (R158, R179) -/

theorem area_low_bits {hi lo : Word} (h : lo &&& 0xFFF#32 = 0) : (hi ++ lo : Quad) &&& 0xFFF#64 = 0 := by
  have hmask : (0xFFF#64 : Quad) = (0#32 : Word) ++ 0xFFF#32 := by decide
  rw [hmask, BitVec.and_append, h]
  simp

section
variable {s t : State}

theorem State.AreaAligned.of_eq (h : s.AreaAligned) (hlo : t.ctl.areaLo = s.ctl.areaLo)
    (hbase : t.ctl.areaBase = s.ctl.areaBase) (hstart : ∀ p, t.ctl.start = some p → s.ctl.start = some p) :
    t.AreaAligned :=
  ⟨hlo ▸ h.register, hbase ▸ h.base, fun p hp => h.start p (hstart p hp)⟩

theorem State.AreaAligned.of_ctl (h : s.AreaAligned) (hctl : t.ctl = s.ctl) : t.AreaAligned :=
  h.of_eq (by rw [hctl]) (by rw [hctl]) (by simp [hctl])

theorem reset_areaAligned : State.reset.AreaAligned := ⟨by decide, by decide, nofun⟩

theorem State.AreaAligned.effect {u : State} (h : s.AreaAligned) (e : s.Effect u) : u.AreaAligned := by
  cases e with
  | powerOn => exact reset_areaAligned.of_ctl rfl
  | reset => exact ⟨h.register, reset_areaAligned.base, nofun⟩
  | start => exact ⟨h.register, h.base, fun p hp => by cases hp; exact area_low_bits h.register⟩
  | areaLo value => exact ⟨by rw [BitVec.and_assoc]; exact BitVec.and_zero, h.base, h.start⟩
  | directoryPassed p _ started => exact ⟨h.register, h.base, fun q hq => by cases hq; exact h.start p started⟩
  | takeStart base _ _ started => exact ⟨h.register, h.start _ started, nofun⟩
  | refuseStart => exact ⟨h.register, h.base, nofun⟩
  | beginDrain => exact h.of_eq (by simp) (by simp) (by simp)
  | haltFromFault | areaHi | fault | drainExpired | drainExpiredEnd | drainEnd | finalReportWritten =>
    exact ⟨h.register, h.base, h.start⟩
  | _ => exact h.of_ctl (by simp)

theorem step_keeps_areaAligned (s t : State) : s.AreaAligned → step s = .next t → t.AreaAligned :=
  step_keeps (fun _ _ h => h.of_ctl rfl) (fun _ h => h.of_ctl (by simp)) (fun _ _ => .effect) s t

end

end Sys2Proof.Machine

namespace Sys2Proof.Machine

/-! ### The open exchange: where it stays open, and how it closes -/

section
variable (s : State) (x : Exchange)

@[simp] theorem State.setPart_exchange (lane : LaneId) (p : LanePart) :
    (s.setPart lane p).exu.exchange = s.exu.exchange.map (fun x => x.setPart lane p) := rfl

@[simp] theorem State.judgeReply_exchange (lane : LaneId) (t : Option Telegram) :
    (s.judgeReply lane t).exu.exchange = s.exu.exchange.map (fun x => x.setPart lane (.ended (x.judge t))) := rfl

/-- The role gone from ACTIVE to LISTEN, before the orders are ended (R120, R121). -/
def State.roleLeft (reason : RoleReason) (tag : Option (BitVec 1)) (s : State) : State :=
  let d : RoleChange :=
    { role := .listen, previous := .active, reason := reason, shift := s.msu.shift, foreignTag := tag }
  { s with
    msu.role := .listen, msu.markTimer := false, msu.markClaim := false
    msu.windDown := some { awaitHand := s.oru.hand.windDownWaits }
    msu.roleDue := if s.hosting then s.msu.roleDue ++ [d] else s.msu.roleDue }.forbidRetry.stopSweep

theorem State.leaveActive_eq (reason : RoleReason) (tag : Option (BitVec 1)) :
    s.leaveActive reason tag =
      if (s.roleLeft reason tag).running then (s.roleLeft reason tag).endNotActive else s.roleLeft reason tag := rfl

theorem State.leaveActive_exchange (reason : RoleReason) (tag : Option (BitVec 1)) :
    (s.leaveActive reason tag).exu.exchange = s.exu.exchange.map (fun x => { x with noRetry := true }) := by
  rw [State.leaveActive_eq]
  split <;> simp [State.roleLeft, State.forbidRetry]

theorem State.hostAttention_exchange :
    s.hostAttention.exu.exchange = s.exu.exchange ∨
      s.hostAttention.exu.exchange = s.exu.exchange.map (fun x => { x with noRetry := true }) := by
  unfold State.hostAttention
  split
  · exact .inl rfl
  · exact .inl (by simp)
  · exact .inr (by simp [State.leaveActive_exchange])

theorem State.contest_exchange (tag : BitVec 1) :
    (s.contest tag).exu.exchange = s.exu.exchange ∨
      (s.contest tag).exu.exchange = s.exu.exchange.map (fun x => { x with noRetry := true }) := by
  unfold State.contest
  dsimp only
  split
  · exact .inr (by simp [State.leaveActive_exchange])
  · exact .inl (by simp)

theorem State.heard_exchange (lane : LaneId) (t : Option Telegram) :
    (s.heard lane t).exu.exchange = s.exu.exchange ∨
      (s.heard lane t).exu.exchange = s.exu.exchange.map (fun x => { x with noRetry := true }) := by
  unfold State.heard
  split
  · split
    · exact s.contest_exchange _
    all_goals exact .inl rfl
  · exact .inl (by simp)
  · exact .inl rfl

@[simp] theorem State.hostAttention_exchange_none :
    s.hostAttention.exu.exchange = none ↔ s.exu.exchange = none := by
  rcases s.hostAttention_exchange with h | h <;> simp [h]

@[simp] theorem State.heard_exchange_none (lane : LaneId) (t : Option Telegram) :
    (s.heard lane t).exu.exchange = none ↔ s.exu.exchange = none := by
  rcases s.heard_exchange lane t with h | h <;> simp [h]

/-- In OFF the Mastership Unit hears nothing (R116). -/
theorem State.heard_of_off (lane : LaneId) (t : Option Telegram) (h : s.msu.role = .off) : s.heard lane t = s := by
  simp [State.heard, h]

/-- In OFF there is no host-attention signal (R115). -/
theorem State.hostAttention_of_off (h : s.msu.role = .off) : s.hostAttention = s := by simp [State.hostAttention, h]

/-- The faults of an attempt and the flip of lane_pref, as `weighAttempt` has them (R92, R97, R98). -/
def State.charged (x : Exchange) (v : Verdict) (s : State) : State :=
  match s.dir.laneMode with
  | .mirror =>
    match v with
    | .accepted _ lane => if failure (x.part (otherLane lane)).outcome? then s.blame (otherLane lane) else s
    | .failed disagree => if disagree then { s with lanes.disagreements := s.lanes.disagreements + 1 } else s
  | .alternate =>
    match v with
    | .accepted _ lane =>
      if x.failedOn (otherLane lane) then
        if x.lanePref = otherLane lane then
          (s.blame (otherLane lane)).updateStation x.address (fun r => { r with lanePref := lane })
        else s.blame (otherLane lane)
      else s
    | .failed _ => s
  | .singleA => if x.partA.outcome? = some .damaged then s.blame .a else s
  | .singleB => if x.partB.outcome? = some .damaged then s.blame .b else s

/-- What an attempt may bring upon the lanes and the station: nothing, a disagreement, a fault, or a fault and the other
lane preferred (R92, R97). -/
inductive State.Charges (s : State) (x : Exchange) : State → Prop
  | spared : s.Charges x s
  | disagreed : s.Charges x { s with lanes.disagreements := s.lanes.disagreements + 1 }
  | blamed (lane : LaneId) : s.Charges x (s.blame lane)
  | turned (lane pref : LaneId) :
    s.Charges x ((s.blame lane).updateStation x.address (fun r => { r with lanePref := pref }))

theorem State.charges_charged (v : Verdict) : s.Charges x (s.charged x v) := by
  unfold State.charged
  split
  · split
    · split
      · exact .blamed _
      · exact .spared
    · split
      · exact .disagreed
      · exact .spared
  · split
    · split
      · split
        · exact .turned _ _
        · exact .blamed _
      · exact .spared
    · exact .spared
  · split
    · exact .blamed _
    · exact .spared
  · split
    · exact .blamed _
    · exact .spared

@[simp] theorem State.charged_ctl (v : Verdict) : (s.charged x v).ctl = s.ctl := s.attribute_ctl x v
@[simp] theorem State.charged_xpt (v : Verdict) : (s.charged x v).xpt = s.xpt := s.attribute_xpt x v
@[simp] theorem State.charged_points (v : Verdict) : (s.charged x v).points = s.points := s.attribute_points x v
@[simp] theorem State.charged_swe (v : Verdict) : (s.charged x v).swe = s.swe := s.attribute_swe x v
@[simp] theorem State.charged_exu (v : Verdict) : (s.charged x v).exu = s.exu := s.attribute_exu x v
@[simp] theorem State.charged_bar (v : Verdict) : (s.charged x v).bar = s.bar := s.attribute_bar x v
@[simp] theorem State.charged_msu (v : Verdict) : (s.charged x v).msu = s.msu := s.attribute_msu x v
@[simp] theorem State.charged_oru (v : Verdict) : (s.charged x v).oru = s.oru := s.attribute_oru x v

/-- An attempt weighed: the lane logic has its outcomes and its faults are attributed (R90 to R92). -/
def State.weighed (x : Exchange) (s : State) : State :=
  ((s.laneOutcome .a x.partA.outcome?).laneOutcome .b x.partB.outcome?).charged x
    (verdict x.partA.outcome? x.partB.outcome?)

@[simp] theorem State.weighed_ctl : (s.weighed x).ctl = s.ctl := by simp [State.weighed]
@[simp] theorem State.weighed_xpt : (s.weighed x).xpt = s.xpt := by simp [State.weighed]
@[simp] theorem State.weighed_points : (s.weighed x).points = s.points := by simp [State.weighed]
@[simp] theorem State.weighed_swe : (s.weighed x).swe = s.swe := by simp [State.weighed]
@[simp] theorem State.weighed_exu : (s.weighed x).exu = s.exu := by simp [State.weighed]
@[simp] theorem State.weighed_bar : (s.weighed x).bar = s.bar := by simp [State.weighed]
@[simp] theorem State.weighed_msu : (s.weighed x).msu = s.msu := by simp [State.weighed]
@[simp] theorem State.weighed_oru : (s.weighed x).oru = s.oru := by simp [State.weighed]

/-- The ways an exchange closes, by its verb: a LATCH and a MARK as they stand, any other attempt once weighed (R82,
R83). -/
inductive State.ClosesAs (s : State) (x : Exchange) : State → ExchangeOutcome → Prop
  | latch (verb : x.verb = .latch) : s.ClosesAs x s .quiet
  | mark (verb : x.verb = .mark) : s.ClosesAs x s .complete
  | reply (q : Reply) (weighed : x.verb ≠ .latch ∧ x.verb ≠ .mark) : s.ClosesAs x (s.weighed x) (.reply q)
  | miss (weighed : x.verb ≠ .latch ∧ x.verb ≠ .mark) : s.ClosesAs x (s.weighed x) .miss

/-- An attempt that ends closes its exchange or is followed by the next (R79, R82). -/
theorem State.attemptEnd_cases :
    (∃ w o, s.ClosesAs x w o ∧ s.attemptEnd x = w.closeExchange x o) ∨
      (x.verb ≠ .latch ∧ x.verb ≠ .mark ∧ s.attemptEnd x = (s.weighed x).retry x) := by
  have weigh (h : x.verb ≠ .latch ∧ x.verb ≠ .mark) :
      (∃ w o, s.ClosesAs x w o ∧ s.weighAttempt x = w.closeExchange x o) ∨
        s.weighAttempt x = (s.weighed x).retry x := by
    unfold State.weighAttempt
    dsimp only
    split
    next q lane hv => exact .inl ⟨_, _, .reply q h, rfl⟩
    next =>
      split
      · exact .inr rfl
      · exact .inl ⟨_, _, .miss h, rfl⟩
  unfold State.attemptEnd
  split
  next hverb => exact .inl ⟨_, _, .latch hverb, rfl⟩
  next hverb => exact .inl ⟨_, _, .mark hverb, rfl⟩
  all_goals
    next hverb =>
      have h : x.verb ≠ .latch ∧ x.verb ≠ .mark := by simp [hverb]
      exact (weigh h).imp_right fun h' => ⟨h.1, h.2, h'⟩

theorem State.retry_exchange_isSome : (s.retry x).exu.exchange.isSome := rfl

/-- An attempt that goes on leaves the state as it was; one that is over ends. -/
theorem State.checkAttempt_cases :
    s.checkAttempt = s ∨ ∃ x, s.exu.exchange = some x ∧ x.attemptOver = true ∧ s.checkAttempt = s.attemptEnd x := by
  unfold State.checkAttempt
  split
  · exact .inl rfl
  next x hx =>
    split
    next hover => exact .inr ⟨x, hx, hover, rfl⟩
    next => exact .inl rfl

theorem State.checkAttempt_of_none {s : State} (h : s.exu.exchange = none) : s.checkAttempt = s := by
  simp [State.checkAttempt, h]

/-- A telegram has ended on a lane, and is counted where it is damaged (R74, R100). -/
def State.counted (lane : LaneId) (t : Option Telegram) (s : State) : State :=
  s.updateLane lane (fun l =>
    { l with rx := .quiet, damaged := l.damaged + if countsDamaged (s.receivingReply lane) t then 1 else 0 })

section
variable (lane : LaneId) (t : Option Telegram)

@[simp] theorem State.counted_ctl : (s.counted lane t).ctl = s.ctl := by simp [State.counted]
@[simp] theorem State.counted_xpt : (s.counted lane t).xpt = s.xpt := by simp [State.counted]
@[simp] theorem State.counted_rpu : (s.counted lane t).rpu = s.rpu := by simp [State.counted]
@[simp] theorem State.counted_stations : (s.counted lane t).stations = s.stations := by simp [State.counted]
@[simp] theorem State.counted_points : (s.counted lane t).points = s.points := by simp [State.counted]
@[simp] theorem State.counted_swe : (s.counted lane t).swe = s.swe := by simp [State.counted]
@[simp] theorem State.counted_exu : (s.counted lane t).exu = s.exu := by simp [State.counted]
@[simp] theorem State.counted_bar : (s.counted lane t).bar = s.bar := by simp [State.counted]
@[simp] theorem State.counted_msu : (s.counted lane t).msu = s.msu := by simp [State.counted]
@[simp] theorem State.counted_oru : (s.counted lane t).oru = s.oru := by simp [State.counted]
@[simp] theorem State.counted_pending : (s.counted lane t).pending = s.pending := by simp [State.counted]

/-- What a telegram is to the state, in order (R74, R80, R116). -/
theorem State.telegram_eq :
    s.telegram lane t =
      if s.receivingReply lane then (((s.counted lane t).judgeReply lane t).heard lane t).checkAttempt
      else (s.counted lane t).heard lane t := rfl

theorem State.telegram_cases :
    s.telegram lane t = (s.counted lane t).heard lane t ∨
      s.telegram lane t = (((s.counted lane t).judgeReply lane t).heard lane t).checkAttempt := by
  rw [State.telegram_eq]
  split
  · exact .inr rfl
  · exact .inl rfl

/-- With no exchange open a telegram is only heard. -/
theorem State.telegram_of_none (h : s.exu.exchange = none) :
    s.telegram lane t = (s.counted lane t).heard lane t := by
  rw [State.telegram_eq, if_neg]
  simp [State.receivingReply, h]

end

end

/-! ### The exchange while the role waits for its close (R123) -/

section
variable {s t : State}

/-- The exchange closed, its outcome delivered, before the claimant is told (R12, R85, R103). -/
def State.closed (x : Exchange) (o : ExchangeOutcome) (s : State) : State :=
  { (s.deliver x o).1 with exu.exchange := none, bar.reserved := 0 }

/-- The claimant told of the close (R103). -/
def State.told (x : Exchange) (o : ExchangeOutcome) (reports : List ValueEntry) (s : State) : State :=
  match x.claimant with
  | .busEntry => s.settleEntry x o reports
  | .sweep => s.sweepPollClosed o.isMiss
  | .mark => s

theorem State.closeExchange_eq (x : Exchange) (o : ExchangeOutcome) :
    s.closeExchange x o = ((s.closed x o).told x o (s.deliver x o).2).afterClose := by
  unfold State.told
  cases hx : x.claimant <;> simp only [State.closeExchange, State.closed, hx]

@[simp] theorem State.closed_ctl (x : Exchange) (o : ExchangeOutcome) : (s.closed x o).ctl = s.ctl := by
  simp [State.closed]
@[simp] theorem State.closed_swe (x : Exchange) (o : ExchangeOutcome) : (s.closed x o).swe = s.swe := by
  simp [State.closed]
@[simp] theorem State.closed_msu (x : Exchange) (o : ExchangeOutcome) : (s.closed x o).msu = s.msu := by
  simp [State.closed]
@[simp] theorem State.closed_oru (x : Exchange) (o : ExchangeOutcome) : (s.closed x o).oru = s.oru := by
  simp [State.closed]
@[simp] theorem State.closed_exchange (x : Exchange) (o : ExchangeOutcome) :
    (s.closed x o).exu.exchange = none := rfl
theorem State.closed_stations (x : Exchange) (o : ExchangeOutcome) :
    (s.closed x o).stations = (s.deliver x o).1.stations := rfl
theorem State.closed_points (x : Exchange) (o : ExchangeOutcome) :
    (s.closed x o).points = (s.deliver x o).1.points := rfl

section
variable (x : Exchange) (o : ExchangeOutcome) (reports : List ValueEntry)

@[simp] theorem State.told_ctl : (s.told x o reports).ctl = s.ctl := by unfold State.told; split <;> simp
@[simp] theorem State.told_stations : (s.told x o reports).stations = s.stations := by unfold State.told; split <;> simp
@[simp] theorem State.told_points : (s.told x o reports).points = s.points := by unfold State.told; split <;> simp
@[simp] theorem State.told_exu : (s.told x o reports).exu = s.exu := by unfold State.told; split <;> simp
@[simp] theorem State.told_msu : (s.told x o reports).msu = s.msu := by unfold State.told; split <;> simp

end

theorem State.afterClose_role_of_offAtClose (h : s.msu.offAtClose = true) : s.afterClose.msu.role = .off := by
  simp only [State.afterClose, h, if_true]
  split <;> rfl

theorem State.closeExchange_role_of_offAtClose (x : Exchange) (o : ExchangeOutcome) (h : s.msu.offAtClose = true) :
    (s.closeExchange x o).msu.role = .off := by
  rw [State.closeExchange_eq]
  exact State.afterClose_role_of_offAtClose (by simp [h])

/-- Where the role waits for the close, it waits on while the exchange is open, and is OFF once it has closed. -/
theorem State.checkAttempt_waits (h : s.msu.offAtClose = true) (hx : s.exu.exchange.isSome) :
    (s.checkAttempt.exu.exchange = none → s.checkAttempt.msu.role = .off) ∧
      (s.checkAttempt.exu.exchange.isSome → s.checkAttempt.msu.offAtClose = true) := by
  rcases s.checkAttempt_cases with he | ⟨x, -, -, he⟩
  · rw [he]
    exact ⟨fun hnone => by simp [hnone] at hx, fun _ => h⟩
  · rw [he]
    rcases s.attemptEnd_cases x with ⟨w, o, hw, hclose⟩ | ⟨-, -, hretry⟩
    · have hw : w.msu.offAtClose = true := by cases hw <;> simp [h]
      rw [hclose]
      exact ⟨fun _ => State.closeExchange_role_of_offAtClose x o hw, by simp⟩
    · rw [hretry]
      exact ⟨by simp [State.retry, State.beginAttempt], by simp [h]⟩

end

end Sys2Proof.Machine

namespace Sys2Proof.Machine

section
variable {s t u : State}

/-! ### The phases of a start and of a drain (R182, R184, R185) -/

theorem State.Phases.of_ctl (h : s.Phases) (hctl : t.ctl = s.ctl) : t.Phases :=
  ⟨by rw [hctl]; exact h.start, by rw [hctl]; exact h.drain, by rw [hctl]; exact h.ended, by rw [hctl]; exact h.expired⟩

theorem reset_phases : State.reset.Phases := ⟨nofun, by decide, nofun, nofun⟩

/-- With a START in progress no drain is. -/
theorem State.Phases.not_draining_of_start (h : s.Phases) (hstart : s.ctl.start.isSome) :
    s.ctl.drainExpired = false ∧ s.ctl.drainEnded = false ∧ s.ctl.drainTimer = false := by
  have hnot := mt h.drain (by simp [h.start hstart])
  simpa [not_or] using hnot

/-- Outside DRAINING no drain is going on. -/
theorem State.Phases.not_draining (h : s.Phases) (hstate : s.ctl.exchangeState ≠ .draining) :
    s.ctl.drainExpired = false ∧ s.ctl.drainEnded = false ∧ s.ctl.drainTimer = false := by
  have hnot := mt h.drain hstate
  simpa [not_or] using hnot

/-- Outside HALTED no START is in progress. -/
theorem State.Phases.no_start (h : s.Phases) (hstate : s.ctl.exchangeState ≠ .halted) : s.ctl.start = none := by
  simpa using mt h.start hstate

theorem State.Hosting.not_halted (h : s.Hosting) : s.ctl.exchangeState ≠ .halted := by
  rcases h with h | h <;> simp [h]

theorem State.Phases.effect (h : s.Phases) (e : s.Effect u) : u.Phases := by
  cases e with
  | powerOn => exact reset_phases.of_ctl rfl
  | reset => exact ⟨nofun, by simp [Control.reset], nofun, nofun⟩
  | start halted =>
    have hnone := h.not_draining (by simp [halted])
    exact ⟨fun _ => halted, by simp [hnone], by simp [hnone], by simp [hnone]⟩
  | beginDrain running =>
    have hnone := h.not_draining (by simp [running])
    have hstart := h.no_start (by simp [running])
    exact ⟨by simp [hstart], by simp, by simp [hnone], by simp [hnone]⟩
  | haltFromFault faulted =>
    have hnone := h.not_draining (by simp [faulted])
    exact ⟨fun _ => rfl, by simp [hnone], by simp [hnone], by simp [hnone]⟩
  | refuseStart cause started =>
    have hnone := h.not_draining_of_start started
    exact ⟨nofun, by simp [State.refuseStart, hnone], by simp [State.refuseStart, hnone],
      by simp [State.refuseStart, hnone]⟩
  | directoryPassed p d started =>
    exact ⟨fun _ => h.start (by simp [started]), h.drain, h.ended, h.expired⟩
  | takeStart => exact ⟨nofun, by simp [State.takeStart], nofun, nofun⟩
  | fault cause hosting =>
    have hstart := h.no_start hosting.not_halted
    exact ⟨by simp [State.fault, hstart], by simp [State.fault], nofun, nofun⟩
  | drainExpired draining timer =>
    have hgoing : s.ctl.drainEnded = false := by
      by_contra hended
      simp [(h.ended (by simpa using hended)).2] at timer
    have hstart := h.no_start (by simp [draining])
    exact ⟨by simp [hstart], fun _ => draining, by simp [hgoing], fun _ => rfl⟩
  | drainExpiredEnd draining _ =>
    have hstart := h.no_start (by simp [draining])
    exact ⟨by simp [State.endDrain, hstart], fun _ => draining, fun _ => ⟨rfl, rfl⟩, nofun⟩
  | drainEnd draining =>
    have hstart := h.no_start (by simp [draining])
    exact ⟨by simp [State.endDrain, hstart], fun _ => draining, fun _ => ⟨rfl, rfl⟩, nofun⟩
  | finalReportWritten tag ended =>
    have hdraining := h.drain (.inr (.inl ended))
    obtain ⟨hexpired, htimer⟩ := h.ended ended
    exact ⟨fun _ => rfl, by simp [State.enterHalted, hexpired, htimer], nofun, by simp [State.enterHalted, hexpired]⟩
  | areaLo | areaHi => exact ⟨h.start, h.drain, h.ended, h.expired⟩
  | _ => exact h.of_ctl (by simp)

/-! ### The exchange is open in neither HALTED nor the end of a drain (R78, R185) -/

theorem State.ExchangeQuiet.of_ctl (h : s.ExchangeQuiet) (hctl : t.ctl = s.ctl)
    (hexchange : s.exu.exchange = none → t.exu.exchange = none) : t.ExchangeQuiet :=
  ⟨fun ht => hexchange (h.halted (by rwa [hctl] at ht)), fun ht => hexchange (h.drained (by rwa [hctl] at ht))⟩

/-- Where the exchange is none, nothing is asked. -/
theorem State.ExchangeQuiet.of_none (hexchange : t.exu.exchange = none) : t.ExchangeQuiet :=
  ⟨fun _ => hexchange, fun _ => hexchange⟩

/-- In RUNNING and in FAULTED nothing is asked. -/
theorem State.ExchangeQuiet.of_phases (h : t.Phases) (hhalted : t.ctl.exchangeState ≠ .halted)
    (hdraining : t.ctl.exchangeState ≠ .draining) : t.ExchangeQuiet :=
  ⟨fun ht => absurd ht hhalted, fun ht => by simp [h.not_draining hdraining] at ht⟩

/-- An exchange opens in RUNNING and ACTIVE, with none open and three places free in Staging (R102). -/
theorem State.grantOpen_iff : s.grantOpen = true ↔
    s.msu.role = .active ∧ s.ctl.exchangeState = .running ∧ s.exu.exchange = none ∧
        Config.grantPlaces ≤ s.freePlaces ∧
      s.msu.roleDue = [] := by
  simp [State.grantOpen, State.running, and_assoc]

theorem State.checkAttempt_exchange_none (h : s.exu.exchange = none) : s.checkAttempt.exu.exchange = none := by
  rw [State.checkAttempt_of_none h, h]

theorem State.telegram_exchange_none (lane : LaneId) (t : Option Telegram) (h : s.exu.exchange = none) :
    (s.telegram lane t).exu.exchange = none := by
  simp [s.telegram_of_none lane t h, h]

@[simp] theorem State.beginDrain_exchange :
    s.beginDrain.exu.exchange = s.exu.exchange.map (fun x => { x with noRetry := true }) := by
  simp [State.beginDrain, State.forbidRetry]

/-- The exchange state is HALTED or DRAINING only where it was, unless the command takes it there. -/
theorem State.ExchangeQuiet.effect (hphases : s.Phases) (h : s.ExchangeQuiet) (e : s.Effect u) :
    u.ExchangeQuiet := by
  have hafter := hphases.effect e
  cases e with
  | powerOn | reset | haltFromFault | drainExpired | drainExpiredEnd => exact .of_none rfl
  | fault => exact .of_phases hafter (by simp [State.fault]) (by simp [State.fault])
  | takeStart => exact .of_phases hafter (by simp [State.takeStart]) (by simp [State.takeStart])
  | beginDrain running =>
    have hnone := hphases.not_draining (by simp [running])
    exact ⟨by simp, by simp [hnone]⟩
  | drainEnd _ _ _ finished =>
    refine .of_none (?_ : s.exu.exchange = none)
    rcases finished with hexpired | hdrained
    · exact h.drained (.inl hexpired)
    · simp [State.drained] at hdrained
      tauto
  | finalReportWritten _ ended => exact .of_none (h.drained (.inr ended))
  | grant g granting =>
    have hrunning := (State.grantOpen_iff.1 granting).2.1
    exact .of_phases hafter (by simp [hrunning]) (by simp [hrunning])
  | start | areaLo | areaHi | refuseStart | directoryPassed => exact ⟨h.halted, h.drained⟩
  | telegram lane t => exact h.of_ctl (by simp) (State.telegram_exchange_none lane t)
  | yield o => exact h.of_ctl (by simp) (by simp +contextual [State.leaveActive_exchange])
  | markSent lane _ x =>
    exact h.of_ctl (by simp) fun hnone => State.checkAttempt_exchange_none (by simp [hnone])
  | windowExpired lane x =>
    exact h.of_ctl (by simp) fun hnone => State.checkAttempt_exchange_none (by simp [hnone])
  | _ => exact h.of_ctl (by simp) (by simp +contextual)

end

end Sys2Proof.Machine

namespace Sys2Proof.Machine

section
variable {s t u : State}

/-! ### The role (R109, R123) -/

theorem reset_exchangeQuiet : State.reset.ExchangeQuiet := .of_none rfl

theorem reset_roleSound : State.reset.RoleSound := ⟨reset_phases, reset_exchangeQuiet, fun _ => rfl, nofun, nofun⟩

/-- What the invariant of the role says of the role alone: it is OFF in HALTED, and in DRAINING unless it waits for the
close of the open exchange. -/
structure State.RoleFollows (s : State) : Prop where
  halted : s.ctl.exchangeState = .halted → s.msu.role = .off
  draining : s.ctl.exchangeState = .draining → s.exu.exchange = none → s.msu.role = .off
  closing : s.ctl.exchangeState = .draining → s.exu.exchange.isSome → s.msu.offAtClose = true

theorem State.RoleSound.follows (h : s.RoleSound) : s.RoleFollows := ⟨h.halted, h.draining, h.closing⟩

/-- Outside HALTED and DRAINING nothing is asked of the role. -/
theorem State.RoleFollows.of_state (hhalted : s.ctl.exchangeState ≠ .halted)
    (hdraining : s.ctl.exchangeState ≠ .draining) : s.RoleFollows :=
  ⟨fun h => absurd h hhalted, fun h => absurd h hdraining, fun h => absurd h hdraining⟩

theorem State.RoleFollows.of_eq (h : s.RoleFollows) (hstate : t.ctl.exchangeState = s.ctl.exchangeState)
    (hrole : s.msu.role = .off → t.msu.role = .off) (hexchange : t.exu.exchange = none ↔ s.exu.exchange = none)
    (hoff : t.msu.offAtClose = s.msu.offAtClose) : t.RoleFollows where
  halted := fun ht => hrole (h.halted (hstate ▸ ht))
  draining := fun ht hnone => hrole (h.draining (hstate ▸ ht) (hexchange.1 hnone))
  closing := fun ht hsome => by
    rw [hoff]
    refine h.closing (hstate ▸ ht) ?_
    rw [← Option.ne_none_iff_isSome] at hsome ⊢
    exact mt hexchange.2 hsome

/-- An attempt that may end: with no exchange open nothing does, and one that closes takes the role to OFF where that
waited for it. -/
theorem State.RoleFollows.checkAttempt (hquiet : s.ExchangeQuiet) (h : s.RoleFollows) :
    s.checkAttempt.RoleFollows := by
  by_cases hnone : s.exu.exchange = none
  · rwa [State.checkAttempt_of_none hnone]
  · have hsome := Option.ne_none_iff_isSome.1 hnone
    have hnot : s.ctl.exchangeState ≠ .halted := mt hquiet.halted hnone
    refine ⟨by simp [hnot], fun ht => ?_, fun ht => ?_⟩ <;>
      have hwaits := State.checkAttempt_waits (h.closing (by simpa using ht) hsome) hsome
    · exact hwaits.1
    · exact hwaits.2

theorem State.RoleFollows.heard (h : s.RoleFollows) (lane : LaneId) (t : Option Telegram) :
    (s.heard lane t).RoleFollows :=
  h.of_eq (by simp) (fun hoff => by rw [State.heard_of_off s lane t hoff, hoff]) (by simp) (by simp)

theorem State.RoleFollows.telegram (hquiet : s.ExchangeQuiet) (h : s.RoleFollows) (lane : LaneId)
    (t : Option Telegram) : (s.telegram lane t).RoleFollows := by
  rcases s.telegram_cases lane t with ht | ht
  · rw [ht]
    exact State.RoleFollows.heard (h.of_eq (by simp) (by simp) (by simp) (by simp)) lane t
  · rw [ht]
    refine State.RoleFollows.checkAttempt (hquiet.of_ctl (by simp) (by simp +contextual)) ?_
    exact State.RoleFollows.heard (h.of_eq (by simp) (by simp) (by simp) (by simp)) lane t

@[simp] theorem State.beginDrain_role :
    s.beginDrain.msu.role = if s.exu.exchange = none then .off else s.msu.role := by simp [State.beginDrain]

@[simp] theorem State.beginDrain_offAtClose : s.beginDrain.msu.offAtClose = s.exu.exchange.isSome := by
  simp [State.beginDrain]

/-- Outside RUNNING a wind-down ends and nothing follows from it (R121). -/
theorem State.endWindDown_of_not_running (h : s.ctl.exchangeState ≠ .running) :
    s.endWindDown = { s with msu.windDown := none } := by
  simp [State.endWindDown, State.running, h]

theorem State.cutExchange_roleFollows (c : Control) : ({ s.cutExchange with ctl := c } : State).RoleFollows :=
  ⟨fun _ => rfl, fun _ _ => rfl, fun _ => nofun⟩

theorem State.RoleFollows.effect (h : s.RoleSound) (e : s.Effect u) : u.RoleFollows := by
  have hfollows := h.follows
  cases e with
  | powerOn | reset => exact ⟨fun _ => rfl, fun _ _ => rfl, fun _ => nofun⟩
  | haltFromFault => exact ⟨fun _ => rfl, nofun, nofun⟩
  | fault => exact .of_state (by simp [State.fault]) (by simp [State.fault])
  | takeStart => exact .of_state (by simp [State.takeStart]) (by simp [State.takeStart])
  | beginDrain =>
    refine ⟨by simp, fun _ => ?_, fun _ => ?_⟩
    · simp +contextual
    · simp
  | drainExpired => exact State.cutExchange_roleFollows _
  | drainExpiredEnd draining => exact ⟨by simp [State.endDrain, draining], fun _ _ => rfl, fun _ => nofun⟩
  | finalReportWritten _ ended =>
    have hdraining := h.phases.drain (.inr (.inl ended))
    exact ⟨fun _ => h.draining hdraining (h.quiet.drained (.inr ended)), nofun, nofun⟩
  | attentionExpired =>
    exact hfollows.of_eq (by simp) (fun hoff => by rw [State.hostAttention_of_off _ (by exact hoff)]; exact hoff)
      (by simp) (by simp)
  | claim o taken => exact .of_state (by simp [taken.running]) (by simp [taken.running])
  | yield o taken => exact .of_state (by simp [taken.running]) (by simp [taken.running])
  | grant g granting =>
    have hrunning := (State.grantOpen_iff.1 granting).2.1
    exact .of_state (by simp [hrunning]) (by simp [hrunning])
  | markSent lane _ x =>
    exact State.RoleFollows.checkAttempt (h.quiet.of_ctl (by simp) (by simp +contextual))
      (hfollows.of_eq (by simp) (by simp) (by simp) (by simp))
  | telegram lane t => exact hfollows.telegram h.quiet lane t
  | windowExpired lane x =>
    exact State.RoleFollows.checkAttempt (h.quiet.of_ctl (by simp) (by simp +contextual))
      (hfollows.of_eq (by simp) (by simp) (by simp) (by simp))
  | takeover running => exact .of_state (by simp [running]) (by simp [running])
  | windDownStaged d rest _ hosting =>
    rcases hosting with hrunning | hdraining
    · exact .of_state (by simp [hrunning]) (by simp [hrunning])
    · rw [State.endWindDown_of_not_running (by simp [hdraining])]
      exact hfollows.of_eq (by simp) (by simp) (by simp) (by simp)
  | start | areaLo | areaHi | refuseStart | directoryPassed | drainEnd => exact ⟨hfollows.1, hfollows.2, hfollows.3⟩
  | _ => exact hfollows.of_eq (by simp) (by simp) (by simp) (by simp)

theorem State.RoleSound.effect (h : s.RoleSound) (e : s.Effect u) : u.RoleSound :=
  have hfollows := State.RoleFollows.effect h e
  ⟨h.phases.effect e, State.ExchangeQuiet.effect h.phases h.quiet e, hfollows.halted, hfollows.draining,
    hfollows.closing⟩

theorem State.RoleSound.of_eq (h : s.RoleSound) (hctl : t.ctl = s.ctl) (hmsu : t.msu = s.msu) (hexu : t.exu = s.exu) :
    t.RoleSound where
  phases := h.phases.of_ctl hctl
  quiet := h.quiet.of_ctl hctl (by simp [hexu])
  halted := by rw [hctl, hmsu]; exact h.halted
  draining := by rw [hctl, hmsu, hexu]; exact h.draining
  closing := by rw [hctl, hmsu, hexu]; exact h.closing

end

/-- Settles O57: the phases, the exchange that is open in neither HALTED nor the end of a drain, and the role, kept by
every effect. -/
theorem roleFollowsTheExchangeState : Obligations.RoleFollowsTheExchangeState :=
  step_keeps (fun _ _ h => h.of_eq rfl rfl rfl) (fun _ h => h.of_eq (by simp) (by simp) (by simp)) fun _ _ => .effect

end Sys2Proof.Machine

/-! Result Staging within its six places (R103, R165). -/

namespace Sys2Proof.Machine

section
variable {s t u : State}

/-! ### What a grant does -/

/-- The outcomes of a grant (R9, R104, R105, R146). -/
inductive State.Grants (s : State) : State → Prop
  | same : s.Grants s
  | ended (i : Nat) (e : BusEntry) (queued : s.oru.busQueue[i]? = some e) : s.Grants (s.endEntry i e .mismatch)
  | skipped (a : Nat) (claimed : s.swe.claim = some a) : s.Grants s.skipClaim
  | latchAll (i : Nat) (e : BusEntry) (queued : s.oru.busQueue[i]? = some e) :
      s.Grants (s.openEntry i e latchAllExchange)
  | entry (i : Nat) (e : BusEntry) (r : StationRecord) (x : Exchange) (queued : s.oru.busQueue[i]? = some e)
      (found : s.station? e.order.station = some r)
      (opens : (r.verified = true ∧ x = entryExchange e.order r) ∨
        (r.verified = false ∧ x = queryExchange .busEntry r)) : s.Grants (s.openEntry i e x)
  | poll (a : Nat) (r : StationRecord) (found : s.station? a = some r) :
      s.Grants
        (({ s with swe.claim := none, swe.firstPoll := false, bar.token := .busQueue } : State).openExchange
          (sweepExchange r) s.swe.firstPoll)
  | mark : s.Grants (({ s with msu.markClaim := false } : State).openExchange markExchange false)

theorem State.grantEntry_grants (i : Nat) : s.Grants (s.grantEntry i) := by
  unfold State.grantEntry
  split
  · exact .same
  next e queued =>
    split
    · exact .latchAll i e queued
    · split
      · exact .same
      next r found =>
        split
        · exact .ended i e queued
        · split
          next hverified => exact .entry i e r _ queued found (.inl ⟨hverified, rfl⟩)
          next hverified => exact .entry i e r _ queued found (.inr ⟨by simpa using hverified, rfl⟩)

theorem State.grantSweep_grants (a : Nat) (claimed : s.swe.claim = some a) : s.Grants (s.grantSweep a) := by
  unfold State.grantSweep
  split
  · exact .skipped a claimed
  next r found =>
    split
    · exact .skipped a claimed
    · exact .poll a r found

/-- The sweep's poll is chosen where its claim is raised (R101). -/
theorem State.claim_of_chooseClaim {a : Nat} (h : s.chooseClaim = some (.sweep a)) : s.swe.claim = some a := by
  unfold State.chooseClaim at h
  split at h
  · cases h
  · split at h
    next b hb =>
      split at h
      · cases h; exact hb
      · cases h
    · cases h
    next b hb => cases h; exact hb
    · split at h <;> cases h

theorem State.grant_grants {g : Grant} (chosen : s.chooseClaim = some g) : s.Grants (s.grant g) := by
  cases g with
  | entry i => exact State.grantEntry_grants i
  | sweep a => exact State.grantSweep_grants a (State.claim_of_chooseClaim chosen)
  | mark => exact .mark

/-! ### Learned replies leave the reservation alone -/

@[simp] theorem State.changeRecord_learned_bar (s : State) (old new : StationRecord) (i : Option (Byte × Nat)) :
    (s.changeRecord old new i true).bar = s.bar := by
  unfold State.changeRecord
  dsimp only
  split <;> simp

@[simp] theorem State.conditionReply_learned_bar (s : State) (r : StationRecord) (v : List (Nat × Word)) :
    (s.conditionReply r true v).1.bar = s.bar := by
  unfold State.conditionReply State.stageChanges
  dsimp only
  split
  · rfl
  · rw [if_pos rfl]
    split <;> simp

@[simp] theorem State.overheardPair_bar (s : State) (q : Request) (r : Reply) : (s.overheardPair q r).bar = s.bar := by
  unfold State.overheardPair
  split
  · rfl
  · split <;> simp

@[simp] theorem State.closeOverheard_bar (s : State) (v : Overheard) : (s.closeOverheard v).bar = s.bar := by
  unfold State.closeOverheard
  dsimp only
  split <;> simp

@[simp] theorem State.setOverResult_bar (s : State) (v : Overheard) (lane : LaneId) (l : OverLane) :
    (s.setOverResult v lane l).bar = s.bar := by
  unfold State.setOverResult
  dsimp only
  split <;> simp

@[simp] theorem State.overhear_bar (s : State) (lane : LaneId) (t : Option Telegram) :
    (s.overhear lane t).bar = s.bar := by
  have reply (r : Option Reply) : (s.overhearReply lane r).bar = s.bar := by
    unfold State.overhearReply
    split
    · rfl
    · split
      · rfl
      · split
        · simp
        · rfl
  unfold State.overhear
  split
  · unfold State.overhearRequest
    split
    · simp
    · split <;> simp
  · exact reply _
  · exact reply _

@[simp] theorem State.heard_bar (s : State) (lane : LaneId) (t : Option Telegram) : (s.heard lane t).bar = s.bar := by
  unfold State.heard
  split
  · split <;> simp
  · simp
  · rfl

/-! ### Staging with its reservations -/

/-- The places held and reserved are at most six, and an open exchange has its two reserved. -/
def State.Reserves (s : State) : Prop := s.Roomy ∧ (s.exu.exchange.isSome → s.bar.reserved = 2)

theorem State.StagingSound.reserves (h : s.StagingSound) : s.Reserves := ⟨h.capacity, h.open_reserved⟩

theorem State.Reserves.of_roomy (h : s.Reserves) (hroomy : t.Roomy) (hbar : t.bar = s.bar)
    (hexchange : t.exu.exchange = none ↔ s.exu.exchange = none) : t.Reserves := by
  refine ⟨hroomy, fun hsome => ?_⟩
  rw [hbar]
  refine h.2 ?_
  rw [← Option.ne_none_iff_isSome] at hsome ⊢
  exact mt hexchange.2 hsome

theorem State.Reserves.of_eq (h : s.Reserves) (hstaging : t.rpu.staging = s.rpu.staging) (hbar : t.bar = s.bar)
    (hexchange : t.exu.exchange = none ↔ s.exu.exchange = none) : t.Reserves :=
  h.of_roomy (h.1.of_eq hstaging (by rw [hbar])) hbar hexchange

/-- With nothing open only the places held are counted. -/
theorem State.Reserves.of_none (hroomy : t.Roomy) (hexchange : t.exu.exchange = none) : t.Reserves :=
  ⟨hroomy, by simp [hexchange]⟩

theorem State.Reserves.checkAttempt (h : s.Reserves) : s.checkAttempt.Reserves := State.checkAttempt_roomy h.1 h.2

theorem State.Reserves.telegram (h : s.Reserves) (lane : LaneId) (t : Option Telegram) :
    (s.telegram lane t).Reserves := by
  rcases s.telegram_cases lane t with ht | ht
  · rw [ht]
    exact h.of_roomy (State.heard_roomy lane t (h.1.of_eq (by simp) (by simp))) (by simp) (by simp)
  · rw [ht]
    refine State.Reserves.checkAttempt
      (h.of_roomy (State.heard_roomy lane t (h.1.of_eq (by simp) (by simp))) (by simp) (by simp))

/-- An exchange that opens has at least three free places, of which it takes two (R102, R103). -/
theorem State.openExchange_reserves (x : Exchange) (probe : Bool) (h : Config.grantPlaces ≤ s.freePlaces) :
    (s.openExchange x probe).Reserves := by
  refine ⟨?_, fun _ => rfl⟩
  have hroom : s.rpu.staging.length + 2 ≤ 6 := by
    have hfree : 3 ≤ 6 - (s.rpu.staging.length + s.bar.reserved) := h
    omega
  exact hroom

theorem State.Grants.reserves (g : s.Grants u) (h : s.Reserves) (hroom : Config.grantPlaces ≤ s.freePlaces) :
    u.Reserves := by
  cases g with
  | same => exact h
  | ended => exact h.of_eq (by simp) (by simp) (by simp)
  | skipped => exact h.of_roomy (State.skipClaim_roomy h.1) (by simp) (by simp)
  | latchAll | entry | poll | mark => exact State.openExchange_reserves _ _ hroom

/-- Nothing staged and nothing open. -/
theorem State.Reserves.empty (hstaging : t.rpu.staging = []) (hbar : t.bar.reserved ≤ 6)
    (hexchange : t.exu.exchange = none) :
    t.Reserves :=
  .of_none (by simpa [State.Roomy, hstaging, Config.stagingResults] using hbar) hexchange

theorem reset_reserves : State.reset.Reserves := .empty rfl (by decide) rfl

theorem State.cutExchange_roomy (h : s.Roomy) (c : Control) : ({ s.cutExchange with ctl := c } : State).Roomy :=
  State.Roomy.released h rfl rfl

/-- A result that leaves Staging frees its place. -/
theorem State.Roomy.of_le (h : s.Roomy) (hstaging : t.rpu.staging.length ≤ s.rpu.staging.length)
    (hbar : t.bar.reserved ≤ s.bar.reserved) : t.Roomy :=
  (Nat.add_le_add hstaging hbar).trans h

/-- A HALT in RUNNING before the sweep stops and the orders are abandoned (R123, R184). -/
def State.drainBegun (s : State) : State :=
  { s with
    ctl.exchangeState := .draining, ctl.drainTimer := true
    msu.takeoverTimer := false, msu.markTimer := false, msu.markClaim := false
    msu.role := if s.exu.exchange.isNone then .off else s.msu.role
    msu.offAtClose := s.exu.exchange.isSome
    exu.overheard := if s.exu.exchange.isNone then none else s.exu.overheard }

theorem State.beginDrain_eq (s : State) : s.beginDrain = s.drainBegun.forbidRetry.stopSweep.abandonOrders := rfl

theorem State.Reserves.effect (h : s.StagingSound) (e : s.Effect u) : u.Reserves := by
  have hr := h.reserves
  cases e with
  | powerOn | reset => exact reset_reserves
  | haltFromFault => exact .of_none (State.Roomy.released hr.1 rfl rfl) rfl
  | drainExpired => exact .of_none (State.cutExchange_roomy hr.1 _) rfl
  | drainExpiredEnd => exact .empty rfl (Nat.zero_le _) rfl
  | drainEnd => exact hr.of_roomy (hr.1.of_le (Nat.zero_le _) le_rfl) rfl .rfl
  | fault => exact hr.of_roomy (hr.1.of_le (Nat.zero_le _) le_rfl) rfl (by simp [State.fault, State.forbidRetry])
  | takeStart _ _ _ started =>
    have hnone := h.quiet.halted (h.phases.start (by simp [started]))
    exact .empty rfl (Nat.zero_le _) hnone
  | beginDrain =>
    have hroomy := State.stopSweep_roomy (s := s.drainBegun.forbidRetry) hr.1
    exact hr.of_roomy (hroomy.of_eq (by simp [State.beginDrain_eq]) (by simp [State.beginDrain_eq]))
      (by simp [State.beginDrain_eq, State.drainBegun]) (by simp)
  | attentionExpired => exact hr.of_roomy (State.hostAttention_roomy hr.1) (by simp) (by simp)
  | recordWritten _ _ r rest _ _ staged =>
    exact hr.of_roomy (hr.1.of_le (by simp [staged]) (by simp)) (by simp) (by simp)
  | refuseStart | finalReportWritten => exact hr.of_eq rfl rfl .rfl
  | retire o | shape o => exact hr.of_roomy (State.holdOrApply_roomy o hr.1) (by simp) (by simp)
  | holdSatisfied o => exact hr.of_roomy (State.applyHeld_roomy o hr.1) (by simp) (by simp)
  | claim o => exact hr.of_roomy (State.carryOutClaim_roomy o hr.1) (by simp) (by simp)
  | yield o => exact hr.of_roomy (State.leaveActive_roomy _ _ hr.1) (by simp) (by simp [State.leaveActive_exchange])
  | orderResultStaged c rest _ _ room => exact hr.of_roomy (State.stage_roomy _ room) (by simp) (by simp)
  | handResultStaged c rest _ _ room =>
    exact hr.of_roomy (State.Roomy.of_eq (State.stage_roomy (s := { s with oru.completion := rest }) _ room) rfl rfl) (by simp) (by simp)
  | grant g granting chosen =>
    obtain ⟨-, -, -, hroom, -⟩ := State.grantOpen_iff.1 granting
    exact (State.grant_grants chosen).reserves hr hroom
  | telegram lane t => exact hr.telegram lane t
  | markSent lane | windowExpired lane =>
    exact State.Reserves.checkAttempt (hr.of_eq (by simp) (by simp) (by simp))
  | overheardWindowExpired lane v l =>
    exact hr.of_roomy (State.setOverResult_roomy _ _ _ hr.1) (by simp) (by simp)
  | takeover => exact hr.of_roomy (State.enterActive_roomy _ hr.1) (by simp) (by simp)
  | roleResultStaged d rest _ _ room =>
    exact hr.of_roomy (State.Roomy.of_eq (State.stageRole_roomy (s := { s with msu.roleDue := rest }) d room) (by simp) (by simp)) (by simp) (by simp)
  | windDownStaged d rest _ _ room =>
    exact hr.of_roomy
      (State.endWindDown_roomy (State.Roomy.of_eq (State.stageRole_roomy (s := { s with msu.roleDue := rest }) d room) (by simp) (by simp))) (by simp) (by simp)
  | sweepBegins => exact hr.of_roomy (State.walk_roomy hr.1) (by simp) (by simp)
  | swapBegins => exact hr.of_roomy (State.walk_roomy hr.1) (by simp) (by simp)
  | sweepResultStaged _ room =>
    exact hr.of_roomy ((State.finishSweep_roomy _).2 (State.stage_roomy _ room)) (by simp) (by simp)
  | abandonedStaged => exact hr.of_roomy (State.finishAbandon_roomy hr.1) (by simp) (by simp)
  | _ => exact hr.of_eq (by simp) (by simp) (by simp)

theorem State.StagingSound.effect (h : s.StagingSound) (e : s.Effect u) : u.StagingSound :=
  have hreserves := State.Reserves.effect h e
  ⟨h.phases.effect e, State.ExchangeQuiet.effect h.phases h.quiet e, hreserves.2, hreserves.1⟩

theorem State.StagingSound.of_eq (h : s.StagingSound) (hctl : t.ctl = s.ctl) (hexu : t.exu = s.exu)
    (hbar : t.bar = s.bar) (hstaging : t.rpu.staging = s.rpu.staging) : t.StagingSound :=
  have hreserves := h.reserves.of_eq hstaging hbar (by rw [hexu])
  ⟨h.phases.of_ctl hctl, h.quiet.of_ctl hctl (by simp [hexu]), hreserves.2, hreserves.1⟩

end

/-- Settles O55: each effect keeps the places held and reserved within six, as the shared operations do. -/
theorem stagingNeverOverflows : Obligations.StagingNeverOverflows :=
  step_keeps (fun _ _ h => h.of_eq rfl rfl rfl rfl) (fun _ h => h.of_eq (by simp) (by simp) (by simp) (by simp))
    fun _ _ => .effect

end Sys2Proof.Machine

/-! The Bus Queue, the completion list and the Order Cache within their sizes (R133, R135, R143). -/

namespace Sys2Proof.Machine

/-- The results that stand in the completion list or are still to be given to it (R135). -/
def OrderUnit.load (u : OrderUnit) : Nat := u.completion.length + u.busQueue.length + u.hand.unanswered

/-- The Order Unit has no more entries and no more results to give than it had. -/
structure OrderUnit.NoMore (u v : OrderUnit) : Prop where
  busQueue : v.busQueue.length ≤ u.busQueue.length
  load : v.load ≤ u.load

/-- At most one result of the completion list is that of the order in hand, and the hand is then in STAGE_WAIT (R134,
R135). -/
structure OrderUnit.HandSound (u : OrderUnit) : Prop where
  once : (u.completion.filter (fun c => c.fromHand)).length ≤ 1
  waits : ∀ c ∈ u.completion, c.fromHand = true → ∃ o, u.hand = .stageWait o

/-- The Order Unit has moved on: no more to do than it had, the same order under its hold, and the results of the hand as
sound as they were. -/
structure OrderUnit.Settles (u v : OrderUnit) : Prop extends u.NoMore v where
  hold : ∀ o, v.hand = .holdWait o ↔ u.hand = .holdWait o
  hand : u.HandSound → v.HandSound

theorem OrderUnit.NoMore.refl (u : OrderUnit) : u.NoMore u := ⟨le_rfl, le_rfl⟩

theorem OrderUnit.Settles.refl (u : OrderUnit) : u.Settles u := ⟨.refl u, fun _ => .rfl, id⟩

theorem OrderUnit.Settles.trans {u v w : OrderUnit} (h : u.Settles v) (h' : v.Settles w) : u.Settles w :=
  ⟨⟨h'.busQueue.trans h.busQueue, h'.load.trans h.load⟩, fun o => (h'.hold o).trans (h.hold o), h'.hand ∘ h.hand⟩

/-- Results that are not the hand's join the completion list. -/
theorem OrderUnit.HandSound.append {u : OrderUnit} (h : u.HandSound) {queue : List BusEntry} {l : List Completed}
    (hl : ∀ c ∈ l, c.fromHand = false) :
    ({ u with busQueue := queue, completion := u.completion ++ l } : OrderUnit).HandSound := by
  have hnone : l.filter (fun c => c.fromHand) = [] := List.filter_eq_nil_iff.2 (by simpa using hl)
  refine ⟨by simpa [List.filter_append, hnone] using h.once, fun c hc hown => ?_⟩
  rcases List.mem_append.1 hc with hc | hc
  · exact h.waits c hc hown
  · simp [hl c hc] at hown

/-- With the hand not in STAGE_WAIT no result is its own, and its order may answer. -/
theorem OrderUnit.HandSound.none_own {u : OrderUnit} (h : u.HandSound) (hhand : ∀ o, u.hand ≠ .stageWait o) :
    ∀ c ∈ u.completion, c.fromHand = false := by
  intro c hc
  by_contra hown
  obtain ⟨o, ho⟩ := h.waits c hc (by simpa using hown)
  exact hhand o ho

/-- One result of the hand, which is in STAGE_WAIT. -/
theorem OrderUnit.handSound_of_own {u : OrderUnit} {l : List Completed} {c : Completed} {o : Order}
    (hl : ∀ c ∈ l, c.fromHand = false) (hhand : u.hand = .stageWait o) (hcompletion : u.completion = l ++ [c]) :
    u.HandSound := by
  have hnone : l.filter (fun c => c.fromHand) = [] := List.filter_eq_nil_iff.2 (by simpa using hl)
  refine ⟨?_, fun _ _ _ => ⟨o, hhand⟩⟩
  rw [hcompletion, List.filter_append, hnone, List.nil_append]
  exact List.length_filter_le _ _

theorem OrderUnit.NoMore.trans {u v w : OrderUnit} (h : u.NoMore v) (h' : v.NoMore w) : u.NoMore w :=
  ⟨h'.busQueue.trans h.busQueue, h'.load.trans h.load⟩

/-- A hand that has an order to answer, which is under no hold (R134). -/
def Hand.Answers (h : Hand) : Prop := h.unanswered = 1 ∧ ∀ o, h ≠ .holdWait o

theorem Hand.Answers.not_stageWait {h : Hand} (ha : h.Answers) (o : Order) : h ≠ .stageWait o := by
  rintro rfl
  cases ha.1

section
variable (s : State)

/-! ### Completions -/

/-- An order in hand that had still to answer, and does. -/
theorem State.answer_noMore (o : Order) (c : OrderOutcome) (h : s.oru.hand.unanswered = 1) :
    s.oru.NoMore (s.answer o c).oru := by
  have hload : (s.answer o c).oru.load = s.oru.completion.length + 1 + s.oru.busQueue.length := by
    simp [OrderUnit.load, State.answer, State.completeHand, Hand.unanswered]
  refine ⟨le_rfl, hload.le.trans ?_⟩
  rw [OrderUnit.load, h]
  omega

theorem State.answer_handSound (o : Order) (c : OrderOutcome) (h : s.oru.HandSound)
    (hhand : ∀ o, s.oru.hand ≠ .stageWait o) : (s.answer o c).oru.HandSound :=
  OrderUnit.handSound_of_own (h.none_own hhand) rfl rfl

/-- An order in hand answers, and no hold is touched. -/
theorem State.answer_settles (o : Order) (c : OrderOutcome) {h : Hand} (hs : s.oru.hand = h) (ha : h.Answers) :
    s.oru.Settles (s.answer o c).oru where
  toNoMore := s.answer_noMore o c (hs ▸ ha.1)
  hold p := by
    rw [hs]
    exact ⟨nofun, fun hp => absurd hp (ha.2 p)⟩
  hand hsound := s.answer_handSound o c hsound (hs ▸ ha.not_stageWait)

theorem State.markerCheck_settles : s.oru.Settles s.markerCheck.oru := by
  unfold State.markerCheck
  split
  next o ho =>
    split
    · exact s.answer_settles o _ ho ⟨rfl, nofun⟩
    · exact .refl _
  next => exact .refl _

/-- After an entry has gone, an order that waited takes its place. -/
theorem State.entryLeft_size :
    s.entryLeft.oru.busQueue.length ≤ s.oru.busQueue.length + 1 ∧ s.entryLeft.oru.load ≤ s.oru.load := by
  unfold State.entryLeft
  split
  next o ho =>
    simp only [OrderUnit.load, ho, Hand.unanswered, List.length_append, List.length_singleton]
    omega
  next =>
    obtain ⟨hqueue, hload⟩ := s.markerCheck_settles.toNoMore
    exact ⟨hqueue.trans (Nat.le_succ _), hload⟩

theorem State.entryLeft_hand :
    (∀ o, s.entryLeft.oru.hand = .holdWait o ↔ s.oru.hand = .holdWait o) ∧
      (s.oru.HandSound → s.entryLeft.oru.HandSound) := by
  unfold State.entryLeft
  split
  next o ho =>
    refine ⟨fun p => by simp [ho], fun h => ?_⟩
    have hnone := h.none_own (by simp [ho])
    refine ⟨?_, fun c hc hown => by simp [hnone c hc] at hown⟩
    exact h.once
  next => exact ⟨s.markerCheck_settles.hold, s.markerCheck_settles.hand⟩

theorem State.endEntry_settles (i : Nat) (e : BusEntry) (c : OrderOutcome) (h : i < s.oru.busQueue.length) :
    s.oru.Settles (s.endEntry i e c).oru := by
  unfold State.endEntry
  let t : State :=
    { s with
      oru.busQueue := s.oru.busQueue.eraseIdx i
      oru.completion := s.oru.completion ++ [{ fromHand := false, result := e.result c }] }
  change s.oru.Settles t.entryLeft.oru
  obtain ⟨hqueue, hload⟩ := t.entryLeft_size
  obtain ⟨hhold, hhand⟩ := t.entryLeft_hand
  have herase : t.oru.busQueue.length = s.oru.busQueue.length - 1 := List.length_eraseIdx_of_lt h
  have hcompletion : t.oru.completion.length = s.oru.completion.length + 1 := by simp [t]
  refine ⟨⟨hqueue.trans ?_, hload.trans ?_⟩, hhold, fun hsound => hhand (hsound.append (by simp))⟩
  · omega
  · change t.oru.completion.length + t.oru.busQueue.length + s.oru.hand.unanswered ≤ _
    rw [OrderUnit.load]
    omega

theorem State.continueEntry_settles (i : Nat) (e : BusEntry) (h : i < s.oru.busQueue.length) :
    s.oru.Settles (s.continueEntry i e).oru := by
  unfold State.continueEntry
  split
  · exact s.endEntry_settles i e _ h
  · split
    · exact s.endEntry_settles i e _ h
    · exact ⟨⟨by simp, by simp [OrderUnit.load]⟩, fun _ => .rfl, fun hsound => ⟨hsound.once, hsound.waits⟩⟩

theorem State.endClosedEntries_settles (c : OrderOutcome) : s.oru.Settles (s.endClosedEntries c).oru := by
  refine ⟨⟨List.length_filter_le _ _, ?_⟩, fun _ => .rfl, fun hsound => hsound.append ?_⟩
  · have hsplit := List.length_eq_length_filter_add (l := s.oru.busQueue) (fun e => e.exchangeOpen)
    simp only [OrderUnit.load, State.endClosedEntries, List.length_append, List.length_map]
    omega
  · intro c hc
    obtain ⟨e, -, rfl⟩ := List.mem_map.1 hc
    rfl

theorem State.endNotActive_settles : s.oru.Settles s.endNotActive.oru := by
  unfold State.endNotActive
  refine (s.endClosedEntries_settles .notActive).trans ?_
  dsimp only
  split
  next o ho => exact State.answer_settles _ o _ ho ⟨rfl, nofun⟩
  next => exact State.markerCheck_settles _

theorem State.abandonOrders_noMore : s.oru.NoMore s.abandonOrders.oru := by
  unfold State.abandonOrders
  refine (s.endClosedEntries_settles .abandoned).toNoMore.trans ?_
  dsimp only
  split
  next o ho => exact State.answer_noMore _ o _ (by rw [ho]; rfl)
  next o ho => exact State.answer_noMore ((s.endClosedEntries .abandoned).clearHeld o.station) o _ (by
      rw [State.clearHeld, State.updateStation_oru, ho]; rfl)
  next o ho => exact State.answer_noMore _ o _ (by rw [ho]; rfl)
  next => exact (State.markerCheck_settles _).toNoMore

/-! ### Mastership -/

@[simp] theorem State.roleLeft_oru (reason : RoleReason) (tag : Option (BitVec 1)) :
    (s.roleLeft reason tag).oru = s.oru := by simp [State.roleLeft]

theorem State.leaveActive_settles (reason : RoleReason) (tag : Option (BitVec 1)) :
    s.oru.Settles (s.leaveActive reason tag).oru := by
  rw [State.leaveActive_eq]
  split
  · simpa using (s.roleLeft reason tag).endNotActive_settles
  · simpa using OrderUnit.Settles.refl s.oru

theorem State.hostAttention_settles : s.oru.Settles s.hostAttention.oru := by
  unfold State.hostAttention
  split
  · exact .refl _
  · simpa using OrderUnit.Settles.refl s.oru
  · refine OrderUnit.Settles.trans ?_ (State.leaveActive_settles _ _ _)
    simpa using OrderUnit.Settles.refl s.oru

theorem State.contest_settles (tag : BitVec 1) : s.oru.Settles (s.contest tag).oru := by
  unfold State.contest
  dsimp only
  split
  · refine OrderUnit.Settles.trans ?_ (State.leaveActive_settles _ _ _)
    simpa using OrderUnit.Settles.refl s.oru
  · simpa using OrderUnit.Settles.refl s.oru

theorem State.heard_settles (lane : LaneId) (t : Option Telegram) : s.oru.Settles (s.heard lane t).oru := by
  unfold State.heard
  split
  · split
    · exact s.contest_settles _
    all_goals exact .refl _
  · simpa using OrderUnit.Settles.refl s.oru
  · exact .refl _

theorem State.roleStaged_settles (reason : RoleReason) : s.oru.Settles (s.roleStaged reason).oru := by
  unfold State.roleStaged
  split
  next o ho => exact s.answer_settles o _ ho ⟨rfl, nofun⟩
  next o ho => exact s.answer_settles o _ ho ⟨rfl, nofun⟩
  next => exact .refl _

/-- A CLAIM carried out answers, or waits with one result to give (R113). -/
theorem State.carryOutClaim_size (o : Order) : (s.carryOutClaim o).oru.busQueue.length = s.oru.busQueue.length ∧
    (s.carryOutClaim o).oru.load = s.oru.completion.length + s.oru.busQueue.length + 1 := by
  refine ⟨by simp, ?_⟩
  unfold State.carryOutClaim
  dsimp only
  split
  · simp [OrderUnit.load, State.answer, State.completeHand, Hand.unanswered]
    omega
  · simp [OrderUnit.load, Hand.unanswered]

theorem State.carryOutClaim_hand (o : Order) (h : ∀ p, s.oru.hand ≠ .holdWait p ∧ s.oru.hand ≠ .stageWait p) :
    (∀ p, (s.carryOutClaim o).oru.hand ≠ .holdWait p) ∧ (s.oru.HandSound → (s.carryOutClaim o).oru.HandSound) := by
  let t : State := ({ s with msu.shift := 0 } : State).enterActive .claimed
  have htu : t.oru = s.oru := State.enterActive_oru _ _
  unfold State.carryOutClaim
  change (∀ p, (if t.msu.roleDue = [] then t.answer o .done else _).oru.hand ≠ .holdWait p) ∧
    (s.oru.HandSound → (if t.msu.roleDue = [] then t.answer o .done else _).oru.HandSound)
  split
  · refine ⟨nofun, fun hsound => t.answer_handSound o _ (by rwa [htu]) fun p => ?_⟩
    rw [htu]
    exact (h p).2
  · refine ⟨nofun, fun hsound => ?_⟩
    have hnone := hsound.none_own fun p => (h p).2
    rw [← htu] at hsound hnone
    exact ⟨hsound.once, fun c hc hown => by simp [hnone c hc] at hown⟩

theorem State.endWindDown_settles : s.oru.Settles s.endWindDown.oru := by
  unfold State.endWindDown
  dsimp only
  split
  · split
    next o ho =>
      have ho : s.oru.hand = .claimDeferred o := ho
      let t : State := { s with msu.windDown := none, msu.takeoverTimer := true }
      obtain ⟨hqueue, hload⟩ := t.carryOutClaim_size o
      obtain ⟨hhold, hhand⟩ := t.carryOutClaim_hand o (by simp [t, ho])
      refine ⟨⟨hqueue.le, hload.le.trans ?_⟩, fun p => ⟨fun hp => absurd hp (hhold p), by simp [ho]⟩, hhand⟩
      simp only [OrderUnit.load, ho, Hand.unanswered, le_refl, t]
    next => exact .refl _
  · exact .refl _

/-! ### The close of an exchange -/

theorem State.settleQuery_settles (i : Nat) (e : BusEntry) (a : Nat) (o : ExchangeOutcome)
    (h : i < s.oru.busQueue.length) : s.oru.Settles (s.settleQuery i e a o).oru := by
  unfold State.settleQuery
  split
  · split
    · split
      · exact s.continueEntry_settles i e h
      · exact s.endEntry_settles i e _ h
    all_goals exact s.endEntry_settles i e _ h
  all_goals exact s.endEntry_settles i e _ h

theorem State.settleEntry_settles (x : Exchange) (o : ExchangeOutcome) (reports : List ValueEntry) :
    s.oru.Settles (s.settleEntry x o reports).oru := by
  unfold State.settleEntry
  split
  · exact .refl _
  next i hi =>
    have hlt : i < s.oru.busQueue.length := (List.findIdx?_eq_some_iff_getElem.1 hi).1
    split
    · exact .refl _
    next e _ =>
      split
      · exact s.settleQuery_settles i e _ o hlt
      · dsimp only
        split
        · exact s.endEntry_settles i _ _ hlt
        · exact s.continueEntry_settles i _ hlt
      · exact s.endEntry_settles i e _ hlt
      · exact s.endEntry_settles i e _ hlt
      · exact .refl _

theorem State.closeExchange_settles (x : Exchange) (o : ExchangeOutcome) :
    s.oru.Settles (s.closeExchange x o).oru := by
  rw [State.closeExchange_eq, State.afterClose_oru]
  unfold State.told
  split
  · simpa using (s.closed x o).settleEntry_settles x o (s.deliver x o).2
  all_goals simpa using OrderUnit.Settles.refl s.oru

theorem State.ClosesAs.oru {s w : State} {x : Exchange} {o : ExchangeOutcome} (h : s.ClosesAs x w o) :
    w.oru = s.oru := by cases h <;> simp

theorem State.checkAttempt_settles : s.oru.Settles s.checkAttempt.oru := by
  rcases s.checkAttempt_cases with he | ⟨x, -, -, he⟩
  · rw [he]; exact .refl _
  · rw [he]
    rcases s.attemptEnd_cases x with ⟨w, o, hw, hclose⟩ | ⟨-, -, hretry⟩
    · rw [hclose, ← hw.oru]
      exact w.closeExchange_settles x o
    · rw [hretry]
      simpa using OrderUnit.Settles.refl s.oru

theorem State.checkAttempt_settles_of_oru {s w : State} (h : w.oru = s.oru) : s.oru.Settles w.checkAttempt.oru :=
  h ▸ w.checkAttempt_settles

theorem State.telegram_settles (lane : LaneId) (t : Option Telegram) : s.oru.Settles (s.telegram lane t).oru := by
  rcases s.telegram_cases lane t with ht | ht
  · rw [ht]
    refine OrderUnit.Settles.trans ?_ (State.heard_settles _ lane t)
    simpa using OrderUnit.Settles.refl s.oru
  · rw [ht]
    refine OrderUnit.Settles.trans ?_ (State.checkAttempt_settles _)
    refine OrderUnit.Settles.trans ?_ (State.heard_settles _ lane t)
    simpa using OrderUnit.Settles.refl s.oru

theorem State.openEntry_settles (i : Nat) (e : BusEntry) (x : Exchange) : s.oru.Settles (s.openEntry i e x).oru := by
  unfold State.openEntry
  rw [State.openExchange_oru]
  exact ⟨⟨by simp, by simp [OrderUnit.load]⟩, fun _ => .rfl, fun hsound => ⟨hsound.once, hsound.waits⟩⟩

theorem State.Grants.settles {s u : State} (g : s.Grants u) : s.oru.Settles u.oru := by
  cases g with
  | same => exact .refl _
  | ended i e queued => exact s.endEntry_settles i e _ (List.getElem?_eq_some_iff.1 queued).1
  | latchAll i e => exact s.openEntry_settles i e _
  | entry i e r x => exact s.openEntry_settles i e x
  | skipped | poll | mark => simpa using OrderUnit.Settles.refl s.oru

/-! ### Holds -/

theorem State.applyHeld_noMore (o : Order) (h : s.oru.hand.unanswered = 1) : s.oru.NoMore (s.applyHeld o).oru := by
  have answered (w : State) (hw : w.oru = s.oru) : s.oru.NoMore (w.answer o .done).oru := by
    rw [← hw] at h ⊢
    exact w.answer_noMore o .done h
  unfold State.applyHeld
  split
  · exact answered _ (by simp)
  · split
    · exact answered _ (by simp [State.clearHeld])
    · exact answered _ rfl

end

/-! ### The invariant -/

section
variable {s t u : State} {o : Order}

/-- The part of the invariant that speaks of the Bus Queue and the completion list. -/
structure State.Fits (s : State) : Prop where
  busQueue : s.oru.busQueue.length ≤ Config.busQueueEntries
  load : s.oru.load ≤ Config.completionResults

theorem State.Fits.of_noMore (h : s.Fits) (hmore : s.oru.NoMore t.oru) : t.Fits :=
  ⟨hmore.busQueue.trans h.busQueue, hmore.load.trans h.load⟩

theorem State.Fits.of_oru (h : s.Fits) (horu : t.oru = s.oru) : t.Fits :=
  h.of_noMore (horu ▸ .refl _)

/-- An order taken in hand leaves the completion list empty, and one more result fits beside the entries (R133). -/
theorem State.Fits.of_inHand (h : s.Fits) (hqueue : t.oru.busQueue = s.oru.busQueue)
    (hload : t.oru.completion.length + t.oru.hand.unanswered ≤ 1) : t.Fits := by
  have hbus := h.busQueue
  have hfour : Config.busQueueEntries = 4 := rfl
  have hfive : Config.completionResults = 5 := rfl
  refine ⟨by rwa [hqueue], ?_⟩
  rw [OrderUnit.load, hqueue]
  omega

theorem State.joinQueue_fits (h : s.Fits) (taken : s.InHand o) : (s.popOrder.joinQueue o).Fits := by
  unfold State.joinQueue
  have hload : s.oru.load = s.oru.busQueue.length := by
    simp [OrderUnit.load, taken.completion, taken.hand, Hand.unanswered]
  split
  next hroom =>
    have hroom : s.oru.busQueue.length < 4 := hroom
    refine ⟨?_, ?_⟩
    · simp only [State.popOrder, List.length_append, List.length_singleton]
      exact hroom
    · simp only [OrderUnit.load, State.popOrder, taken.completion, taken.hand, Hand.unanswered, List.length_append,
        List.length_singleton, List.length_nil]
      have hfive : Config.completionResults = 5 := rfl
      omega
  next => exact h.of_inHand rfl (by simp [State.popOrder, taken.completion, Hand.unanswered])

theorem State.holdOrApply_fits (h : s.Fits) (taken : s.InHand o) : (s.popOrder.holdOrApply o).Fits := by
  refine h.of_inHand (by simp [State.popOrder]) ?_
  unfold State.holdOrApply
  dsimp only
  split
  · unfold State.applyHeld
    split
    · simp [State.answer, State.completeHand, State.popOrder, taken.completion, Hand.unanswered]
    · split <;>
        simp [State.answer, State.completeHand, State.popOrder, State.clearHeld, taken.completion, Hand.unanswered]
  · simp [State.popOrder, taken.completion, Hand.unanswered]

theorem State.QueuesSound.fits (h : s.QueuesSound) : s.Fits := ⟨h.busQueue, h.completion⟩

theorem reset_queuesSound : State.reset.QueuesSound := ⟨by decide, by decide, by decide, nofun⟩

/-- An empty Order Unit fits. -/
theorem State.Fits.of_empty (h : t.oru = { cache := [], hand := .empty, busQueue := [], completion := [] }) :
    t.Fits := by
  constructor <;> rw [h] <;> decide

theorem State.Fits.effect (h : s.Fits) (e : s.Effect u) : u.Fits := by
  cases e with
  | powerOn | reset | fault | takeStart | drainExpiredEnd | drainEnd => exact .of_empty rfl
  | haltFromFault | refuseStart | drainExpired | finalReportWritten => exact h.of_oru rfl
  | beginDrain =>
    have hmore := State.abandonOrders_noMore s.drainBegun.forbidRetry.stopSweep
    exact h.of_noMore (by simpa [State.beginDrain_eq, State.drainBegun] using hmore)
  | attentionExpired => exact h.of_noMore (State.hostAttention_settles { s with rpu.attention := .expired }).toNoMore
  | finish o _ _ _ taken =>
    exact h.of_inHand rfl (by simp [State.completeHand, State.popOrder, taken.completion, Hand.unanswered])
  | enrol o _ taken | scanBegin o taken | scanAdd o taken | scanCommit o taken | scanSwap o taken
  | takeTotals o _ taken | claimHeld o taken =>
    exact h.of_inHand rfl
      (by simp [State.answer, State.completeHand, State.popOrder, taken.completion, Hand.unanswered])
  | claimDeferred o taken | marker o taken =>
    exact h.of_inHand rfl (by simp [State.popOrder, taken.completion, Hand.unanswered])
  | retire o taken | shape o taken => exact State.holdOrApply_fits h taken.inHand
  | joinQueue o taken => exact State.joinQueue_fits h taken
  | claim o taken =>
    obtain ⟨hqueue, hload⟩ := State.carryOutClaim_size s.popOrder o
    refine ⟨hqueue.le.trans h.busQueue, hload.le.trans ?_⟩
    have hfive : s.oru.busQueue.length < 5 := Nat.lt_succ_of_le h.busQueue
    simpa [State.popOrder, taken.completion, Config.completionResults] using hfive
  | yield o taken =>
    have hyield : ({ s.popOrder with oru.hand := .yieldStaging o } : State).Fits :=
      h.of_inHand rfl (by simp [State.popOrder, taken.completion, Hand.unanswered])
    exact hyield.of_noMore (State.leaveActive_settles _ _ _).toNoMore
  | holdSatisfied o waiting => exact h.of_noMore (s.applyHeld_noMore o (by simp [waiting, Hand.unanswered]))
  | orderResultStaged c rest completion =>
    exact h.of_noMore ⟨by simp, by simp [OrderUnit.load, completion]⟩
  | handResultStaged c rest completion =>
    exact h.of_noMore ⟨by simp [State.releaseHand],
      by simp [State.releaseHand, OrderUnit.load, completion, Hand.unanswered]; omega⟩
  | grant g _ chosen => exact h.of_noMore (State.grant_grants chosen).settles.toNoMore
  | markSent | windowExpired => exact h.of_noMore (State.checkAttempt_settles_of_oru (by simp)).toNoMore
  | telegram lane t => exact h.of_noMore (s.telegram_settles lane t).toNoMore
  | roleResultStaged d rest =>
    have hrole := State.roleStaged_settles (State.stageRole d { s with msu.roleDue := rest }) d.reason
    exact h.of_noMore (by simpa using hrole.toNoMore)
  | windDownStaged d rest =>
    have hrole := State.roleStaged_settles (State.stageRole d { s with msu.roleDue := rest }) d.reason
    exact h.of_noMore ((by simpa using hrole : s.oru.Settles _).trans (State.endWindDown_settles _)).toNoMore
  | orderFetchDone => exact h.of_noMore ⟨by simp, by simp [OrderUnit.load]⟩
  | _ => exact h.of_noMore (by simpa using OrderUnit.NoMore.refl s.oru)

/-! ### The Order Cache, with a fetch in progress (R133, R164) -/

/-- The part of the invariant that speaks of the Order Cache. -/
structure State.CacheFits (s : State) : Prop where
  cache : s.oru.cache.length ≤ Config.orderCacheOrders
  fetch : ∀ address k, s.xpt.readPath = some (.orderFetch address k) →
    s.oru.cache.length + k ≤ Config.orderCacheOrders

theorem State.CacheFits.of_le (h : s.CacheFits) (hcache : t.oru.cache.length ≤ s.oru.cache.length)
    (hfetch : ∀ address k, t.xpt.readPath = some (.orderFetch address k) →
      s.xpt.readPath = some (.orderFetch address k)) : t.CacheFits :=
  ⟨hcache.trans h.cache, fun a k hk => (Nat.add_le_add_right hcache k).trans (h.fetch a k (hfetch a k hk))⟩

theorem State.CacheFits.of_eq (h : s.CacheFits) (hcache : t.oru.cache = s.oru.cache)
    (hpath : t.xpt.readPath = s.xpt.readPath) : t.CacheFits :=
  h.of_le (by rw [hcache]) (by simp [hpath])

theorem State.CacheFits.of_tail (h : s.CacheFits) (hcache : t.oru.cache = s.oru.cache.tail)
    (hpath : t.xpt.readPath = s.xpt.readPath) : t.CacheFits :=
  h.of_le (by simp [hcache]) (by simp [hpath])

@[simp] theorem State.popOrder_cache (s : State) : s.popOrder.oru.cache = s.oru.cache.tail := rfl

@[simp] theorem State.completeHand_cache (s : State) (o : Order) (c : OrderOutcome) (d : Nat) (e : Entries) :
    (s.completeHand o c d e).oru.cache = s.oru.cache := rfl

@[simp] theorem State.answer_cache (s : State) (o : Order) (c : OrderOutcome) :
    (s.answer o c).oru.cache = s.oru.cache := rfl

@[simp] theorem State.releaseHand_cache (s : State) : s.releaseHand.oru.cache = s.oru.cache := rfl

theorem length_parseOrders (k : Nat) : ∀ data : List Byte, (parseOrders data k).length = k := by
  induction k with
  | zero => exact fun _ => rfl
  | succ k ih => exact fun data => congrArg (· + 1) (ih _)

theorem State.CacheFits.effect (h : s.CacheFits) (e : s.Effect u) : u.CacheFits := by
  cases e with
  | powerOn | reset => exact ⟨Nat.zero_le _, nofun⟩
  | fault | takeStart => exact ⟨Nat.zero_le _, nofun⟩
  | drainExpiredEnd | drainEnd => exact h.of_le (Nat.zero_le _) (fun _ _ hk => hk)
  | start | directoryPassed | refuseStart | hostBlockReadBegin | hostBlockTaken | supplyEntryReadBegin
  | supplyEntryTaken => exact h.of_le le_rfl nofun
  | orderFetchBegin =>
    refine ⟨h.cache, fun a k hk => ?_⟩
    obtain rfl : s.fetchCount = k := by simpa using (ReadAccess.orderFetch.inj (Option.some.inj hk)).2
    have hcount : s.fetchCount ≤ Config.orderCacheOrders - s.oru.cache.length := min_le_left _ _
    have hcache := h.cache
    simp only
    omega
  | orderFetchDone a k data _ reading =>
    refine ⟨?_, by simp⟩
    have hfetch := h.fetch a k reading
    simpa [length_parseOrders] using hfetch
  | haltFromFault | drainExpired | finalReportWritten => exact h.of_eq rfl rfl
  | beginDrain => exact h.of_eq (by simp [State.beginDrain]) (by simp [State.beginDrain])
  | finish | enrol | retire | shape | scanBegin | scanAdd | scanCommit | scanSwap | joinQueue | takeTotals | claimHeld
  | claimDeferred | claim | yield | marker => exact h.of_tail (by simp) (by simp)
  | _ => exact h.of_eq (by simp) (by simp)

theorem State.QueuesSound.effect (h : s.QueuesSound) (e : s.Effect u) : u.QueuesSound :=
  have hfits := h.fits.effect e
  have hcache := State.CacheFits.effect ⟨h.cache, h.fetch⟩ e
  ⟨hfits.busQueue, hfits.load, hcache.cache, hcache.fetch⟩

theorem State.QueuesSound.of_eq (h : s.QueuesSound) (horu : t.oru = s.oru) (hxpt : t.xpt = s.xpt) :
    t.QueuesSound :=
  ⟨horu ▸ h.busQueue, horu ▸ h.completion, horu ▸ h.cache, by rw [horu, hxpt]; exact h.fetch⟩

end

/-- Settles O56: no effect gives the Order Unit more results to give than it has room for, nor more orders than the cache
holds. -/
theorem queuesNeverOverflow : Obligations.QueuesNeverOverflow :=
  step_keeps (fun _ _ h => h.of_eq rfl rfl) (fun _ h => h.of_eq (by simp) (by simp)) fun _ _ => .effect

end Sys2Proof.Machine

/-! The Station Table and the Scan Lists (R1, R50): what each effect does to the addresses and windows of the records. -/

namespace Sys2Proof.Machine

/-! ### Addresses and windows -/

/-- The address of a record with its window in the Point Table (R3). -/
structure Window where
  address : Nat
  firstSlot : Nat
  slotCount : Nat

def StationRecord.window (r : StationRecord) : Window :=
  { address := r.address, firstSlot := r.firstSlot, slotCount := r.slotCount }

/-- The windows of the Station Table, in the order of its records. -/
def State.windows (s : State) : List Window := s.stations.map StationRecord.window

/-- Every record of the table is changed in place, its address and window kept. -/
theorem map_windows (f : StationRecord → StationRecord) (l : List StationRecord) (h : ∀ r ∈ l, (f r).window = r.window) :
    (l.map f).map StationRecord.window = l.map StationRecord.window := by
  rw [List.map_map]
  exact List.map_congr_left h

section
variable {s t u : State}

theorem State.windows_of_stations (h : t.stations = s.stations) : t.windows = s.windows := by
  rw [State.windows, h, State.windows]

theorem StationRecord.missed_window (r : StationRecord) : r.missed.window = r.window := rfl

theorem StationRecord.answered_window (r : StationRecord) (c : Byte) : (r.answered c).window = r.window := rfl

theorem StationRecord.advance_window (r : StationRecord) (x : Exchange) (q : Reply) :
    (r.advance x q).window = r.window := by
  unfold StationRecord.advance
  split <;> rfl

theorem StationRecord.queried_window (r : StationRecord) (q : Reply) : (r.queried q).window = r.window := by
  unfold StationRecord.queried
  dsimp only
  split
  · split <;> rfl
  all_goals rfl

/-! ### One record to an address -/

/-- The records stand in strictly rising order of address, so no two have one address (R1). -/
def State.Ordered (s : State) : Prop := s.stations.Pairwise (fun r q => r.address < q.address)

theorem State.ordered_iff (s : State) : s.Ordered ↔ s.windows.Pairwise (fun w v => w.address < v.address) := by
  rw [State.windows, List.pairwise_map]
  rfl

theorem State.Ordered.of_windows (h : s.Ordered) (hw : t.windows = s.windows) : t.Ordered := by
  rw [State.ordered_iff] at h ⊢
  rwa [hw]

theorem State.Ordered.station?_of_mem (h : s.Ordered) {r : StationRecord} (hr : r ∈ s.stations) :
    s.station? r.address = some r := by
  have unique : ∀ l : List StationRecord, l.Pairwise (fun r q => r.address < q.address) → r ∈ l →
      l.find? (fun q => q.address = r.address) = some r := by
    intro l hl hrl
    induction l with
    | nil => cases hrl
    | cons q rest ih =>
      obtain ⟨hq, hrest⟩ := List.pairwise_cons.1 hl
      rcases List.mem_cons.1 hrl with rfl | hrest'
      · simp
      · rw [List.find?_cons_of_neg (by simpa using (hq r hrest').ne)]
        exact ih hrest hrest'
  exact unique _ h hr

/-! ### What a reply, a miss and a learned reply do to the two tables -/

/-- A slot lies in no window. -/
def Window.Outside (w : Window) (slot : Nat) : Prop := slot < w.firstSlot ∨ w.firstSlot + w.slotCount ≤ slot

/-- Only the points of the window have changed. -/
def ChangedWithin (w : Window) (v v' : Vector Point Config.slotCount) : Prop :=
  ∀ slot, slot < Config.slotCount → w.Outside slot → pointAt v' slot = pointAt v slot

theorem ChangedWithin.refl (w : Window) (v : Vector Point Config.slotCount) : ChangedWithin w v v := fun _ _ _ => rfl

theorem ChangedWithin.trans {w : Window} {v v' v'' : Vector Point Config.slotCount} (h : ChangedWithin w v v')
    (h' : ChangedWithin w v' v'') : ChangedWithin w v v'' :=
  fun slot hslot hout => (h' slot hslot hout).trans (h slot hslot hout)

theorem ChangedWithin.updateWindow {w : Window} (f : Point → Point) {first count : Nat}
    (v : Vector Point Config.slotCount)
    (h : ∀ slot, first ≤ slot → slot < first + count →
      ¬ w.Outside slot) : ChangedWithin w v (updateWindow f first count v) := by
  intro slot hslot hout
  rw [updateWindow_at _ _ _ _ _ hslot, if_neg]
  exact fun hin => h slot hin.1 hin.2 hout

theorem ChangedWithin.updateStationWindow (s : State) (f : Point → Point) (r : StationRecord) :
    ChangedWithin r.window s.points (s.updateStationWindow f r).points :=
  .updateWindow f _ fun slot hlow hhigh hout => by
    simp only [Window.Outside, StationRecord.window] at hout
    omega

theorem ChangedWithin.markHealth (s : State) (old new : StationRecord) :
    ChangedWithin new.window s.points (s.markHealth old new).points := by
  unfold State.markHealth
  split
  · split
    · exact .updateStationWindow s _ new
    · exact .updateStationWindow s _ new
    all_goals exact .refl _ _
  · exact .refl _ _

theorem ChangedWithin.changeRecord (s : State) (old new : StationRecord) (i : Option (Byte × Nat)) (l : Bool) :
    ChangedWithin new.window s.points (s.changeRecord old new i l).points := by
  unfold State.changeRecord
  dsimp only
  split
  · split
    · simpa using ChangedWithin.markHealth (s.updateStation old.address fun _ => new) old new
    · unfold State.stageReserved
      simpa using ChangedWithin.markHealth (s.updateStation old.address fun _ => new) old new
  · exact ChangedWithin.markHealth (s.updateStation old.address fun _ => new) old new

theorem ChangedWithin.foldl_step (n : Word) (r : StationRecord) (readings : List (Nat × Word)) :
    ∀ c : Conditioned, ChangedWithin r.window c.points (readings.foldl (Conditioned.step n r) c).points := by
  induction readings with
  | nil => exact fun c => .refl _ _
  | cons reading rest ih =>
    refine fun c => ChangedWithin.trans ?_ (ih _)
    unfold Conditioned.step
    split
    next hmapped =>
      intro slot hslot hout
      refine (updatePoint_at _ _ _ _ hslot).trans (if_neg ?_)
      simp only [Window.Outside, StationRecord.window] at hout
      omega
    next => exact .refl _ _

theorem ChangedWithin.conditionReply (s : State) (r : StationRecord) (l : Bool) (v : List (Nat × Word)) :
    ChangedWithin r.window s.points (s.conditionReply r l v).1.points := by
  unfold State.conditionReply
  simpa using ChangedWithin.foldl_step s.swe.sweepCount r v { points := s.points, reports := [], changes := [] }

theorem ChangedWithin.markRefused (s : State) (r : StationRecord) (first count : Nat) :
    ChangedWithin r.window s.points (s.markRefused r first count).points :=
  .updateWindow _ _ fun slot hlow hhigh hout => by
    simp only [Window.Outside, StationRecord.window] at hout
    omega

/-- The record of one station is replaced, and only points of its window have changed (R12). -/
structure State.Applies (s t : State) (r new : StationRecord) : Prop where
  stations : t.stations = s.stations.map (fun q => if q.address = r.address then new else q)
  points : ChangedWithin r.window s.points t.points

/-- The two tables stay as they were. -/
structure State.SameTables (s t : State) : Prop where
  stations : t.stations = s.stations
  points : t.points = s.points

theorem State.Applies.conditionReply {r new : StationRecord} (h : s.Applies t r new) (l : Bool) (v : List (Nat × Word)) :
    s.Applies (t.conditionReply r l v).1 r new :=
  ⟨by simpa using h.stations, h.points.trans (.conditionReply t r l v)⟩

theorem State.Applies.markRefused {r new : StationRecord} (h : s.Applies t r new) (first count : Nat) :
    s.Applies (t.markRefused r first count) r new :=
  ⟨by simpa using h.stations, h.points.trans (.markRefused t r first count)⟩

/-- What an exchange's outcome makes of its station's record (R10, R13, R15, R22). -/
inductive Exchange.Makes (x : Exchange) (r : StationRecord) : StationRecord → Prop
  | missed : x.Makes r r.missed
  | queried (q : Reply) (verb : x.verb = .query) : x.Makes r (r.queried q)
  | answered (condition : Byte) (verb : x.verb = .fetch ∨ x.verb = .store) : x.Makes r (r.answered condition)
  | advanced (q : Reply) (verb : x.verb = .fetch ∨ x.verb = .store) :
      x.Makes r ((r.answered q.condition).advance x q)

theorem Exchange.Makes.window {x : Exchange} {r new : StationRecord} (h : x.Makes r new) : new.window = r.window := by
  cases h with
  | missed => exact r.missed_window
  | queried q => exact r.queried_window q
  | answered c => exact r.answered_window c
  | advanced q => exact (StationRecord.advance_window _ _ _).trans (r.answered_window _)

theorem State.applies_changeRecord (s : State) {r new : StationRecord} (i : Option (Byte × Nat)) (l : Bool)
    (h : new.window = r.window) : s.Applies (s.changeRecord r new i l) r new :=
  ⟨by simp, h ▸ ChangedWithin.changeRecord s r new i l⟩

/-- An outcome is delivered to the tables: nothing, or one record with points of its window. -/
theorem State.deliver_cases (s : State) (x : Exchange) (o : ExchangeOutcome) :
    s.SameTables (s.deliver x o).1 ∨
      ∃ r new, s.station? x.address = some r ∧ x.Makes r new ∧ s.Applies (s.deliver x o).1 r new := by
  have made {r new : StationRecord} (i : Option (Byte × Nat)) (hm : x.Makes r new) :
      s.Applies (s.changeRecord r new i false) r new := s.applies_changeRecord i false hm.window
  unfold State.deliver
  split
  · exact .inl ⟨rfl, rfl⟩
  · exact .inl ⟨rfl, rfl⟩
  · exact .inl ⟨rfl, rfl⟩
  next r hr => exact .inr ⟨r, _, hr, .missed, made none .missed⟩
  next r q hr =>
    split
    next hverb => exact .inr ⟨r, _, hr, .queried q hverb, made _ (.queried q hverb)⟩
    next hverb =>
      have hm : x.Makes r ((r.answered q.condition).advance x q) := .advanced q (.inl hverb)
      dsimp only
      split
      · exact .inr ⟨r, _, hr, hm, (made none hm).conditionReply false _⟩
      · exact .inr ⟨r, _, hr, hm, (made none hm).markRefused _ _⟩
      · exact .inr ⟨r, _, hr, hm, made none hm⟩
    next hverb =>
      have hm : x.Makes r (r.answered q.condition) := .answered _ (.inr hverb)
      dsimp only
      split
      · exact .inr ⟨r, _, hr, hm, (made none hm).conditionReply false _⟩
      all_goals exact .inr ⟨r, _, hr, hm, made none hm⟩
    all_goals exact .inl ⟨rfl, rfl⟩

/-- A learned reply of a verified station that is not in MISMATCH (R16, R127). -/
def State.Learned (s t : State) : Prop :=
  ∃ a r c, s.station? a = some r ∧ r.verified = true ∧ r.health ≠ .mismatch ∧ s.Applies t r (r.answered c)

/-- The tables stay, or a reply is learned. -/
def State.Hears (s t : State) : Prop := s.SameTables t ∨ s.Learned t

theorem State.Hears.of_same {w : State} (hs : s.SameTables w) (h : w.Hears t) : s.Hears t := by
  obtain ⟨hstations, hpoints⟩ := hs
  rcases h with ⟨hst, hpt⟩ | ⟨a, r, c, hr, hverified, hhealth, hst, hpt⟩
  · exact .inl ⟨hst.trans hstations, hpt.trans hpoints⟩
  · refine .inr ⟨a, r, c, ?_, hverified, hhealth, hstations ▸ hst, hpoints ▸ hpt⟩
    rwa [State.station?, hstations] at hr

theorem State.Hears.same_of {w : State} (h : s.Hears w) (hs : w.SameTables t) : s.Hears t := by
  obtain ⟨hstations, hpoints⟩ := hs
  rcases h with ⟨hst, hpt⟩ | ⟨a, r, c, hr, hverified, hhealth, hst, hpt⟩
  · exact .inl ⟨hstations.trans hst, hpoints.trans hpt⟩
  · exact .inr ⟨a, r, c, hr, hverified, hhealth, hstations.trans hst, hpoints ▸ hpt⟩

theorem State.overheardPair_hears (s : State) (q : Request) (r : Reply) : s.Hears (s.overheardPair q r) := by
  unfold State.overheardPair
  split
  · exact .inl ⟨rfl, rfl⟩
  next rec hrec =>
    split
    next hlearns =>
      have hgate : rec.verified = true ∧ rec.health ≠ .mismatch := by
        simp [State.learns] at hlearns
        tauto
      exact .inr ⟨_, rec, r.condition, hrec, hgate.1, hgate.2,
        (s.applies_changeRecord none true (rec.answered_window _)).conditionReply true _⟩
    next => exact .inl ⟨rfl, rfl⟩

theorem State.closeOverheard_hears (s : State) (v : Overheard) : s.Hears (s.closeOverheard v) := by
  unfold State.closeOverheard
  dsimp only
  split
  · exact .of_same (w := { s with exu.overheard := none }) ⟨rfl, rfl⟩ (State.overheardPair_hears _ _ _)
  · exact .inl ⟨rfl, rfl⟩

theorem State.setOverResult_hears (s : State) (v : Overheard) (lane : LaneId) (l : OverLane) :
    s.Hears (s.setOverResult v lane l) := by
  unfold State.setOverResult
  dsimp only
  split
  · exact s.closeOverheard_hears _
  · exact .inl ⟨rfl, rfl⟩

theorem State.overhear_hears (s : State) (lane : LaneId) (t : Option Telegram) : s.Hears (s.overhear lane t) := by
  have reply (r : Option Reply) : s.Hears (s.overhearReply lane r) := by
    unfold State.overhearReply
    split
    · exact .inl ⟨rfl, rfl⟩
    · split
      · exact .inl ⟨rfl, rfl⟩
      · split
        · exact s.setOverResult_hears _ _ _
        · exact .inl ⟨rfl, rfl⟩
  unfold State.overhear
  split
  · unfold State.overhearRequest
    split
    · exact .inl ⟨by simp, by simp⟩
    · split
      · exact .inl ⟨rfl, rfl⟩
      · next v _ _ => exact (s.closeOverheard_hears v).same_of ⟨by simp, by simp⟩
  · exact reply _
  · exact reply _

theorem State.heard_hears (s : State) (lane : LaneId) (t : Option Telegram) : s.Hears (s.heard lane t) := by
  unfold State.heard
  split
  · split
    · exact .inl ⟨by simp, by simp⟩
    all_goals exact .inl ⟨rfl, rfl⟩
  · exact s.overhear_hears lane t
  · exact .inl ⟨rfl, rfl⟩

/-! ### An attempt weighed changes no more than lane_pref (R97) -/

/-- The records of the table with other lanes preferred. -/
def State.Prefers (s t : State) : Prop :=
  ∃ p : StationRecord → LaneId, t.stations = s.stations.map (fun r => { r with lanePref := p r })

theorem State.Prefers.of_stations (h : t.stations = s.stations) : s.Prefers t :=
  ⟨StationRecord.lanePref, by simp [h]⟩

theorem State.Charges.prefers {x : Exchange} (h : s.Charges x t) : s.Prefers t := by
  cases h with
  | spared | disagreed => exact .of_stations rfl
  | blamed lane => exact .of_stations (by simp)
  | turned lane pref =>
    refine ⟨fun r => if r.address = x.address then pref else r.lanePref, ?_⟩
    simp only [State.updateStation, State.blame_stations]
    refine List.map_congr_left fun r _ => ?_
    split <;> rfl

theorem State.weighed_prefers (s : State) (x : Exchange) : s.Prefers (s.weighed x) := by
  obtain ⟨p, hp⟩ := (State.charges_charged ((s.laneOutcome .a x.partA.outcome?).laneOutcome .b x.partB.outcome?) x
    (verdict x.partA.outcome? x.partB.outcome?)).prefers
  exact ⟨p, hp.trans (by simp)⟩

theorem State.ClosesAs.prefers {w : State} {x : Exchange} {o : ExchangeOutcome} (h : s.ClosesAs x w o) :
    s.Prefers w := by
  cases h with
  | latch | mark => exact .of_stations rfl
  | reply | miss => exact s.weighed_prefers x

theorem State.ClosesAs.points {w : State} {x : Exchange} {o : ExchangeOutcome} (h : s.ClosesAs x w o) :
    w.points = s.points := by cases h <;> simp

/-! ### The records change in place -/

/-- Every record keeps its place in the table and its address, and takes its window from a record of that address. -/
def State.Evolves (s t : State) : Prop :=
  ∃ f : StationRecord → StationRecord, t.stations = s.stations.map f ∧
    ∀ q ∈ s.stations, (f q).address = q.address ∧ ∃ r ∈ s.stations, (f q).window = r.window

theorem State.Evolves.of_stations (h : t.stations = s.stations) : s.Evolves t :=
  ⟨id, by simp [h], fun q hq => ⟨rfl, q, hq, rfl⟩⟩

theorem State.Evolves.of_map (f : StationRecord → StationRecord) (h : t.stations = s.stations.map f)
    (hf : ∀ q, (f q).window = q.window) : s.Evolves t :=
  ⟨f, h, fun q hq => ⟨congrArg Window.address (hf q), q, hq, hf q⟩⟩

theorem State.Evolves.trans (h : s.Evolves t) (h' : t.Evolves u) : s.Evolves u := by
  obtain ⟨f, hf, hfq⟩ := h
  obtain ⟨g, hg, hgq⟩ := h'
  refine ⟨g ∘ f, by rw [hg, hf, List.map_map], fun q hq => ?_⟩
  have hmem : f q ∈ t.stations := by rw [hf]; exact List.mem_map_of_mem hq
  obtain ⟨haddress, r, hr, hwindow⟩ := hgq (f q) hmem
  rw [hf] at hr
  obtain ⟨p, hp, rfl⟩ := List.mem_map.1 hr
  obtain ⟨-, r, hr, hwindow'⟩ := hfq p hp
  exact ⟨haddress.trans (hfq q hq).1, r, hr, hwindow.trans hwindow'⟩

theorem State.Applies.evolves {r new : StationRecord} (h : s.Applies t r new) {a : Nat} (hr : s.station? a = some r)
    (hnew : new.window = r.window) : s.Evolves t := by
  refine ⟨_, h.stations, fun q hq => ?_⟩
  split
  next hqr => exact ⟨(congrArg Window.address hnew).trans hqr.symm, r, State.station?_mem hr, hnew⟩
  next => exact ⟨rfl, q, hq, rfl⟩

theorem State.Hears.evolves (h : s.Hears t) : s.Evolves t := by
  rcases h with hsame | ⟨a, r, c, hr, -, -, happlies⟩
  · exact .of_stations hsame.stations
  · exact happlies.evolves hr (r.answered_window c)

theorem State.Prefers.evolves (h : s.Prefers t) : s.Evolves t := by
  obtain ⟨p, hp⟩ := h
  exact .of_map _ hp fun _ => rfl

theorem State.closeExchange_stations (s : State) (x : Exchange) (o : ExchangeOutcome) :
    (s.closeExchange x o).stations = (s.deliver x o).1.stations := by
  rw [State.closeExchange_eq]
  simp [State.closed_stations]

theorem State.closeExchange_points (s : State) (x : Exchange) (o : ExchangeOutcome) :
    (s.closeExchange x o).points = (s.deliver x o).1.points := by
  rw [State.closeExchange_eq]
  simp [State.closed_points]

/-- The close of an exchange, as far as the tables go. -/
theorem State.closeExchange_cases (s : State) (x : Exchange) (o : ExchangeOutcome) :
    s.SameTables (s.closeExchange x o) ∨
      ∃ r new, s.station? x.address = some r ∧ x.Makes r new ∧ s.Applies (s.closeExchange x o) r new := by
  rcases s.deliver_cases x o with ⟨hst, hpt⟩ | ⟨r, new, hr, hmakes, hst, hpt⟩
  · exact .inl ⟨(s.closeExchange_stations x o).trans hst, (s.closeExchange_points x o).trans hpt⟩
  · exact .inr ⟨r, new, hr, hmakes, (s.closeExchange_stations x o).trans hst, by rwa [State.closeExchange_points]⟩

theorem State.closeExchange_evolves (s : State) (x : Exchange) (o : ExchangeOutcome) :
    s.Evolves (s.closeExchange x o) := by
  rcases s.closeExchange_cases x o with hsame | ⟨r, new, hr, hmakes, happlies⟩
  · exact .of_stations hsame.stations
  · exact happlies.evolves hr hmakes.window

theorem State.checkAttempt_evolves (s : State) : s.Evolves s.checkAttempt := by
  rcases s.checkAttempt_cases with he | ⟨x, -, -, he⟩
  · rw [he]; exact .of_stations rfl
  · rw [he]
    rcases s.attemptEnd_cases x with ⟨w, o, hw, hclose⟩ | ⟨-, -, hretry⟩
    · rw [hclose]; exact hw.prefers.evolves.trans (w.closeExchange_evolves x o)
    · rw [hretry]; exact (s.weighed_prefers x).evolves.trans (.of_stations (by simp))

theorem State.telegram_evolves (s : State) (lane : LaneId) (t : Option Telegram) : s.Evolves (s.telegram lane t) := by
  rcases s.telegram_cases lane t with ht | ht
  · rw [ht]
    exact (State.Evolves.of_stations (by simp)).trans (State.heard_hears (s.counted lane t) lane t).evolves
  · rw [ht]
    exact ((State.Evolves.of_stations (by simp)).trans
      (State.heard_hears ((s.counted lane t).judgeReply lane t) lane t).evolves).trans (State.checkAttempt_evolves _)

theorem State.updateStation_evolves (s : State) (a : Nat) (f : StationRecord → StationRecord)
    (h : ∀ r, (f r).window = r.window) : s.Evolves (s.updateStation a f) := by
  refine .of_map _ rfl fun q => ?_
  split
  · exact h q
  · rfl

theorem State.holdStation_evolves (s : State) (a : Nat) : s.Evolves (s.holdStation a) := by
  refine .of_map _ (State.holdStation_stations s a) fun q => ?_
  split <;> rfl

/-- With the addresses in rising order every window stays where it was. -/
theorem State.Evolves.windows (h : s.Evolves t) (hs : s.Ordered) : t.windows = s.windows := by
  obtain ⟨f, hf, hfq⟩ := h
  rw [State.windows, hf]
  refine map_windows _ _ fun q hq => ?_
  obtain ⟨haddress, r, hr, hwindow⟩ := hfq q hq
  have hra : r.address = q.address := (congrArg Window.address hwindow).symm.trans haddress
  have hrq := hs.station?_of_mem hr
  rw [hra, hs.station?_of_mem hq] at hrq
  cases hrq
  exact hwindow

/-- An address names a record. -/
theorem State.station?_isSome_iff {a : Nat} : (s.station? a).isSome ↔ ∃ r ∈ s.stations, r.address = a := by
  simp [State.station?, List.find?_isSome]

theorem State.Evolves.isSome_iff (h : s.Evolves t) (a : Nat) : (t.station? a).isSome ↔ (s.station? a).isSome := by
  obtain ⟨f, hf, hfq⟩ := h
  simp only [State.station?_isSome_iff, hf, List.mem_map, exists_exists_and_eq_and]
  exact ⟨fun ⟨q, hq, ha⟩ => ⟨q, hq, (hfq q hq).1.symm.trans ha⟩, fun ⟨q, hq, ha⟩ => ⟨q, hq, (hfq q hq).1.trans ha⟩⟩

/-! ### Retirement -/

theorem State.retireStation_none {a : Nat} (h : s.station? a = none) : s.retireStation a = s := by
  simp [State.retireStation, h]

theorem State.retireStation_stations (s : State) (a : Nat) :
    (s.retireStation a).stations = s.stations.filter (fun q => q.address ≠ a) := by
  unfold State.retireStation
  split
  next h =>
    refine (List.filter_eq_self.2 fun q hq => ?_).symm
    have hne := List.find?_eq_none.1 h q hq
    simpa using hne
  next r _ =>
    dsimp only
    split <;> simp

theorem State.retireStation_points {a : Nat} {r : StationRecord} (h : s.station? a = some r) :
    (s.retireStation a).points = (s.resetWindow r).points := by
  simp only [State.retireStation, h]
  split <;> simp

/-! ### What each effect does to the Station Table -/

/-- The Station Table is emptied, its records change in place, a record joins, or one leaves. -/
inductive State.TableStep (s : State) : State → Prop
  | cleared {u : State} (stations : u.stations = []) : s.TableStep u
  | evolved {u : State} (evolves : s.Evolves u) : s.TableStep u
  | enrolled {u : State} (o : Order) (r : StationRecord) (free : s.oru.hand = .empty) (checked : s.checkEnrol o = .ok r)
      (stations : u.stations = insertRecord r s.stations) : s.TableStep u
  | retired {u : State} (w : State) (a : Nat) (evolves : s.Evolves w)
      (stations : u.stations = w.stations.filter (fun q => q.address ≠ a)) : s.TableStep u

theorem State.TableStep.of_stations (h : t.stations = s.stations) : s.TableStep t := .evolved (.of_stations h)

theorem State.clearHeld_evolves (s : State) (a : Nat) : s.Evolves (s.clearHeld a) :=
  s.updateStation_evolves a _ fun _ => rfl

/-- An order applied under its hold: its station is retired, or its hold alone ends. -/
theorem State.applyHeld_stations (s : State) (o : Order) :
    (s.applyHeld o).stations = (s.retireStation o.station).stations ∨
      (s.applyHeld o).stations = (s.clearHeld o.station).stations := by
  unfold State.applyHeld
  split
  · exact .inl rfl
  · split
    · exact .inr (by simp [State.clearHeld, State.updateStation])
    · exact .inr rfl

theorem State.applyHeld_tableStep {w : State} (h : s.Evolves w) (o : Order) : s.TableStep (w.applyHeld o) := by
  rcases w.applyHeld_stations o with hst | hst
  · exact .retired w o.station h (hst.trans (w.retireStation_stations _))
  · exact .evolved ((h.trans (w.clearHeld_evolves o.station)).trans (.of_stations hst))

theorem State.holdOrApply_tableStep (s : State) (o : Order) : s.TableStep (s.popOrder.holdOrApply o) := by
  have hheld : s.Evolves (s.popOrder.holdStation o.station) :=
    (State.Evolves.of_stations rfl).trans (s.popOrder.holdStation_evolves o.station)
  unfold State.holdOrApply
  dsimp only
  split
  · exact State.applyHeld_tableStep hheld o
  · exact .evolved (hheld.trans (.of_stations rfl))

theorem State.abandonOrders_evolves (s : State) : s.Evolves s.abandonOrders := by
  unfold State.abandonOrders
  dsimp only
  split
  · exact .of_stations rfl
  · exact (State.Evolves.of_stations (s := s) (t := s.endClosedEntries .abandoned) rfl).trans
      ((State.clearHeld_evolves _ _).trans (.of_stations rfl))
  · exact .of_stations rfl
  · exact .of_stations (by simp)

theorem State.Effect.tableStep (e : s.Effect u) : s.TableStep u := by
  cases e with
  | powerOn | reset => exact .cleared rfl
  | beginDrain =>
    rw [State.beginDrain_eq]
    exact .evolved ((State.Evolves.of_stations (by simp [State.drainBegun])).trans (State.abandonOrders_evolves _))
  | fault | drainExpiredEnd | drainEnd => exact .evolved (.of_map (fun r => { r with held := false }) rfl fun _ => rfl)
  | haltFromFault | refuseStart | takeStart | drainExpired | finalReportWritten => exact .of_stations rfl
  | enrol o r taken checked => exact .enrolled o r taken.hand checked rfl
  | retire o | shape o => exact s.holdOrApply_tableStep o
  | holdSatisfied o => exact State.applyHeld_tableStep (.of_stations rfl) o
  | markSent | windowExpired =>
    exact .evolved ((State.Evolves.of_stations (by simp)).trans (State.checkAttempt_evolves _))
  | telegram lane t => exact .evolved (s.telegram_evolves lane t)
  | overheardWindowExpired => exact .evolved (State.setOverResult_hears _ _ _ _).evolves
  | _ => exact .of_stations (by simp)

end

end Sys2Proof.Machine

namespace Sys2Proof.Machine

section
variable {s t u : State}

/-! ### The Station Table stays sound (R1, R3) -/

/-- Two windows share a slot (R1). -/
def Window.Overlaps (w v : Window) : Prop :=
  w.firstSlot < v.firstSlot + v.slotCount ∧ v.firstSlot < w.firstSlot + w.slotCount

theorem StationRecord.overlaps_iff (r q : StationRecord) : r.overlaps q = true ↔ r.window.Overlaps q.window := by
  simp [StationRecord.overlaps, Window.Overlaps, StationRecord.window]

theorem Window.overlaps_comm {w v : Window} : w.Overlaps v ↔ v.Overlaps w := And.comm

/-- What R1 and R3 ask of the windows of the table. -/
structure WindowsSound (l : List Window) : Prop where
  size : l.length ≤ Config.maxStations
  ordered : l.Pairwise (fun w v => w.address < v.address)
  disjoint : l.Pairwise (fun w v => ¬ w.Overlaps v)
  inside : ∀ w ∈ l, 1 ≤ w.slotCount ∧ w.firstSlot + w.slotCount ≤ Config.slotCount

theorem State.stationsSound_iff : s.StationsSound ↔ WindowsSound s.windows := by
  have hdisjoint : s.stations.Pairwise (fun r q => r.overlaps q = false) ↔
      s.windows.Pairwise (fun w v => ¬ w.Overlaps v) := by
    rw [State.windows, List.pairwise_map]
    simp only [← StationRecord.overlaps_iff, Bool.not_eq_true]
  constructor
  · rintro ⟨hsize, hordered, hdisj, hinside⟩
    refine ⟨by simpa [State.windows] using hsize, s.ordered_iff.1 hordered, hdisjoint.1 hdisj, fun w hw => ?_⟩
    obtain ⟨r, hr, rfl⟩ := List.mem_map.1 hw
    exact hinside r hr
  · rintro ⟨hsize, hordered, hdisj, hinside⟩
    exact ⟨by simpa [State.windows] using hsize, s.ordered_iff.2 hordered, hdisjoint.2 hdisj,
      fun r hr => hinside r.window (List.mem_map_of_mem hr)⟩

theorem State.StationsSound.of_windows (h : s.StationsSound) (hw : t.windows = s.windows) : t.StationsSound := by
  rw [State.stationsSound_iff] at h ⊢
  rwa [hw]

theorem State.stationsSound_of_nil (h : s.stations = []) : s.StationsSound := by
  refine ⟨?_, ?_, ?_, ?_⟩ <;> simp [h]

theorem State.StationsSound.filter (h : s.StationsSound) (p : StationRecord → Bool)
    (ht : t.stations = s.stations.filter p) : t.StationsSound where
  size := by rw [ht]; exact (List.length_filter_le _ _).trans h.size
  ordered := by rw [ht]; exact h.ordered.filter _
  disjoint := by rw [ht]; exact h.disjoint.filter _
  window := fun r hr => h.window r (List.mem_of_mem_filter (ht ▸ hr))

/-! ### The tests of ENROL (R5) -/

/-- What the tests of an ENROL have found of the record that it inserts (R3, R5). -/
structure State.Enrollable (s : State) (o : Order) (r : StationRecord) : Prop where
  record : o.enrolRecord? = some r
  fresh : s.station? r.address = none
  apart : ∀ q ∈ s.stations, r.overlaps q = false
  room : s.stations.length < Config.maxStations

theorem State.checkEnrol_ok_iff {o : Order} {r : StationRecord} : s.checkEnrol o = .ok r ↔ s.Enrollable o r := by
  unfold State.checkEnrol
  constructor
  · intro h
    split at h
    · cases h
    next q hq =>
      split at h
      · cases h
      next hfresh =>
        split at h
        · cases h
        next hapart =>
          split at h
          · cases h
          next hroom =>
            cases h
            exact ⟨hq, by simpa using hfresh, by simpa using hapart, Nat.lt_of_not_le hroom⟩
  · rintro ⟨hrecord, hfresh, hapart, hroom⟩
    have hnone : s.stations.any r.overlaps = false := by simpa using hapart
    simp [hrecord, hfresh, hnone, Nat.not_le.2 hroom]

/-- The record that an ENROL describes: its running values as R4 gives them, its window inside the Point Table. -/
structure StationRecord.AsEnrolled (r : StationRecord) : Prop where
  size : 1 ≤ r.slotCount
  inside : r.firstSlot + r.slotCount ≤ Config.slotCount
  health : r.health = .unknown
  unverified : r.verified = false
  cursor : r.readCursor = 0
  free : r.held = false

theorem Order.enrolRecord?_asEnrolled {o : Order} {r : StationRecord} (h : o.enrolRecord? = some r) :
    r.AsEnrolled := by
  unfold Order.enrolRecord? at h
  split at h
  · cases h
  · dsimp only at h
    split at h
    next hranges =>
      cases h
      simp only [Bool.and_eq_true, within_eq_true_iff, decide_eq_true_eq] at hranges
      obtain ⟨⟨⟨⟨⟨⟨⟨-, -⟩, hcount, -⟩, -⟩, -⟩, -⟩, -⟩, hend⟩ := hranges
      exact ⟨hcount, by simp only [Config.slotCount]; omega, rfl, rfl, rfl, rfl⟩
    next => cases h

theorem pairwise_insertRecord {R : StationRecord → StationRecord → Prop} {r : StationRecord} {l : List StationRecord}
    (hl : l.Pairwise R) (hbefore : ∀ q ∈ l, r.address < q.address → R r q)
    (hafter : ∀ q ∈ l, ¬ r.address < q.address → R q r) (hordered : l.Pairwise (fun q p => q.address < p.address)) :
    (insertRecord r l).Pairwise R := by
  induction l with
  | nil => exact List.pairwise_singleton R r
  | cons q rest ih =>
    obtain ⟨hq, hrest⟩ := List.pairwise_cons.1 hl
    obtain ⟨hqlt, hrestlt⟩ := List.pairwise_cons.1 hordered
    unfold insertRecord
    split
    next hlt =>
      refine List.pairwise_cons.2 ⟨fun p hp => hbefore p hp ?_, hl⟩
      rcases List.mem_cons.1 hp with rfl | hp
      · exact hlt
      · exact hlt.trans (hqlt p hp)
    next hlt =>
      refine List.pairwise_cons.2 ⟨fun p hp => ?_, ih hrest (fun p hp => hbefore p (List.mem_cons_of_mem _ hp))
        (fun p hp => hafter p (List.mem_cons_of_mem _ hp)) hrestlt⟩
      rcases (mem_insertRecord r p rest).1 hp with rfl | hp
      · exact hafter q (List.mem_cons_self ..) hlt
      · exact hq p hp

theorem State.StationsSound.insert (h : s.StationsSound) {o : Order} {r : StationRecord} (hr : s.Enrollable o r)
    (ht : t.stations = insertRecord r s.stations) : t.StationsSound := by
  have hnew := Order.enrolRecord?_asEnrolled hr.record
  have hne : ∀ q ∈ s.stations, q.address ≠ r.address := by
    simpa [State.station?] using hr.fresh
  refine ⟨?_, ?_, ?_, fun q hq => ?_⟩
  · rw [ht, length_insertRecord]
    exact hr.room
  · rw [ht]
    exact pairwise_insertRecord h.ordered (fun _ _ hlt => hlt)
      (fun q hq hlt => lt_of_le_of_ne (Nat.not_lt.1 hlt) (hne q hq)) h.ordered
  · rw [ht]
    refine pairwise_insertRecord h.disjoint (fun q hq _ => hr.apart q hq) (fun q hq _ => ?_) h.ordered
    have hapart := hr.apart q hq
    rw [← Bool.not_eq_true, StationRecord.overlaps_iff] at hapart ⊢
    rwa [Window.overlaps_comm]
  · rw [ht, mem_insertRecord] at hq
    rcases hq with rfl | hq
    · exact ⟨hnew.size, hnew.inside⟩
    · exact h.window q hq

theorem State.StationsSound.effect (h : s.StationsSound) (e : s.Effect u) : u.StationsSound := by
  cases e.tableStep with
  | cleared stations => exact State.stationsSound_of_nil stations
  | evolved evolves => exact h.of_windows (evolves.windows h.ordered)
  | enrolled o r _ checked stations => exact h.insert (State.checkEnrol_ok_iff.1 checked) stations
  | retired w a evolves stations => exact (h.of_windows (evolves.windows h.ordered)).filter _ stations

end

theorem reset_stationsSound : State.reset.StationsSound :=
  ⟨by decide, List.Pairwise.nil, List.Pairwise.nil, nofun⟩

/-- Settles O58: a step changes the records in place, and ENROL and RETIRE alone insert or remove one. -/
theorem stationTableStaysSound : Obligations.StationTableStaysSound :=
  step_keeps (fun _ _ h => h.of_windows rfl) (fun _ h => h.of_windows (State.windows_of_stations (by simp)))
    fun _ _ => .effect

/-! ### The Scan Lists (R50) -/

section
variable {s t u : State}

/-- A list of addresses within its 64 entries, each naming an enrolled station (R50). -/
def State.Names (s : State) (l : List Nat) : Prop :=
  l.length ≤ Config.scanListEntries ∧ ∀ a ∈ l, (s.station? a).isSome

theorem State.listsSound_iff : s.ListsSound ↔ s.Names s.swe.active ∧ s.Names s.swe.pendingList :=
  ⟨fun h => ⟨⟨h.activeSize, h.active⟩, ⟨h.pendingSize, h.pendingList⟩⟩,
    fun h => ⟨h.1.1, h.2.1, h.1.2, h.2.2⟩⟩

theorem State.names_nil : s.Names [] := ⟨Nat.zero_le _, by simp⟩

theorem State.Names.mono {l : List Nat} (h : s.Names l) (hst : ∀ a, (s.station? a).isSome → (t.station? a).isSome) :
    t.Names l := ⟨h.1, fun a ha => hst a (h.2 a ha)⟩

/-- The lists are as they were, or one of them is empty or the other's. -/
theorem State.ListsSound.of_names (h : s.ListsSound)
    (hst : ∀ a, (s.station? a).isSome → (t.station? a).isSome)
    (hactive : t.swe.active ∈ [s.swe.active, s.swe.pendingList])
    (hpending : t.swe.pendingList ∈ [s.swe.pendingList, []]) : t.ListsSound := by
  obtain ⟨ha, hp⟩ := State.listsSound_iff.1 h
  refine State.listsSound_iff.2 ⟨?_, ?_⟩
  · rcases List.mem_pair.1 hactive with h | h <;> rw [h]
    · exact ha.mono hst
    · exact hp.mono hst
  · rcases List.mem_pair.1 hpending with h | h <;> rw [h]
    · exact hp.mono hst
    · exact State.names_nil

theorem State.ListsSound.of_evolves (h : s.ListsSound) (he : s.Evolves t) (hactive : t.swe.active = s.swe.active)
    (hpending : t.swe.pendingList = s.swe.pendingList) : t.ListsSound :=
  h.of_names (fun a => (he.isSome_iff a).2) (by simp [hactive]) (by simp [hpending])

theorem State.ListsSound.of_stations (h : s.ListsSound) (hst : t.stations = s.stations)
    (hactive : t.swe.active = s.swe.active) (hpending : t.swe.pendingList = s.swe.pendingList) : t.ListsSound :=
  h.of_evolves (.of_stations hst) hactive hpending

theorem State.retireStation_lists {a : Nat} {r : StationRecord} (h : s.station? a = some r) :
    (s.retireStation a).swe.active = s.swe.active.filter (fun b => b ≠ a) ∧
      (s.retireStation a).swe.pendingList = s.swe.pendingList.filter (fun b => b ≠ a) := by
  simp only [State.retireStation, h]
  split <;> simp

/-- A station retires and its entries leave both lists (R7, R63). -/
theorem State.ListsSound.retireStation (h : s.ListsSound) (a : Nat) : (s.retireStation a).ListsSound := by
  cases hr : s.station? a with
  | none => rwa [State.retireStation_none hr]
  | some r =>
    obtain ⟨hactive, hpending⟩ := State.retireStation_lists hr
    have leaves {l : List Nat} (hl : s.Names l) : (s.retireStation a).Names (l.filter (fun b => b ≠ a)) := by
      refine ⟨(List.length_filter_le _ _).trans hl.1, fun b hb => ?_⟩
      obtain ⟨hb, hne⟩ := List.mem_filter.1 hb
      obtain ⟨q, hq, hqb⟩ := State.station?_isSome_iff.1 (hl.2 b hb)
      refine State.station?_isSome_iff.2 ⟨q, ?_, hqb⟩
      rw [State.retireStation_stations]
      exact List.mem_filter.2 ⟨hq, by simpa [hqb] using hne⟩
    obtain ⟨ha, hp⟩ := State.listsSound_iff.1 h
    exact State.listsSound_iff.2 ⟨hactive ▸ leaves ha, hpending ▸ leaves hp⟩

theorem State.ListsSound.applyHeld (h : s.ListsSound) (o : Order) : (s.applyHeld o).ListsSound := by
  unfold State.applyHeld
  split
  · exact (h.retireStation o.station).of_stations rfl rfl rfl
  · have cleared (w : State) (hw : w.stations = s.stations) (hswe : w.swe = s.swe) :
        ((w.clearHeld o.station).answer o .done).ListsSound :=
      (h.of_stations hw (by rw [hswe]) (by rw [hswe])).of_evolves (w.clearHeld_evolves o.station) rfl rfl
    split
    · exact cleared _ (by simp) (by simp)
    · exact cleared _ rfl rfl

theorem State.ListsSound.holdOrApply (h : s.ListsSound) (o : Order) : (s.holdOrApply o).ListsSound := by
  have hheld : (s.holdStation o.station).ListsSound :=
    h.of_evolves (s.holdStation_evolves o.station) (by simp) (by simp)
  unfold State.holdOrApply
  dsimp only
  split
  · exact hheld.applyHeld o
  · exact hheld.of_stations rfl rfl rfl

/-- The tests of SCAN_ADD that an order has passed (R52). -/
theorem State.refuseScanAdd_none {o : Order} (h : s.refuseScanAdd o = none) :
    (∀ a ∈ o.scanAddresses, (s.station? a).isSome) ∧
      s.swe.pendingList.length + o.count ≤ Config.scanListEntries := by
  unfold State.refuseScanAdd at h
  split at h
  · cases h
  · split at h
    · cases h
    next hnone =>
      split at h
      · cases h
      next hroom =>
        refine ⟨fun a ha => ?_, Nat.not_lt.1 hroom⟩
        have hfound := List.findIdx?_eq_none_iff.1 hnone a ha
        simpa [Option.isSome_iff_ne_none] using hfound

theorem Order.length_scanAddresses_le (o : Order) : o.scanAddresses.length ≤ o.count := by
  simp [Order.scanAddresses]

theorem reset_listsSound : State.reset.ListsSound := State.listsSound_iff.2 ⟨State.names_nil, State.names_nil⟩

theorem State.ListsSound.effect (h : s.ListsSound) (e : s.Effect u) : u.ListsSound := by
  cases e with
  | powerOn | reset => exact State.listsSound_iff.2 ⟨State.names_nil, State.names_nil⟩
  | beginDrain =>
    rw [State.beginDrain_eq]
    exact h.of_evolves ((State.Evolves.of_stations (by simp [State.drainBegun])).trans (State.abandonOrders_evolves _))
      (by simp [State.drainBegun]) (by simp [State.drainBegun])
  | fault | drainExpiredEnd | drainEnd =>
    exact h.of_evolves (.of_map (fun r => { r with held := false }) rfl fun _ => rfl) rfl rfl
  | haltFromFault | refuseStart | takeStart | drainExpired | finalReportWritten => exact h.of_stations rfl rfl rfl
  | enrol o r =>
    refine h.of_names (fun a ha => ?_) (by simp) (by simp)
    obtain ⟨q, hq, hqa⟩ := State.station?_isSome_iff.1 ha
    exact State.station?_isSome_iff.2 ⟨q, (mem_insertRecord r q _).2 (.inr hq), hqa⟩
  | retire o | shape o => exact State.ListsSound.holdOrApply (s := s.popOrder) (h.of_stations rfl rfl rfl) o
  | holdSatisfied o => exact h.applyHeld o
  | scanBegin => exact h.of_names (fun _ => id) (by simp) (by simp)
  | scanAdd o _ checked =>
    obtain ⟨ha, hp⟩ := State.listsSound_iff.1 h
    obtain ⟨hfound, hroom⟩ := State.refuseScanAdd_none checked
    refine State.listsSound_iff.2 ⟨ha, ?_, fun a hmem => ?_⟩
    · have hcount := o.length_scanAddresses_le
      simp only [State.answer_swe, State.popOrder_swe, List.length_append]
      omega
    · rcases List.mem_append.1 hmem with hmem | hmem
      · exact hp.2 a hmem
      · exact hfound a hmem
  | scanSwap | swapped => exact h.of_names (fun _ => id) (by simp [SweepEngine.swap]) (by simp [SweepEngine.swap])
  | swapBegins =>
    refine h.of_names (fun a ha => ?_) (by simp [SweepEngine.swap]) (by simp [SweepEngine.swap])
    simpa [State.station?] using ha
  | markSent | windowExpired =>
    exact h.of_evolves ((State.Evolves.of_stations (by simp)).trans (State.checkAttempt_evolves _)) (by simp) (by simp)
  | telegram lane t => exact h.of_evolves (s.telegram_evolves lane t) (by simp) (by simp)
  | overheardWindowExpired =>
    exact h.of_evolves (State.setOverResult_hears _ _ _ _).evolves (by simp) (by simp)
  | _ => exact h.of_stations (by simp) (by simp) (by simp)

end

/-- Settles O59: a step adds to a list none but enrolled stations, and takes a station that retires out of both. -/
theorem scanListsNameEnrolledStations : Obligations.ScanListsNameEnrolledStations :=
  step_keeps (fun _ _ h => h.of_stations rfl rfl rfl) (fun _ h => h.of_stations (by simp) (by simp) (by simp))
    fun _ _ => .effect

end Sys2Proof.Machine

/-! The free slots (R25): what each effect does to the Point Table, and the SHAPE that waits under its hold (R44). -/

namespace Sys2Proof.Machine

section
variable {s t u : State}

/-! ### The slots outside all windows -/

/-- Every slot that lies in no window holds the default point (R25). -/
def FreeSlotsDefault (l : List Window) (v : Vector Point Config.slotCount) : Prop :=
  ∀ slot, slot < Config.slotCount → (∀ w ∈ l, w.Outside slot) → pointAt v slot = Point.default

theorem FreeSlotsDefault.of_changed {l : List Window} {v v' : Vector Point Config.slotCount}
    (h : FreeSlotsDefault l v) {w : Window} (hw : w ∈ l) (hv : ChangedWithin w v v') : FreeSlotsDefault l v' :=
  fun slot hslot hout => (hv slot hslot (hout w hw)).trans (h slot hslot hout)

/-- The records in order, and the free slots at the default point. -/
structure State.SlotsSound (s : State) : Prop where
  ordered : s.Ordered
  outside : FreeSlotsDefault s.windows s.points

theorem State.SlotsSound.of_windows (h : s.SlotsSound) (hw : t.windows = s.windows)
    (hp : FreeSlotsDefault s.windows t.points) : t.SlotsSound :=
  ⟨h.ordered.of_windows hw, by rwa [hw]⟩

theorem State.SlotsSound.of_same (h : s.SlotsSound) (hst : s.SameTables t) : t.SlotsSound :=
  h.of_windows (State.windows_of_stations hst.stations) (hst.points ▸ h.outside)

theorem State.SlotsSound.of_evolves (h : s.SlotsSound) (he : s.Evolves t) (hp : t.points = s.points) : t.SlotsSound :=
  h.of_windows (he.windows h.ordered) (hp ▸ h.outside)

theorem State.window_mem {a : Nat} {r : StationRecord} (h : s.station? a = some r) : r.window ∈ s.windows :=
  List.mem_map_of_mem (State.station?_mem h)

/-- Points of one station's window change. -/
theorem State.SlotsSound.of_changed (h : s.SlotsSound) {a : Nat} {r : StationRecord} (hr : s.station? a = some r)
    (hw : t.windows = s.windows) (hp : ChangedWithin r.window s.points t.points) : t.SlotsSound :=
  h.of_windows hw (h.outside.of_changed (State.window_mem hr) hp)

theorem State.SlotsSound.of_applies (h : s.SlotsSound) {a : Nat} {r new : StationRecord}
    (hr : s.station? a = some r) (hnew : new.window = r.window) (happlies : s.Applies t r new) : t.SlotsSound :=
  h.of_changed hr ((happlies.evolves hr hnew).windows h.ordered) happlies.points

theorem State.SlotsSound.of_hears (h : s.SlotsSound) (hears : s.Hears t) : t.SlotsSound := by
  rcases hears with hsame | ⟨a, r, c, hr, -, -, happlies⟩
  · exact h.of_same hsame
  · exact h.of_applies hr (r.answered_window c) happlies

theorem State.SlotsSound.closeExchange (h : s.SlotsSound) (x : Exchange) (o : ExchangeOutcome) :
    (s.closeExchange x o).SlotsSound := by
  rcases s.closeExchange_cases x o with hsame | ⟨r, new, hr, hmakes, happlies⟩
  · exact h.of_same hsame
  · exact h.of_applies hr hmakes.window happlies

theorem State.SlotsSound.checkAttempt (h : s.SlotsSound) : s.checkAttempt.SlotsSound := by
  rcases s.checkAttempt_cases with he | ⟨x, -, -, he⟩
  · rwa [he]
  · rw [he]
    rcases s.attemptEnd_cases x with ⟨w, o, hw, hclose⟩ | ⟨-, -, hretry⟩
    · rw [hclose]
      exact (h.of_evolves hw.prefers.evolves hw.points).closeExchange x o
    · rw [hretry]
      exact h.of_evolves ((s.weighed_prefers x).evolves.trans (.of_stations (by simp))) (by simp)

theorem State.SlotsSound.telegram (h : s.SlotsSound) (lane : LaneId) (t : Option Telegram) :
    (s.telegram lane t).SlotsSound := by
  rcases s.telegram_cases lane t with ht | ht
  · rw [ht]
    exact State.SlotsSound.of_hears (h.of_same ⟨by simp, by simp⟩) (State.heard_hears (s.counted lane t) lane t)
  · rw [ht]
    have hears := State.heard_hears ((s.counted lane t).judgeReply lane t) lane t
    exact (State.SlotsSound.of_hears (h.of_same ⟨by simp, by simp⟩) hears).checkAttempt

/-! ### Orders that act on points -/

theorem State.resetWindow_points (s : State) (r : StationRecord) {slot : Nat} (hslot : slot < Config.slotCount) :
    r.window.Outside slot ∧ pointAt (s.resetWindow r).points slot = pointAt s.points slot ∨
      ¬ r.window.Outside slot ∧ pointAt (s.resetWindow r).points slot = Point.default := by
  have hat : pointAt (s.resetWindow r).points slot =
      if r.firstSlot ≤ slot ∧ slot < r.firstSlot + r.slotCount then Point.default else pointAt s.points slot :=
    updateWindow_at _ _ _ _ _ hslot
  simp only [Window.Outside, StationRecord.window]
  by_cases hin : r.firstSlot ≤ slot ∧ slot < r.firstSlot + r.slotCount
  · rw [if_pos hin] at hat
    exact .inr ⟨by omega, hat⟩
  · rw [if_neg hin] at hat
    exact .inl ⟨by omega, hat⟩

theorem State.SlotsSound.retireStation (h : s.SlotsSound) (a : Nat) : (s.retireStation a).SlotsSound := by
  cases hr : s.station? a with
  | none => rwa [State.retireStation_none hr]
  | some r =>
    refine ⟨?_, fun slot hslot hout => ?_⟩
    · rw [State.Ordered, State.retireStation_stations]
      exact h.ordered.filter _
    · rw [State.retireStation_points hr]
      rcases s.resetWindow_points r hslot with ⟨hr', hkept⟩ | ⟨-, hdefault⟩
      · rw [hkept]
        refine h.outside slot hslot fun w hw => ?_
        obtain ⟨q, hq, rfl⟩ := List.mem_map.1 hw
        by_cases hqa : q.address = a
        · have hsame := h.ordered.station?_of_mem hq
          rw [hqa, hr] at hsame
          cases hsame
          exact hr'
        · refine hout q.window (List.mem_map_of_mem ?_)
          rw [State.retireStation_stations]
          exact List.mem_filter.2 ⟨hq, by simpa using hqa⟩
      · exact hdefault

theorem State.SlotsSound.enrolRecord (h : s.SlotsSound) {o : Order} {r : StationRecord} (hr : s.Enrollable o r) :
    (s.enrolRecord r).SlotsSound := by
  have hne : ∀ q ∈ s.stations, q.address ≠ r.address := by simpa [State.station?] using hr.fresh
  refine ⟨?_, fun slot hslot hout => ?_⟩
  · exact pairwise_insertRecord h.ordered (fun _ _ hlt => hlt)
      (fun q hq hlt => lt_of_le_of_ne (Nat.not_lt.1 hlt) (hne q hq)) h.ordered
  · have hmem {q : StationRecord} (hq : q = r ∨ q ∈ s.stations) : q.window.Outside slot :=
      hout q.window (List.mem_map_of_mem ((mem_insertRecord r q _).2 hq))
    rcases s.resetWindow_points r hslot with ⟨-, hkept⟩ | ⟨hnot, -⟩
    case inr => exact absurd (hmem (.inl rfl)) hnot
    refine hkept.trans (h.outside slot hslot fun w hw => ?_)
    obtain ⟨q, hq, rfl⟩ := List.mem_map.1 hw
    exact hmem (.inr hq)

/-- The points that a SHAPE or a TAKE_TOTALS names lie in its station's window (R44, R48). -/
theorem ChangedWithin.named (f : Point → Point) (v : Vector Point Config.slotCount) (r : StationRecord)
    {first count : Nat} (h : first + count ≤ r.slotCount) :
    ChangedWithin r.window v (Machine.updateWindow f (r.firstSlot + first) count v) :=
  .updateWindow f v fun slot hlow hhigh hout => by
    simp only [Window.Outside, StationRecord.window] at hout
    omega

theorem State.SlotsSound.applyShape (h : s.SlotsSound) (o : Order) (c : Conversion)
    (hfits : ∀ r, s.station? o.station = some r → o.first + o.repeats < r.slotCount) : (s.applyShape o c).SlotsSound := by
  unfold State.applyShape
  split
  · exact h
  next r hr => exact h.of_changed hr rfl (.named _ _ r (hfits r hr))

theorem State.SlotsSound.applyHeld (h : s.SlotsSound) (o : Order)
    (hfits : o.kind? ≠ some .retire → ∀ r, s.station? o.station = some r → o.first + o.repeats < r.slotCount) :
    (s.applyHeld o).SlotsSound := by
  unfold State.applyHeld
  split
  · exact (h.retireStation o.station).of_same ⟨rfl, rfl⟩
  next hkind =>
    split
    next c _ =>
      exact (h.applyShape o c (hfits hkind)).of_evolves
        ((State.clearHeld_evolves _ o.station).trans (.of_stations rfl)) rfl
    next => exact h.of_evolves ((s.clearHeld_evolves o.station).trans (.of_stations rfl)) rfl

/-- A record found after the table has changed in place has the window of the one found before. -/
theorem State.window_of_station? (h : s.Ordered) {a : Nat} {r : StationRecord} (hw : r.window ∈ s.windows)
    (ha : r.address = a) : ∃ q, s.station? a = some q ∧ q.window = r.window := by
  obtain ⟨q, hq, hqr⟩ := List.mem_map.1 hw
  have haddress : q.address = a := (congrArg Window.address hqr).trans ha
  exact ⟨q, haddress ▸ h.station?_of_mem hq, hqr⟩

theorem State.SlotsSound.holdOrApply (h : s.SlotsSound) (o : Order)
    (hfits : o.kind? ≠ some .retire → ∀ r, s.station? o.station = some r → o.first + o.repeats < r.slotCount) :
    (s.holdOrApply o).SlotsSound := by
  have he := s.holdStation_evolves o.station
  have hheld : (s.holdStation o.station).SlotsSound := h.of_evolves he (by simp)
  unfold State.holdOrApply
  dsimp only
  split
  · refine hheld.applyHeld o fun hkind r hr => ?_
    obtain ⟨q, hq, hqr⟩ := State.window_of_station? h.ordered (he.windows h.ordered ▸ State.window_mem hr)
      (State.station?_address hr)
    have hcount : q.slotCount = r.slotCount := congrArg Window.slotCount hqr
    exact hcount ▸ hfits hkind q hq
  · exact hheld.of_same ⟨rfl, rfl⟩

theorem State.checkWindow_ok {o : Order} {r : StationRecord} (h : s.checkWindow o = .ok r) :
    s.station? o.station = some r ∧ o.first + o.count ≤ r.slotCount := by
  unfold State.checkWindow at h
  split at h
  · cases h
  · split at h
    · cases h
    next q hq =>
      split at h
      next hfits =>
        cases h
        exact ⟨hq, by simpa [Order.fitsWindow] using hfits⟩
      next => cases h

theorem State.refuseShape_none {o : Order} (h : s.refuseShape o = none) :
    ∃ r, s.station? o.station = some r ∧ o.first + o.repeats < r.slotCount := by
  unfold State.refuseShape at h
  split at h
  · cases h
  · split at h
    · cases h
    next r hr =>
      split at h
      next hfits => exact ⟨r, hr, hfits⟩
      next => cases h

theorem reset_slotsSound : State.reset.SlotsSound :=
  ⟨List.Pairwise.nil, fun slot hslot _ => by simp [pointAt, State.reset, hslot]⟩

theorem State.PointsSound.slots (h : s.PointsSound) : s.SlotsSound :=
  ⟨h.stations.ordered, fun slot hslot hout => h.outside slot hslot fun r hr => hout r.window (List.mem_map_of_mem hr)⟩

theorem State.SlotsSound.effect (h : s.PointsSound) (e : s.Effect u) : u.SlotsSound := by
  have hs := h.slots
  cases e with
  | powerOn | reset => exact reset_slotsSound.of_same ⟨rfl, rfl⟩
  | beginDrain =>
    rw [State.beginDrain_eq]
    exact hs.of_evolves ((State.Evolves.of_stations (by simp [State.drainBegun])).trans (State.abandonOrders_evolves _))
      (by simp [State.drainBegun])
  | fault | drainExpiredEnd | drainEnd =>
    exact hs.of_evolves (.of_map (fun r => { r with held := false }) rfl fun _ => rfl) rfl
  | haltFromFault | refuseStart | takeStart | drainExpired | finalReportWritten => exact hs.of_same ⟨rfl, rfl⟩
  | enrol o r _ checked => exact (hs.enrolRecord (State.checkEnrol_ok_iff.1 checked)).of_same ⟨rfl, rfl⟩
  | retire o taken =>
    exact State.SlotsSound.holdOrApply (s := s.popOrder) (hs.of_same ⟨rfl, rfl⟩) o fun hkind => absurd taken.kind hkind
  | shape o _ checked =>
    refine State.SlotsSound.holdOrApply (s := s.popOrder) (hs.of_same ⟨rfl, rfl⟩) o fun _ r hr => ?_
    obtain ⟨q, hq, hfits⟩ := State.refuseShape_none checked
    obtain rfl : q = r := Option.some.inj (hq.symm.trans hr)
    exact hfits
  | holdSatisfied o waiting => exact hs.applyHeld o fun hkind r hr => h.shape o r waiting hkind hr
  | takeTotals o r _ checked =>
    obtain ⟨hr, hfits⟩ := State.checkWindow_ok checked
    exact hs.of_changed hr rfl (.named _ _ r hfits)
  | markSent | windowExpired =>
    exact State.SlotsSound.checkAttempt (hs.of_same ⟨by simp, by simp⟩)
  | telegram lane t => exact hs.telegram lane t
  | overheardWindowExpired => exact hs.of_hears (State.setOverResult_hears _ _ _ _)
  | _ => exact hs.of_same ⟨by simp, by simp⟩

/-! ### The order in HOLD_WAIT -/

theorem State.applyHeld_hand (s : State) (o p : Order) : (s.applyHeld o).oru.hand ≠ .holdWait p := by
  unfold State.applyHeld
  split
  · nofun
  · split <;> nofun

/-- A RETIRE or SHAPE that stands under its hold has left the table as it was, but for the held mark. -/
theorem State.holdOrApply_holdWait {o p : Order} (h : (s.popOrder.holdOrApply o).oru.hand = .holdWait p) :
    o = p ∧ s.Evolves (s.popOrder.holdOrApply o) := by
  have hheld : s.Evolves (s.popOrder.holdStation o.station) :=
    (State.Evolves.of_stations rfl).trans (s.popOrder.holdStation_evolves o.station)
  unfold State.holdOrApply at h ⊢
  dsimp only at h ⊢
  split at h
  · exact absurd h (State.applyHeld_hand _ _ _)
  next hnot =>
    rw [if_neg hnot]
    exact ⟨Hand.holdWait.inj h, hheld.trans (.of_stations rfl)⟩

theorem State.joinQueue_hand (s : State) (o p : Order) (h : s.oru.hand = .empty) :
    (s.joinQueue o).oru.hand ≠ .holdWait p := by
  unfold State.joinQueue
  split
  · simp [h]
  · nofun

theorem State.abandonOrders_hand (s : State) (p : Order) : s.abandonOrders.oru.hand ≠ .holdWait p := by
  unfold State.abandonOrders
  dsimp only
  split
  · nofun
  · nofun
  · nofun
  next hnot _ =>
    intro hp
    exact hnot p (((State.markerCheck_settles _).hold p).1 hp)

/-- An order that stands under its hold after an effect stood there before, or is a RETIRE or SHAPE just taken in hand. -/
theorem State.Effect.holdWait (e : s.Effect u) {o : Order} (ho : u.oru.hand = .holdWait o) :
    s.oru.hand = .holdWait o ∨ (s.Takes o .retire ∧ s.refuseRetire o = none) ∨
      (s.Takes o .shape ∧ s.refuseShape o = none ∧ s.Evolves u) := by
  cases e with
  | powerOn | reset | fault | takeStart | drainExpiredEnd | drainEnd => cases ho
  | haltFromFault | refuseStart | drainExpired | finalReportWritten => exact .inl ho
  | beginDrain => exact absurd ho (State.abandonOrders_hand _ o)
  | attentionExpired => exact .inl (((State.hostAttention_settles { s with rpu.attention := .expired }).hold o).1 ho)
  | finish | enrol | scanBegin | scanAdd | scanCommit | scanSwap | takeTotals | claimHeld | claimDeferred | marker
  | handResultStaged => cases ho
  | retire p taken checked =>
    obtain ⟨rfl, -⟩ := State.holdOrApply_holdWait ho
    exact .inr (.inl ⟨taken, checked⟩)
  | shape p taken checked =>
    obtain ⟨rfl, hevolves⟩ := State.holdOrApply_holdWait ho
    exact .inr (.inr ⟨taken, checked, hevolves⟩)
  | joinQueue p taken => exact absurd ho (State.joinQueue_hand _ p o taken.hand)
  | claim p taken =>
    exact absurd ho ((State.carryOutClaim_hand s.popOrder p (by simp [State.popOrder, taken.hand])).1 o)
  | yield p => cases ((State.leaveActive_settles _ _ _).hold o).1 ho
  | holdSatisfied p => exact absurd ho (State.applyHeld_hand s p o)
  | grant g _ chosen => exact .inl (((State.grant_grants chosen).settles.hold o).1 ho)
  | markSent | windowExpired => exact .inl (((State.checkAttempt_settles_of_oru (by simp)).hold o).1 ho)
  | telegram lane t => exact .inl (((s.telegram_settles lane t).hold o).1 ho)
  | roleResultStaged d rest =>
    refine .inl ?_
    simpa using ((State.roleStaged_settles (State.stageRole d { s with msu.roleDue := rest }) d.reason).hold o).1 ho
  | windDownStaged d rest =>
    have hrole := ((State.endWindDown_settles _).hold o).1 ho
    refine .inl ?_
    simpa using ((State.roleStaged_settles (State.stageRole d { s with msu.roleDue := rest }) d.reason).hold o).1 hrole
  | _ => exact .inl (by simpa using ho)

/-- With an order in hand no station is enrolled: the windows found after an effect stood before it. -/
theorem State.TableStep.window_mem (h : s.TableStep u) (hs : s.Ordered) (hhand : s.oru.hand ≠ .empty) {r : StationRecord}
    (hr : r ∈ u.stations) : r.window ∈ s.windows := by
  cases h with
  | cleared stations => exact absurd (stations ▸ hr) List.not_mem_nil
  | evolved evolves => exact evolves.windows hs ▸ List.mem_map_of_mem hr
  | enrolled o q free => exact absurd free hhand
  | retired w a evolves stations =>
    rw [stations] at hr
    exact evolves.windows hs ▸ List.mem_map_of_mem (List.mem_of_mem_filter hr)

theorem State.Effect.shape_fits (h : s.PointsSound) (e : s.Effect u) {o : Order} {r : StationRecord}
    (hhand : u.oru.hand = .holdWait o) (hkind : o.kind? ≠ some .retire) (hr : u.station? o.station = some r) :
    o.first + o.repeats < r.slotCount := by
  have hs := h.slots.ordered
  have fits {q : StationRecord} (hq : s.station? o.station = some q) (hmem : r.window ∈ s.windows)
      (hfits : o.first + o.repeats < q.slotCount) : o.first + o.repeats < r.slotCount := by
    obtain ⟨q', hq', hqr⟩ := State.window_of_station? hs hmem (State.station?_address hr)
    obtain rfl : q = q' := Option.some.inj (hq.symm.trans hq')
    have hcount : q.slotCount = r.slotCount := congrArg Window.slotCount hqr
    exact hcount ▸ hfits
  rcases e.holdWait hhand with hwaits | ⟨taken, -⟩ | ⟨-, checked, hevolves⟩
  · have hmem := e.tableStep.window_mem hs (by simp [hwaits]) (State.station?_mem hr)
    obtain ⟨q, hq, -⟩ := State.window_of_station? hs hmem (State.station?_address hr)
    exact fits hq hmem (h.shape o q hwaits hkind hq)
  · exact absurd taken.kind hkind
  · obtain ⟨q, hq, hfits⟩ := State.refuseShape_none checked
    exact fits hq (hevolves.windows hs ▸ State.window_mem hr) hfits

theorem State.PointsSound.effect (h : s.PointsSound) (e : s.Effect u) : u.PointsSound := by
  have hslots := State.SlotsSound.effect h e
  refine ⟨h.stations.effect e, fun slot hslot hout => ?_, fun o r => e.shape_fits h⟩
  refine hslots.outside slot hslot fun w hw => ?_
  obtain ⟨r, hr, rfl⟩ := List.mem_map.1 hw
  exact hout r hr

theorem State.PointsSound.of_eq (h : s.PointsSound) (hst : t.stations = s.stations) (hp : t.points = s.points)
    (hhand : t.oru.hand = s.oru.hand) : t.PointsSound := by
  have hfind : t.station? = s.station? := by funext a; simp [State.station?, hst]
  exact ⟨h.stations.of_windows (State.windows_of_stations hst),
    by simpa [State.point, hst, hp] using h.outside, by simpa [hhand, hfind] using h.shape⟩

/-- Settles O60: only what acts on one station's points changes a point, inside that station's window, and a window
that leaves the table or enters it is reset to the default point first. -/
theorem freeSlotsHoldTheDefaultPoint : Obligations.FreeSlotsHoldTheDefaultPoint :=
  step_keeps (P := State.PointsSound) (fun _ _ h => h.of_eq rfl rfl rfl)
    (fun _ h => h.of_eq (by simp) (by simp) (by simp)) fun _ _ => .effect

theorem reset_pointsSound : State.reset.PointsSound :=
  ⟨reset_stationsSound, fun slot hslot _ => reset_slotsSound.outside slot hslot (by nofun), by nofun⟩

end

end Sys2Proof.Machine

/-! The counts and the rings in range (R90, R115, R160). -/

namespace Sys2Proof.Machine

section
variable {s t u : State}

/-! ### The lanes' fault counts (R90) -/

/-- Both lanes' fault counts are at most 15. -/
def Lanes.FaultsBounded (l : Lanes) : Prop := ∀ lane, (l.get lane).faults ≤ 15

theorem Lanes.faultsBounded_iff {l : Lanes} : l.FaultsBounded ↔ l.a.faults ≤ 15 ∧ l.b.faults ≤ 15 :=
  ⟨fun h => ⟨h .a, h .b⟩, fun ⟨ha, hb⟩ lane => by cases lane <;> assumption⟩

theorem Lanes.FaultsBounded.updateLane (h : s.lanes.FaultsBounded) (lane : LaneId)
    {f : LaneController → LaneController} (hf : ∀ c, c.faults ≤ 15 → (f c).faults ≤ 15) :
    (s.updateLane lane f).lanes.FaultsBounded := by
  rw [Lanes.faultsBounded_iff] at h ⊢
  cases lane
  · exact ⟨hf _ h.1, h.2⟩
  · exact ⟨h.1, hf _ h.2⟩

theorem Lanes.FaultsBounded.blame (h : s.lanes.FaultsBounded) (lane : LaneId) : (s.blame lane).lanes.FaultsBounded := by
  unfold State.blame
  dsimp only
  split
  · rw [State.setEvent_lanes]
    exact h.updateLane lane fun _ _ => min_le_left _ _
  · exact h.updateLane lane fun _ _ => min_le_left _ _

theorem Lanes.FaultsBounded.credit (h : s.lanes.FaultsBounded) (lane : LaneId) : (s.credit lane).lanes.FaultsBounded := by
  unfold State.credit
  split
  · exact h.updateLane lane fun _ _ => Nat.zero_le _
  · rw [State.setEvent_lanes]
    exact h.updateLane lane fun _ _ => Nat.zero_le _

theorem Lanes.FaultsBounded.laneOutcome (h : s.lanes.FaultsBounded) (lane : LaneId) (o : Option LaneOutcome) :
    (s.laneOutcome lane o).lanes.FaultsBounded := by
  unfold State.laneOutcome
  split
  · exact h
  · exact h.credit lane
  · exact h
  · exact h

theorem Lanes.FaultsBounded.charges (h : s.lanes.FaultsBounded) {x : Exchange} (hc : s.Charges x t) :
    t.lanes.FaultsBounded := by
  cases hc with
  | spared | disagreed => exact h
  | blamed lane | turned lane => exact h.blame lane

theorem Lanes.FaultsBounded.weighed (h : s.lanes.FaultsBounded) (x : Exchange) : (s.weighed x).lanes.FaultsBounded :=
  ((h.laneOutcome .a _).laneOutcome .b _).charges (State.charges_charged _ x _)

theorem Lanes.FaultsBounded.beginAttempt (h : s.lanes.FaultsBounded) (x : Exchange) (lanes : Bool × Bool) :
    (s.beginAttempt x lanes).lanes.FaultsBounded := by
  rw [Lanes.faultsBounded_iff] at h ⊢
  unfold State.beginAttempt
  refine ⟨?_, ?_⟩ <;> dsimp only <;> split <;> simp [LaneController.send, h]

theorem Lanes.FaultsBounded.checkAttempt (h : s.lanes.FaultsBounded) : s.checkAttempt.lanes.FaultsBounded := by
  rcases s.checkAttempt_cases with he | ⟨x, -, -, he⟩
  · rwa [he]
  · rw [he]
    rcases s.attemptEnd_cases x with ⟨w, o, hw, hclose⟩ | ⟨-, -, hretry⟩
    · rw [hclose, State.closeExchange_lanes]
      cases hw with
      | latch | mark => exact h
      | reply | miss => exact h.weighed x
    · rw [hretry]
      exact (h.weighed x).beginAttempt _ _

theorem Lanes.FaultsBounded.telegram (h : s.lanes.FaultsBounded) (lane : LaneId) (t : Option Telegram) :
    (s.telegram lane t).lanes.FaultsBounded := by
  have hcounted : (s.counted lane t).lanes.FaultsBounded := h.updateLane lane fun _ hc => hc
  rcases s.telegram_cases lane t with ht | ht
  · rwa [ht, State.heard_lanes]
  · rw [ht]
    exact Lanes.FaultsBounded.checkAttempt (by simpa using hcounted)

theorem Lanes.FaultsBounded.grants (h : s.lanes.FaultsBounded) (g : s.Grants t) : t.lanes.FaultsBounded := by
  cases g with
  | same => exact h
  | ended | skipped => simpa using h
  | latchAll | entry | poll | mark => exact Lanes.FaultsBounded.beginAttempt h _ _

theorem LaneController.cutOff_faults (l : LaneController) : l.cutOff.faults = l.faults := by
  unfold LaneController.cutOff
  split <;> rfl

theorem Lanes.FaultsBounded.cutExchange (h : s.lanes.FaultsBounded) : s.cutExchange.lanes.FaultsBounded := by
  rw [Lanes.faultsBounded_iff] at h ⊢
  simpa [State.cutExchange, LaneController.cutOff_faults] using h

theorem reset_faultsBounded : State.reset.lanes.FaultsBounded := Lanes.faultsBounded_iff.2 ⟨by decide, by decide⟩

theorem Lanes.FaultsBounded.effect (h : s.lanes.FaultsBounded) (e : s.Effect u) : u.lanes.FaultsBounded := by
  cases e with
  | powerOn | reset => exact reset_faultsBounded
  | takeStart => exact Lanes.faultsBounded_iff.2 ⟨Nat.zero_le _, Nat.zero_le _⟩
  | beginDrain => rw [State.beginDrain_eq]; simpa [State.drainBegun] using h
  | fault | drainEnd | refuseStart | finalReportWritten => exact h
  | haltFromFault | drainExpired | drainExpiredEnd => exact h.cutExchange
  | grant g _ chosen => exact h.grants (State.grant_grants chosen)
  | delimiterSent lane =>
    rw [State.lineActivity_lanes]
    exact h.updateLane lane fun _ hc => hc
  | delimiterHeard lane =>
    have hheard : (s.updateLane lane fun l => { l with rx := .receiving }).lanes.FaultsBounded :=
      h.updateLane lane fun _ hc => hc
    simpa [State.delimiterHeard] using hheard
  | telegramSent lane | receiver lane => exact h.updateLane lane fun _ hc => hc
  | windowOpened lane => exact h.updateLane lane fun _ hc => hc
  | markSent lane =>
    refine Lanes.FaultsBounded.checkAttempt ?_
    rw [State.setPart_lanes]
    exact h.updateLane lane fun _ hc => hc
  | telegram lane t => exact h.telegram lane t
  | windowExpired => exact Lanes.FaultsBounded.checkAttempt (by simpa using h)
  | _ => simpa using h

/-! ### The takeover shift (R115) -/

theorem shiftMore_le (n : Nat) : shiftMore n ≤ 3 := min_le_left _ _

theorem State.hostAttention_shift (h : s.msu.shift ≤ 3) : s.hostAttention.msu.shift ≤ 3 := by
  unfold State.hostAttention
  split
  · exact h
  · simpa using shiftMore_le _
  · simpa using shiftMore_le _

theorem State.carryOutClaim_shift (s : State) (o : Order) : (s.carryOutClaim o).msu.shift ≤ 3 := by
  unfold State.carryOutClaim
  dsimp only
  split <;> simp

theorem State.endWindDown_shift (h : s.msu.shift ≤ 3) : s.endWindDown.msu.shift ≤ 3 := by
  unfold State.endWindDown
  dsimp only
  split
  · split
    · exact State.carryOutClaim_shift _ _
    · exact h
  · exact h

theorem State.Effect.shift (e : s.Effect u) (h : s.msu.shift ≤ 3) : u.msu.shift ≤ 3 := by
  cases e with
  | powerOn | reset | takeStart | claimHeld => exact Nat.zero_le 3
  | beginDrain => rw [State.beginDrain_eq]; simpa [State.drainBegun] using h
  | fault | drainEnd | refuseStart | finalReportWritten | haltFromFault | drainExpired | drainExpiredEnd => exact h
  | attentionExpired => exact State.hostAttention_shift h
  | claim o => exact State.carryOutClaim_shift _ o
  | windDownStaged => exact State.endWindDown_shift (by simpa using h)
  | _ => simpa using h

theorem State.countsSound_iff : s.CountsSound ↔ s.lanes.FaultsBounded ∧ s.msu.shift ≤ 3 :=
  ⟨fun ⟨ha, hb, hshift⟩ => ⟨Lanes.faultsBounded_iff.2 ⟨ha, hb⟩, hshift⟩,
    fun ⟨hlanes, hshift⟩ => ⟨hlanes .a, hlanes .b, hshift⟩⟩

theorem reset_countsSound : State.reset.CountsSound := State.countsSound_iff.2 ⟨reset_faultsBounded, by decide⟩

theorem step_keeps_countsSound (s t : State) : s.CountsSound → step s = .next t → t.CountsSound := by
  simp only [State.countsSound_iff]
  exact step_keeps (P := fun s => s.lanes.FaultsBounded ∧ s.msu.shift ≤ 3) (fun _ _ h => h)
    (fun _ h => by simpa using h) (fun _ _ h e => ⟨h.1.effect e, e.shift h.2⟩) (s := s) (t := t)

/-! ### The rings (R160) -/

/-- The write of the head's record, or of the bulk data ahead of it, is in progress (R167). -/
def State.WritesHead (s : State) : Prop :=
  ∃ address data, s.rpu.writePath = some (.bulk address data) ∨ s.rpu.writePath = some (.record address data)

/-- The results written and not released fit their ring, with room for the record being written. -/
structure State.ResultsFit (s : State) : Prop where
  held : (s.rpu.resultsWritten - s.xpt.hostBlock.resultsReleased).toNat ≤ s.dir.resultSize
  room : s.WritesHead → s.ringRoom = true

/-- The orders posted and not taken fit their ring, and a fetch takes no more than they. -/
structure State.OrdersFit (s : State) : Prop where
  posted : (s.xpt.hostBlock.ordersPosted - s.xpt.ordersTaken).toNat ≤ s.dir.orderSize
  fetch : ∀ address k, s.xpt.readPath = some (.orderFetch address k) →
    k ≤ (s.xpt.hostBlock.ordersPosted - s.xpt.ordersTaken).toNat

theorem State.ringRoom_iff :
    s.ringRoom = true ↔ (s.rpu.resultsWritten - s.xpt.hostBlock.resultsReleased).toNat < s.dir.resultSize := by
  simp [State.ringRoom]

theorem State.ringsSound_iff : s.RingsSound ↔ s.ResultsFit ∧ s.OrdersFit := by
  constructor
  · rintro ⟨results, bulk, record, orders, fetch⟩
    refine ⟨⟨results, ?_⟩, ⟨orders, fetch⟩⟩
    rintro ⟨address, data, h | h⟩
    · exact State.ringRoom_iff.2 (bulk address data h)
    · exact State.ringRoom_iff.2 (record address data h)
  · rintro ⟨⟨held, room⟩, ⟨posted, fetch⟩⟩
    exact ⟨held, fun address data h => State.ringRoom_iff.1 (room ⟨address, data, .inl h⟩),
      fun address data h => State.ringRoom_iff.1 (room ⟨address, data, .inr h⟩), posted, fetch⟩

theorem State.WritesHead.of_eq (hw : t.rpu.writePath = s.rpu.writePath) (h : t.WritesHead) : s.WritesHead := by
  rwa [State.WritesHead, ← hw]

theorem State.not_writesHead (h : ∀ address data, t.rpu.writePath ≠ some (.bulk address data) ∧
    t.rpu.writePath ≠ some (.record address data)) : ¬ t.WritesHead := by
  rintro ⟨address, data, hw | hw⟩
  · exact (h address data).1 hw
  · exact (h address data).2 hw

theorem State.ResultsFit.of_eq (h : s.ResultsFit) (hx : t.xpt.directory = s.xpt.directory)
    (hb : t.xpt.hostBlock = s.xpt.hostBlock) (hr : t.rpu.resultsWritten = s.rpu.resultsWritten)
    (hw : t.WritesHead → s.WritesHead) : t.ResultsFit := by
  have hroom : t.ringRoom = s.ringRoom := by rw [State.ringRoom, State.ringRoom, State.dir, State.dir, hx, hb, hr]
  exact ⟨by simpa [State.dir, hx, hb, hr] using h.held, fun ht => hroom ▸ h.room (hw ht)⟩

theorem State.OrdersFit.of_eq (h : s.OrdersFit) (hd : t.xpt.directory = s.xpt.directory)
    (hb : t.xpt.hostBlock = s.xpt.hostBlock) (ho : t.xpt.ordersTaken = s.xpt.ordersTaken)
    (hp : t.xpt.readPath = s.xpt.readPath) : t.OrdersFit :=
  ⟨by simpa [State.dir, hd, hb, ho] using h.posted, by simpa [hb, ho, hp] using h.fetch⟩

/-- The read path serves something other than an order fetch. -/
theorem State.OrdersFit.of_path (h : s.OrdersFit) (hd : t.xpt.directory = s.xpt.directory)
    (hb : t.xpt.hostBlock = s.xpt.hostBlock) (ho : t.xpt.ordersTaken = s.xpt.ordersTaken)
    (hp : ∀ address k, t.xpt.readPath ≠ some (.orderFetch address k)) : t.OrdersFit :=
  ⟨by simpa [State.dir, hd, hb, ho] using h.posted, fun address k hk => absurd hk (hp address k)⟩

theorem State.RingsSound.of_eq (h : s.RingsSound) (hx : t.xpt = s.xpt)
    (hr : t.rpu.resultsWritten = s.rpu.resultsWritten) (hw : t.rpu.writePath = s.rpu.writePath) : t.RingsSound := by
  rw [State.ringsSound_iff] at h ⊢
  exact ⟨h.1.of_eq (by rw [hx]) (by rw [hx]) hr (.of_eq hw),
    h.2.of_eq (by rw [hx]) (by rw [hx]) (by rw [hx]) (by rw [hx])⟩

/-- A record written takes the room it was begun with. -/
theorem toNat_succ_sub_le {w released : Word} {n : Nat} (h : (w - released).toNat < n) :
    (w + 1 - released).toNat ≤ n := by
  bv_omega

/-- Releasing results that have been written leaves no more to release. -/
theorem toNat_sub_of_released {w released now : Word} (h : (now - released).toNat ≤ (w - released).toNat) :
    (w - now).toNat ≤ (w - released).toNat := by
  bv_omega

/-- Taking orders that have been posted leaves no more to take. -/
theorem toNat_sub_of_taken {posted taken : Word} {k : Nat} (h : k ≤ (posted - taken).toNat) :
    (posted - (taken + BitVec.ofNat 32 k)).toNat ≤ (posted - taken).toNat := by
  bv_omega

theorem State.ResultsFit.hostBlockTaken (h : s.ResultsFit) {b : HostBlock} {p : Option ReadAccess}
    (counts : s.CountsWithin b) :
    ({ s with xpt.hostBlock := b, xpt.readPath := p } : State).ResultsFit := by
  obtain ⟨-, hreleased, -⟩ := counts
  have hle := toNat_sub_of_released hreleased
  exact ⟨hle.trans h.held, fun hw => State.ringRoom_iff.2 (hle.trans_lt (State.ringRoom_iff.1 (h.room hw)))⟩

theorem State.ResultsFit.of_room (h : s.ResultsFit) {w : Option WriteAccess} (room : w.isSome → s.ringRoom = true) :
    ({ s with rpu.writePath := w } : State).ResultsFit := by
  refine ⟨h.held, ?_⟩
  rintro ⟨address, data, hw⟩
  rcases hw with hw | hw
  · exact room (Option.isSome_of_eq_some hw)
  · exact room (Option.isSome_of_eq_some hw)

/-- With the counts, the paths and the rings as START takes them. -/
theorem State.ringsSound_takeStart {base : Quad} {d : Directory} {b : HostBlock} (counts : startCountsOk d b = true) :
    (s.takeStart base d b).RingsSound := by
  simp only [startCountsOk, Bool.and_eq_true, decide_eq_true_eq] at counts
  obtain ⟨⟨hposted, hreleased⟩, -⟩ := counts
  refine State.ringsSound_iff.2 ⟨⟨?_, ?_⟩, ⟨?_, nofun⟩⟩
  · change ((0 : Word) - b.resultsReleased).toNat ≤ d.resultSize
    simp [hreleased]
  · rintro ⟨_, _, hw | hw⟩
    · cases hw
    · cases hw
  · change (b.ordersPosted - 0).toNat ≤ d.orderSize
    simpa using hposted

theorem reset_ringsSound : State.reset.RingsSound := ⟨by decide, nofun, nofun, by decide, nofun⟩

theorem State.RingsSound.effect (h : s.RingsSound) (e : s.Effect u) : u.RingsSound := by
  obtain ⟨hr, ho⟩ := State.ringsSound_iff.1 h
  have read (hx : ∀ address k, u.xpt.readPath ≠ some (.orderFetch address k)) (hd : u.xpt.directory = s.xpt.directory)
      (hb : u.xpt.hostBlock = s.xpt.hostBlock) (ht : u.xpt.ordersTaken = s.xpt.ordersTaken)
      (hw : u.rpu.resultsWritten = s.rpu.resultsWritten) (hp : u.rpu.writePath = s.rpu.writePath) : u.RingsSound :=
    State.ringsSound_iff.2 ⟨hr.of_eq hd hb hw (.of_eq hp), ho.of_path hd hb ht hx⟩
  cases e with
  | powerOn | reset => exact reset_ringsSound.of_eq rfl rfl rfl
  | start | directoryPassed | refuseStart | hostBlockReadBegin | supplyEntryReadBegin | supplyEntryTaken =>
    exact read nofun rfl rfl rfl rfl rfl
  | takeStart _ _ _ _ counts => exact State.ringsSound_takeStart counts
  | fault =>
    exact State.ringsSound_iff.2 ⟨hr.of_eq rfl rfl rfl (absurd · (State.not_writesHead fun _ _ => ⟨nofun, nofun⟩)),
      ho.of_path rfl rfl rfl nofun⟩
  | hostBlockTaken b _ _ _ counts =>
    exact State.ringsSound_iff.2 ⟨hr.hostBlockTaken counts, ⟨counts.1, nofun⟩⟩
  | orderFetchBegin =>
    refine State.ringsSound_iff.2 ⟨hr.of_eq rfl rfl rfl id, ⟨ho.posted, ?_⟩⟩
    rintro _ _ ⟨⟩
    exact (min_le_right _ _).trans (min_le_left _ _)
  | orderFetchDone address k data _ reading =>
    refine State.ringsSound_iff.2 ⟨hr.of_eq (by simp) (by simp) (by simp) (.of_eq (by simp)), ⟨?_, by simp⟩⟩
    have htaken := toNat_sub_of_taken (ho.fetch address k reading)
    simpa [State.dir] using htaken.trans ho.posted
  | writeBegin w room => exact State.ringsSound_iff.2 ⟨hr.of_room fun _ => room, ho.of_eq rfl rfl rfl rfl⟩
  | bulkWritten address data _ writing =>
    exact State.ringsSound_iff.2 ⟨hr.of_room fun _ => hr.room ⟨address, data, .inl writing⟩, ho.of_eq rfl rfl rfl rfl⟩
  | bulkAbandoned => exact State.ringsSound_iff.2 ⟨hr.of_room nofun, ho.of_eq rfl rfl rfl rfl⟩
  | recordWritten address data _ _ _ writing =>
    have hroom := State.ringRoom_iff.1 (hr.room ⟨address, data, .inr writing⟩)
    refine State.ringsSound_iff.2 ⟨⟨?_, ?_⟩, ho.of_eq (by simp) (by simp) (by simp) (by simp)⟩
    · simpa [State.dir] using toNat_succ_sub_le hroom
    · exact (absurd · (State.not_writesHead fun _ _ => by simp))
  | reportBegin | reportWritten | finalReportWritten =>
    exact State.ringsSound_iff.2 ⟨hr.of_eq rfl rfl rfl (absurd · (State.not_writesHead fun _ _ => ⟨nofun, nofun⟩)),
      ho.of_eq rfl rfl rfl rfl⟩
  | readWanted => exact State.ringsSound_iff.2 ⟨hr.of_eq rfl rfl rfl id, ho.of_eq rfl rfl rfl rfl⟩
  | beginDrain =>
    exact h.of_eq (by simp [State.beginDrain_eq, State.drainBegun]) (by simp [State.beginDrain_eq, State.drainBegun])
      (by simp [State.beginDrain_eq, State.drainBegun])
  | haltFromFault | drainExpired | drainExpiredEnd | drainEnd => exact h.of_eq rfl rfl rfl
  | _ => exact h.of_eq (by simp) (by simp) (by simp)

theorem step_keeps_ringsSound : ∀ s t : State, s.RingsSound → step s = .next t → t.RingsSound :=
  step_keeps (P := State.RingsSound) (fun _ _ h => h.of_eq rfl rfl rfl)
    (fun _ h => h.of_eq (by simp) (by simp) (by simp)) fun _ _ h e => h.effect e

end

end Sys2Proof.Machine

/-! Holds (R8, R134, R155): what each effect does to the held marks and to the order in HOLD_WAIT. -/

namespace Sys2Proof.Machine

section
variable {s t u : State}

/-! ### The held marks -/

/-- Records changed in place are found as they were, and changed. -/
theorem State.station?_of_map {f : StationRecord → StationRecord} (ht : t.stations = s.stations.map f)
    (hf : ∀ q ∈ s.stations, (f q).address = q.address) (a : Nat) : t.station? a = (s.station? a).map f := by
  have go : ∀ l : List StationRecord, (∀ q ∈ l, (f q).address = q.address) →
      (l.map f).find? (fun q => q.address = a) = (l.find? (fun q => q.address = a)).map f := by
    intro l hl
    rw [List.find?_map]
    congr 1
    refine List.find?_congr fun q hq => ?_
    simp [hl q hq]
  rw [State.station?, ht]
  exact go _ hf

/-- The held marks stay with their addresses. -/
structure State.SameHolds (s t : State) : Prop where
  held : ∀ q ∈ t.stations, q.held = true → ∃ r ∈ s.stations, r.held = true ∧ r.address = q.address
  found : ∀ a q, t.station? a = some q → ∃ r, s.station? a = some r ∧ r.held = q.held

theorem State.SameHolds.of_stations (h : t.stations = s.stations) : s.SameHolds t :=
  ⟨fun q hq hheld => ⟨q, h ▸ hq, hheld, rfl⟩, fun a q hq => ⟨q, by rwa [State.station?, ← h], rfl⟩⟩

theorem State.SameHolds.trans (h : s.SameHolds t) (h' : t.SameHolds u) : s.SameHolds u := by
  refine ⟨fun q hq hheld => ?_, fun a q hq => ?_⟩
  · obtain ⟨r, hr, hr', hrq⟩ := h'.held q hq hheld
    obtain ⟨p, hp, hp', hpr⟩ := h.held r hr hr'
    exact ⟨p, hp, hp', hpr.trans hrq⟩
  · obtain ⟨r, hr, hrq⟩ := h'.found a q hq
    obtain ⟨p, hp, hpr⟩ := h.found a r hr
    exact ⟨p, hp, hpr.trans hrq⟩

theorem State.SameHolds.of_map {f : StationRecord → StationRecord} (ht : t.stations = s.stations.map f)
    (hf : ∀ q, (f q).address = q.address ∧ (f q).held = q.held) : s.SameHolds t := by
  refine ⟨fun q hq hheld => ?_, fun a q hq => ?_⟩
  · rw [ht] at hq
    obtain ⟨r, hr, rfl⟩ := List.mem_map.1 hq
    exact ⟨r, hr, (hf r).2 ▸ hheld, (hf r).1.symm⟩
  · rw [State.station?_of_map ht (fun r _ => (hf r).1), Option.map_eq_some_iff] at hq
    obtain ⟨r, hr, rfl⟩ := hq
    exact ⟨r, hr, (hf r).2.symm⟩

theorem Exchange.Makes.held {x : Exchange} {r new : StationRecord} (h : x.Makes r new) : new.held = r.held := by
  cases h with
  | missed => rfl
  | queried q =>
    unfold StationRecord.queried
    dsimp only
    split
    · split <;> rfl
    all_goals rfl
  | answered c => rfl
  | advanced q =>
    unfold StationRecord.advance
    split <;> rfl

theorem State.Applies.sameHolds {r new : StationRecord} (h : s.Applies t r new) {a : Nat} (hr : s.station? a = some r)
    (haddress : new.address = r.address) (hheld : new.held = r.held) : s.SameHolds t := by
  refine ⟨fun q hq hq' => ?_, fun b q hq => ?_⟩
  · rw [h.stations] at hq
    obtain ⟨p, hp, rfl⟩ := List.mem_map.1 hq
    split at hq'
    next hpr =>
      rw [if_pos hpr]
      exact ⟨r, State.station?_mem hr, hheld ▸ hq', haddress.symm⟩
    next hpr =>
      rw [if_neg hpr]
      exact ⟨p, hp, hq', rfl⟩
  · have hkept : ∀ p ∈ s.stations, (if p.address = r.address then new else p).address = p.address := by
      intro p _
      split
      next hpr => exact haddress.trans hpr.symm
      next => rfl
    rw [State.station?_of_map h.stations hkept, Option.map_eq_some_iff] at hq
    obtain ⟨p, hp, rfl⟩ := hq
    refine ⟨p, hp, ?_⟩
    split
    next hpr =>
      have hab : b = a := (State.station?_address hp).symm.trans (hpr.trans (State.station?_address hr))
      rw [hab, hr] at hp
      exact (Option.some.inj hp) ▸ hheld.symm
    next => rfl

theorem State.Hears.sameHolds (h : s.Hears t) : s.SameHolds t := by
  rcases h with hsame | ⟨a, r, c, hr, -, -, happlies⟩
  · exact .of_stations hsame.stations
  · exact happlies.sameHolds hr rfl rfl

theorem State.Prefers.sameHolds (h : s.Prefers t) : s.SameHolds t := by
  obtain ⟨p, hp⟩ := h
  exact .of_map hp fun _ => ⟨rfl, rfl⟩

theorem State.closeExchange_sameHolds (s : State) (x : Exchange) (o : ExchangeOutcome) :
    s.SameHolds (s.closeExchange x o) := by
  rcases s.closeExchange_cases x o with hsame | ⟨r, new, hr, hmakes, happlies⟩
  · exact .of_stations hsame.stations
  · exact happlies.sameHolds hr (congrArg Window.address hmakes.window) hmakes.held

theorem State.checkAttempt_sameHolds (s : State) : s.SameHolds s.checkAttempt := by
  rcases s.checkAttempt_cases with he | ⟨x, -, -, he⟩
  · rw [he]; exact .of_stations rfl
  · rw [he]
    rcases s.attemptEnd_cases x with ⟨w, o, hw, hclose⟩ | ⟨-, -, hretry⟩
    · rw [hclose]; exact hw.prefers.sameHolds.trans (w.closeExchange_sameHolds x o)
    · rw [hretry]; exact (s.weighed_prefers x).sameHolds.trans (.of_stations (by simp))

theorem State.telegram_sameHolds (s : State) (lane : LaneId) (t : Option Telegram) :
    s.SameHolds (s.telegram lane t) := by
  rcases s.telegram_cases lane t with ht | ht
  · rw [ht]
    exact (State.SameHolds.of_stations (by simp)).trans (State.heard_hears (s.counted lane t) lane t).sameHolds
  · rw [ht]
    exact ((State.SameHolds.of_stations (by simp)).trans
      (State.heard_hears ((s.counted lane t).judgeReply lane t) lane t).sameHolds).trans (State.checkAttempt_sameHolds _)

/-! ### What each effect does to a hold -/

/-- How the held marks and the order in HOLD_WAIT change together (R8, R138, R155, R185). -/
inductive State.HoldStep (s : State) : State → Prop
  | same {u : State} (holds : s.SameHolds u) (hand : ∀ o, u.oru.hand = .holdWait o ↔ s.oru.hand = .holdWait o) :
      s.HoldStep u
  | cleared {u : State} (held : ∀ q ∈ u.stations, q.held = false) (hand : ∀ o, u.oru.hand ≠ .holdWait o) : s.HoldStep u
  | started {u : State} (halted : s.ctl.exchangeState = .halted) (stations : u.stations = s.stations)
      (hand : ∀ o, u.oru.hand ≠ .holdWait o) : s.HoldStep u
  | released {u : State} {c : Completed} (completed : c ∈ s.oru.completion) (own : c.fromHand = true)
      (stations : u.stations = s.stations) (hand : ∀ o, u.oru.hand ≠ .holdWait o) : s.HoldStep u
  | enrolled {u : State} (free : s.oru.hand = .empty) (r : StationRecord) (unheld : r.held = false)
      (stations : u.stations = insertRecord r s.stations) (hand : ∀ o, u.oru.hand ≠ .holdWait o) : s.HoldStep u
  | taken {u : State} (o : Order) (free : s.oru.hand = .empty) (stations : u.stations = (s.holdStation o.station).stations)
      (hand : u.oru.hand = .holdWait o) : s.HoldStep u
  | ended {u : State} (o : Order) (waited : s.oru.hand = .empty ∨ s.oru.hand = .holdWait o)
      (held : ∀ q ∈ u.stations, q.held = true → q.address ≠ o.station ∧ ∃ r ∈ s.stations,
        r.held = true ∧ r.address = q.address)
      (hand : ∀ o, u.oru.hand ≠ .holdWait o) : s.HoldStep u

/-- An order applied under its hold leaves no record of its station held. -/
theorem State.applyHeld_held (s : State) (o : Order) :
    ∀ q ∈ (s.applyHeld o).stations, q.held = true → q.address ≠ o.station ∧ q ∈ s.stations := by
  intro q hq hheld
  rcases s.applyHeld_stations o with hst | hst
  · rw [hst, State.retireStation_stations, List.mem_filter] at hq
    exact ⟨by simpa using hq.2, hq.1⟩
  · rw [hst] at hq
    obtain ⟨r, hr, rfl⟩ := List.mem_map.1 hq
    split at hheld
    next => cases hheld
    next hne =>
      rw [if_neg hne]
      exact ⟨hne, hr⟩

theorem State.holdOrApply_holdStep {o : Order} (free : s.oru.hand = .empty) : s.HoldStep (s.popOrder.holdOrApply o) := by
  unfold State.holdOrApply
  dsimp only
  split
  · refine .ended o (.inl free) (fun q hq hheld => ?_) (State.applyHeld_hand _ o)
    obtain ⟨hne, hmem⟩ := State.applyHeld_held _ o q hq hheld
    refine ⟨hne, q, ?_, hheld, rfl⟩
    rw [State.holdStation_stations] at hmem
    obtain ⟨r, hr, hrq⟩ := List.mem_map.1 hmem
    by_cases hro : r.address = o.station
    · rw [if_pos hro] at hrq
      exact absurd (congrArg StationRecord.address hrq.symm |>.trans hro) hne
    · rw [if_neg hro] at hrq
      exact hrq ▸ hr
  · exact .taken o free (by simp) rfl

theorem State.abandonOrders_holdStep (h : t.stations = s.stations) (horu : t.oru = s.oru) :
    s.HoldStep t.abandonOrders := by
  have hhand (o : Order) : t.abandonOrders.oru.hand ≠ .holdWait o := State.abandonOrders_hand t o
  cases hs : s.oru.hand with
  | holdWait o =>
    refine .ended o (.inr hs) (fun q hq hheld => ?_) hhand
    have hst : t.abandonOrders.stations = (t.clearHeld o.station).stations := by
      simp [State.abandonOrders, horu, hs, State.clearHeld, State.updateStation]
    rw [hst] at hq
    obtain ⟨r, hr, rfl⟩ := List.mem_map.1 hq
    split at hheld
    next => cases hheld
    next hne =>
      rw [if_neg hne]
      exact ⟨hne, r, h ▸ hr, hheld, rfl⟩
  | _ =>
    refine .same (.of_stations ?_) fun o => ⟨fun ho => absurd ho (hhand o), fun ho => by simp [hs] at ho⟩
    simp [State.abandonOrders, horu, hs, h]

theorem State.Effect.holdStep (h : s.Phases) (e : s.Effect u) : s.HoldStep u := by
  have settles {w : State} (hw : s.SameHolds w) (horu : s.oru.Settles w.oru) : s.HoldStep w := .same hw horu.hold
  have free {w : State} (hw : w.stations = s.stations) (hs : s.oru.hand = .empty) (hhand : ∀ o,
    w.oru.hand ≠ .holdWait o) :
      s.HoldStep w := .same (.of_stations hw) fun o => ⟨fun ho => absurd ho (hhand o), fun ho => by simp [hs] at ho⟩
  cases e with
  | powerOn | reset => exact .cleared nofun nofun
  | fault | drainExpiredEnd | drainEnd => exact .cleared (by simp [State.fault, State.endDrain]) nofun
  | takeStart _ _ _ started => exact .started (h.start (by simp [started])) rfl nofun
  | beginDrain =>
    rw [State.beginDrain_eq]
    exact State.abandonOrders_holdStep (by simp [State.drainBegun]) (by simp [State.drainBegun])
  | haltFromFault | refuseStart | drainExpired | finalReportWritten => exact .same (.of_stations rfl) fun _ => .rfl
  | attentionExpired =>
    exact settles (.of_stations (by simp)) (State.hostAttention_settles { s with rpu.attention := .expired })
  | enrol o r taken checked =>
    exact .enrolled taken.hand r (Order.enrolRecord?_asEnrolled (State.checkEnrol_ok_iff.1 checked).record).free rfl nofun
  | retire o taken | shape o taken => exact State.holdOrApply_holdStep taken.hand
  | holdSatisfied o waiting =>
    refine .ended o (.inr waiting) (fun q hq hheld => ?_) (State.applyHeld_hand s o)
    obtain ⟨hne, hmem⟩ := s.applyHeld_held o q hq hheld
    exact ⟨hne, q, hmem, hheld, rfl⟩
  | finish o _ _ _ taken => exact free (by simp) taken.hand nofun
  | scanBegin o taken | scanAdd o taken | scanCommit o taken | scanSwap o taken | claimHeld o taken =>
    exact free (by simp) taken.hand nofun
  | takeTotals o r taken | claimDeferred o taken | marker o taken => exact free (by simp) taken.hand nofun
  | joinQueue o taken => exact free (by simp) taken.hand fun p => State.joinQueue_hand _ o p taken.hand
  | claim o taken =>
    exact free (by simp) taken.hand fun p =>
      (State.carryOutClaim_hand s.popOrder o (by simp [State.popOrder, taken.hand])).1 p
  | yield o taken =>
    exact free (by simp) taken.hand fun p hp => by
      simpa using ((State.leaveActive_settles { s.popOrder with oru.hand := .yieldStaging o } _ _).hold p).1 hp
  | handResultStaged c rest completion _ _ own =>
    exact .released (c := c) (by simp [completion]) own (by simp) nofun
  | grant g _ chosen => exact settles (.of_stations (by simp)) (State.grant_grants chosen).settles
  | markSent | windowExpired =>
    exact settles ((State.SameHolds.of_stations (by simp)).trans (State.checkAttempt_sameHolds _))
      (State.checkAttempt_settles_of_oru (by simp))
  | telegram lane t => exact settles (s.telegram_sameHolds lane t) (s.telegram_settles lane t)
  | overheardWindowExpired => exact .same (State.setOverResult_hears _ _ _ _).sameHolds fun _ => by simp
  | roleResultStaged d rest =>
    have hrole := State.roleStaged_settles (State.stageRole d { s with msu.roleDue := rest }) d.reason
    exact settles (.of_stations (by simp)) (by simpa using hrole)
  | windDownStaged d rest =>
    have hrole := State.roleStaged_settles (State.stageRole d { s with msu.roleDue := rest }) d.reason
    exact settles (.of_stations (by simp)) ((by simpa using hrole : s.oru.Settles _).trans (State.endWindDown_settles _))
  | _ => exact .same (.of_stations (by simp)) fun _ => by simp

/-! ### The invariant (R8) -/

/-- A record is held only for the order in HOLD_WAIT that names its station. -/
def State.HeldForHand (s : State) : Prop :=
  ∀ r ∈ s.stations, r.held = true → ∃ o, s.oru.hand = .holdWait o ∧ o.station = r.address

theorem State.HeldForHand.none (h : s.HeldForHand) (hhand : ∀ o, s.oru.hand ≠ .holdWait o) :
    ∀ r ∈ s.stations, r.held ≠ true := by
  intro r hr hheld
  obtain ⟨o, ho, -⟩ := h r hr hheld
  exact hhand o ho

theorem State.HoldsSound.handSound (h : s.HoldsSound) : s.oru.HandSound := ⟨h.once, h.waits⟩

theorem State.HoldsSound.heldForHand (h : s.HoldsSound) : s.HeldForHand := h.held

theorem State.HoldsSound.holdStep_held (h : s.HoldsSound) (e : s.HoldStep u) : u.HeldForHand := by
  intro q hq hheld
  cases e with
  | same holds hand =>
    obtain ⟨r, hr, hr', hrq⟩ := holds.held q hq hheld
    obtain ⟨o, ho, hor⟩ := h.held r hr hr'
    exact ⟨o, (hand o).2 ho, hor.trans hrq⟩
  | cleared held => simp [held q hq] at hheld
  | started halted stations =>
    exact absurd hheld (h.heldForHand.none (h.quiet (.inl halted)) q (stations ▸ hq))
  | released completed own stations =>
    obtain ⟨o, ho⟩ := h.waits _ completed own
    exact absurd hheld (h.heldForHand.none (by simp [ho]) q (stations ▸ hq))
  | enrolled free r unheld stations =>
    rw [stations, mem_insertRecord] at hq
    rcases hq with rfl | hq
    · simp [unheld] at hheld
    · exact absurd hheld (h.heldForHand.none (by simp [free]) q hq)
  | taken o free stations hand =>
    rw [stations, State.holdStation_stations] at hq
    obtain ⟨r, hr, rfl⟩ := List.mem_map.1 hq
    refine ⟨o, hand, ?_⟩
    split at hheld
    next hro => rw [if_pos hro]; exact hro.symm
    next => exact absurd hheld (h.heldForHand.none (by simp [free]) r hr)
  | ended o waited held =>
    obtain ⟨hne, r, hr, hr', hrq⟩ := held q hq hheld
    obtain ⟨p, hp, hpr⟩ := h.held r hr hr'
    rcases waited with hfree | hwaits
    · simp [hfree] at hp
    · obtain rfl : o = p := Hand.holdWait.inj (hwaits.symm.trans hp)
      exact absurd (hpr.trans hrq).symm hne

/-- No order may wait under a hold (R155, R156, R185). -/
def State.PastHolds (s : State) : Prop :=
  s.ctl.exchangeState = .halted ∨ s.ctl.exchangeState = .faulted ∨ s.ctl.drainEnded = true

theorem State.Phases.not_pastHolds (h : s.Phases) (running : s.ctl.exchangeState = .running) : ¬ s.PastHolds := by
  rintro (hs | hs | hended)
  · simp [hs] at running
  · simp [hs] at running
  · simp [h.drain (.inr (.inl hended))] at running

theorem State.HoldsSound.effect_quiet (h : s.HoldsSound) (e : s.Effect u) (hu : u.PastHolds) (o : Order) :
    u.oru.hand ≠ .holdWait o := by
  intro ho
  have hs : ¬ s.PastHolds := by
    rcases e.holdWait ho with hwaits | ⟨taken, -⟩ | ⟨taken, -⟩
    · exact fun hpast => h.quiet hpast o hwaits
    · exact h.phases.not_pastHolds taken.running
    · exact h.phases.not_pastHolds taken.running
  cases e with
  | powerOn | reset | fault | takeStart | drainExpiredEnd | drainEnd => cases ho
  | beginDrain => exact State.abandonOrders_hand _ o ho
  | haltFromFault faulted => exact hs (.inr (.inl faulted))
  | finalReportWritten _ ended => exact hs (.inr (.inr ended))
  | refuseStart | drainExpired => exact hs hu
  | _ => exact hs (by simpa [State.PastHolds] using hu)

/-! ### The results of the order in hand (R134, R135) -/

theorem OrderUnit.HandSound.of_none {v : OrderUnit} (h : v.completion = []) : v.HandSound := by
  constructor <;> simp [h]

/-- The order in hand has answered, the completion list empty before. -/
theorem OrderUnit.HandSound.of_single {v : OrderUnit} {c : Completed} {o : Order} (h : v.completion = [c])
    (hhand : v.hand = .stageWait o) : v.HandSound :=
  OrderUnit.handSound_of_own (l := []) nofun hhand h

theorem State.applyHeld_handSound (o : Order) (h : s.oru.HandSound) (hhand : ∀ o, s.oru.hand ≠ .stageWait o) :
    (s.applyHeld o).oru.HandSound := by
  have answered (w : State) (hw : w.oru = s.oru) : (w.answer o .done).oru.HandSound :=
    w.answer_handSound o .done (hw ▸ h) (hw ▸ hhand)
  unfold State.applyHeld
  split
  · exact answered _ (by simp)
  · split
    · exact answered _ (by simp [State.clearHeld])
    · exact answered _ rfl

theorem State.InHand.handSound {o : Order} (taken : s.InHand o) : s.oru.HandSound := .of_none taken.completion

theorem State.holdOrApply_handSound {o : Order} (taken : s.InHand o) : (s.popOrder.holdOrApply o).oru.HandSound := by
  unfold State.holdOrApply
  dsimp only
  split
  · refine State.applyHeld_handSound o (.of_none ?_) fun p => ?_
    · simp [State.popOrder, taken.completion]
    · simp [State.popOrder, taken.hand]
  · exact .of_none (by simp [State.popOrder, taken.completion])

theorem State.joinQueue_handSound {o : Order} (taken : s.InHand o) : (s.popOrder.joinQueue o).oru.HandSound := by
  unfold State.joinQueue
  split
  · exact .of_none taken.completion
  · exact .of_none taken.completion

theorem State.abandonOrders_handSound (h : s.oru.HandSound) : s.abandonOrders.oru.HandSound := by
  have hclosed := (s.endClosedEntries_settles .abandoned).hand h
  unfold State.abandonOrders
  dsimp only
  split
  next o ho => exact State.answer_handSound _ o _ hclosed (by rw [ho]; nofun)
  next o ho =>
    exact State.answer_handSound ((s.endClosedEntries .abandoned).clearHeld o.station) o _ hclosed
      (by rw [State.clearHeld, State.updateStation_oru, ho]; nofun)
  next o ho => exact State.answer_handSound _ o _ hclosed (by rw [ho]; nofun)
  next => exact (State.markerCheck_settles _).hand hclosed

/-- The head of the completion list is staged. -/
theorem OrderUnit.HandSound.tail {v w : OrderUnit} {c : Completed} {rest : List Completed} (h : v.HandSound)
    (completion : v.completion = c :: rest) (hrest : w.completion = rest)
    (hhand : w.hand = v.hand ∨ c.fromHand = true) : w.HandSound := by
  have honce := h.once
  have hwaits := h.waits
  rw [completion] at honce hwaits
  rw [List.filter_cons] at honce
  refine ⟨?_, fun d hd hown => ?_⟩
  · rw [hrest]
    split at honce
    · exact (Nat.le_succ _).trans honce
    · exact honce
  · rw [hrest] at hd
    rcases hhand with hkept | hmine
    · exact hkept ▸ hwaits d (List.mem_cons_of_mem c hd) hown
    · rw [if_pos hmine, List.length_cons, Nat.succ_le_succ_iff, Nat.le_zero, List.length_eq_zero_iff] at honce
      exact absurd hown (List.filter_eq_nil_iff.1 honce d hd)

theorem OrderUnit.HandSound.effect (h : s.oru.HandSound) (e : s.Effect u) : u.oru.HandSound := by
  cases e with
  | powerOn | reset | fault | takeStart | drainExpiredEnd | drainEnd => exact .of_none rfl
  | haltFromFault | refuseStart | drainExpired | finalReportWritten => exact h
  | beginDrain =>
    rw [State.beginDrain_eq]
    exact State.abandonOrders_handSound (by simpa [State.drainBegun] using h)
  | attentionExpired => exact (State.hostAttention_settles { s with rpu.attention := .expired }).hand h
  | finish o c _ _ taken => exact .of_single (by simp [State.completeHand, State.popOrder, taken.completion]; rfl) rfl
  | enrol o _ taken | scanBegin o taken | scanAdd o taken | scanCommit o taken | scanSwap o taken | claimHeld o taken
  | takeTotals o r taken =>
    exact .of_single (by simp [State.answer, State.completeHand, State.popOrder, taken.completion]; rfl) rfl
  | claimDeferred o taken | marker o taken => exact .of_none taken.completion
  | retire o taken | shape o taken => exact State.holdOrApply_handSound taken.inHand
  | joinQueue o taken => exact State.joinQueue_handSound taken
  | claim o taken =>
    exact (State.carryOutClaim_hand s.popOrder o (by simp [State.popOrder, taken.hand])).2 (.of_none taken.completion)
  | yield o taken => exact (State.leaveActive_settles _ _ _).hand (.of_none taken.completion)
  | holdSatisfied o waiting => exact State.applyHeld_handSound o h (by simp [waiting])
  | orderResultStaged c rest completion => exact h.tail completion (by simp) (.inl (by simp))
  | handResultStaged c rest completion _ _ own => exact h.tail completion (by simp [State.releaseHand]) (.inr own)
  | grant g _ chosen => exact (State.grant_grants chosen).settles.hand h
  | markSent | windowExpired => exact (State.checkAttempt_settles_of_oru (by simp)).hand h
  | telegram lane t => exact (s.telegram_settles lane t).hand h
  | roleResultStaged d rest =>
    have hrole := State.roleStaged_settles (State.stageRole d { s with msu.roleDue := rest }) d.reason
    exact hrole.hand (by simpa using h)
  | windDownStaged d rest =>
    have hrole := State.roleStaged_settles (State.stageRole d { s with msu.roleDue := rest }) d.reason
    exact (State.endWindDown_settles _).hand (hrole.hand (by simpa using h))
  | orderFetchDone => exact ⟨by simpa using h.once, by simpa using h.waits⟩
  | _ => simpa using h

theorem State.HoldsSound.effect (h : s.HoldsSound) (e : s.Effect u) : u.HoldsSound :=
  have hhand := h.handSound.effect e
  ⟨h.phases.effect e, h.holdStep_held (e.holdStep h.phases), h.effect_quiet e, hhand.once, hhand.waits⟩

theorem State.HoldsSound.of_eq (h : s.HoldsSound) (hctl : t.ctl = s.ctl) (hst : t.stations = s.stations)
    (horu : t.oru = s.oru) : t.HoldsSound :=
  ⟨h.phases.of_ctl hctl, by rw [hst, horu]; exact h.held, by rw [hctl, horu]; exact h.quiet, horu ▸ h.once,
    by rw [horu]; exact h.waits⟩

theorem reset_holdsSound : State.reset.HoldsSound := ⟨reset_phases, nofun, nofun, by decide, nofun⟩

theorem step_keeps_holdsSound : ∀ s t : State, s.HoldsSound → step s = .next t → t.HoldsSound :=
  step_keeps (P := State.HoldsSound) (fun _ _ h => h.of_eq rfl rfl rfl)
    (fun _ h => h.of_eq (by simp) (by simp) (by simp)) fun _ _ h e => h.effect e

end

end Sys2Proof.Machine

/-! The station records (R4, R9, R22): what a reply or a miss makes of a record, and the station of the open exchange. -/

namespace Sys2Proof.Machine

/-! ### The open exchange keeps its claimant, verb and station -/

section
variable {s t u : State}

/-- An exchange that is open was open before, for the same claimant, with the same verb and address. -/
def State.SameAim (s t : State) : Prop :=
  ∀ y, t.exu.exchange = some y →
    ∃ x, s.exu.exchange = some x ∧ y.claimant = x.claimant ∧ y.verb = x.verb ∧ y.address = x.address

theorem State.SameAim.of_none (h : t.exu.exchange = none) : s.SameAim t := fun y hy => by simp [h] at hy

theorem State.SameAim.of_eq (h : t.exu.exchange = s.exu.exchange) : s.SameAim t :=
  fun y hy => ⟨y, h ▸ hy, rfl, rfl, rfl⟩

theorem State.SameAim.of_map {f : Exchange → Exchange} (h : t.exu.exchange = s.exu.exchange.map f)
    (hf : ∀ x, (f x).claimant = x.claimant ∧ (f x).verb = x.verb ∧ (f x).address = x.address) : s.SameAim t := by
  intro y hy
  rw [h, Option.map_eq_some_iff] at hy
  obtain ⟨x, hx, rfl⟩ := hy
  exact ⟨x, hx, hf x⟩

theorem State.SameAim.trans (h : s.SameAim t) (h' : t.SameAim u) : s.SameAim u := by
  intro z hz
  obtain ⟨y, hy, hclaimant, hverb, haddress⟩ := h' z hz
  obtain ⟨x, hx, hclaimant', hverb', haddress'⟩ := h y hy
  exact ⟨x, hx, hclaimant.trans hclaimant', hverb.trans hverb', haddress.trans haddress'⟩

theorem State.SameAim.of_noRetry (h : t.exu.exchange = s.exu.exchange ∨
    t.exu.exchange = s.exu.exchange.map (fun x => { x with noRetry := true })) : s.SameAim t := by
  rcases h with h | h
  · exact .of_eq h
  · exact .of_map h fun _ => ⟨rfl, rfl, rfl⟩

theorem Exchange.setPart_aim (x : Exchange) (lane : LaneId) (p : LanePart) :
    (x.setPart lane p).claimant = x.claimant ∧ (x.setPart lane p).verb = x.verb ∧
      (x.setPart lane p).address = x.address := by
  cases lane <;> exact ⟨rfl, rfl, rfl⟩

theorem State.setPart_sameAim (s : State) (lane : LaneId) (p : LanePart) : s.SameAim (s.setPart lane p) :=
  .of_map (s.setPart_exchange lane p) fun x => x.setPart_aim lane p

theorem State.judgeReply_sameAim (s : State) (lane : LaneId) (t : Option Telegram) : s.SameAim (s.judgeReply lane t) :=
  .of_map (s.judgeReply_exchange lane t) fun x => x.setPart_aim lane _

theorem Exchange.delimiter_aim (x : Exchange) (lane : LaneId) :
    (x.delimiter lane).claimant = x.claimant ∧ (x.delimiter lane).verb = x.verb ∧
      (x.delimiter lane).address = x.address := by
  unfold Exchange.delimiter
  split
  · exact x.setPart_aim lane _
  all_goals exact ⟨rfl, rfl, rfl⟩

theorem State.checkAttempt_sameAim (s : State) : s.SameAim s.checkAttempt := by
  rcases s.checkAttempt_cases with he | ⟨x, hx, -, he⟩
  · exact .of_eq (by rw [he])
  · rw [he]
    rcases s.attemptEnd_cases x with ⟨w, o, -, hclose⟩ | ⟨-, -, hretry⟩
    · exact .of_none (by simp [hclose])
    · rw [hretry]
      rintro y ⟨⟩
      exact ⟨x, hx, rfl, rfl, rfl⟩

/-- The state in which a telegram has been heard, before the attempt is looked at. -/
theorem State.judged_sameAim (s : State) (lane : LaneId) (t : Option Telegram) :
    s.SameAim (((s.counted lane t).judgeReply lane t).heard lane t) :=
  ((State.SameAim.of_eq (by simp)).trans ((s.counted lane t).judgeReply_sameAim lane t)).trans
    (.of_noRetry (State.heard_exchange _ lane t))

theorem State.telegram_sameAim (s : State) (lane : LaneId) (t : Option Telegram) : s.SameAim (s.telegram lane t) := by
  rcases s.telegram_cases lane t with ht | ht
  · rw [ht]
    exact (State.SameAim.of_eq (by simp)).trans (.of_noRetry ((s.counted lane t).heard_exchange lane t))
  · rw [ht]
    exact (s.judged_sameAim lane t).trans (State.checkAttempt_sameAim _)

/-- Only a grant opens an exchange (R77). -/
theorem State.Effect.sameAim (e : s.Effect u) :
    s.SameAim u ∨ s.grantOpen = true ∧ s.Grants u := by
  cases e with
  | powerOn | reset | haltFromFault | drainExpired | drainExpiredEnd => exact .inl (.of_none rfl)
  | beginDrain => exact .inl (.of_noRetry (.inr (by simp)))
  | fault => exact .inl (.of_noRetry (.inr rfl))
  | takeStart | refuseStart | drainEnd | finalReportWritten => exact .inl (.of_eq rfl)
  | attentionExpired => exact .inl (.of_noRetry (State.hostAttention_exchange { s with rpu.attention := .expired }))
  | yield o => exact .inl (.of_noRetry (.inr (by simp [State.leaveActive_exchange])))
  | grant g granting chosen => exact .inr ⟨granting, State.grant_grants chosen⟩
  | delimiterHeard lane =>
    refine .inl (.of_map (f := fun x => x.delimiter lane) ?_ fun x => x.delimiter_aim lane)
    simp [State.delimiterHeard]
  | windowOpened lane =>
    exact .inl ((State.SameAim.of_eq (by simp)).trans (State.setPart_sameAim _ lane _))
  | markSent lane =>
    exact .inl (((State.SameAim.of_eq (by simp)).trans (State.setPart_sameAim _ lane _)).trans
      (State.checkAttempt_sameAim _))
  | windowExpired lane => exact .inl ((s.setPart_sameAim lane _).trans (State.checkAttempt_sameAim _))
  | telegram lane t => exact .inl (s.telegram_sameAim lane t)
  | _ => exact .inl (.of_eq (by simp))

/-! ### A record that is sound -/

/-- A verified record is ONLINE, SUSPECT or OFFLINE, any other UNKNOWN, OFFLINE or MISMATCH, and read_cursor is below
slot_count (R4, R22). -/
structure StationRecord.Sound (r : StationRecord) : Prop where
  verified : r.verified = true → r.health = .online ∨ r.health = .suspect ∨ r.health = .offline
  unverified : r.verified = false → r.health = .unknown ∨ r.health = .offline ∨ r.health = .mismatch
  cursor : r.readCursor < r.slotCount

theorem StationRecord.Sound.missed {r : StationRecord} (h : r.Sound) : r.missed.Sound := by
  refine ⟨fun hv => ?_, fun hv => ?_, h.cursor⟩
  · rcases h.verified hv with hh | hh | hh <;> simp only [StationRecord.missed, hh] <;> grind
  · rcases h.unverified hv with hh | hh | hh <;> simp only [StationRecord.missed, hh] <;> grind

theorem StationRecord.Sound.answered {r : StationRecord} (h : r.Sound) (hv : r.verified = true) (c : Byte) :
    (r.answered c).Sound := by
  refine ⟨fun _ => ?_, fun hnot => absurd hv (by simpa [StationRecord.answered] using hnot), h.cursor⟩
  rcases h.verified hv with hh | hh | hh <;> simp [StationRecord.answered, hh]

theorem StationRecord.Sound.queried {r : StationRecord} (h : r.Sound) (hv : r.verified = false) (q : Reply) :
    (r.queried q).Sound := by
  unfold StationRecord.queried
  dsimp only
  split
  · split
    · exact ⟨fun _ => .inl rfl, nofun, h.cursor⟩
    · exact ⟨fun hv' => by simp [hv] at hv', fun _ => .inr (.inr rfl), h.cursor⟩
  · exact ⟨h.verified, h.unverified, h.cursor⟩
  · exact ⟨fun hv' => by simp [hv] at hv', fun _ => .inr (.inr rfl), h.cursor⟩

theorem StationRecord.Sound.advance {r : StationRecord} (h : r.Sound) (x : Exchange) (q : Reply) :
    (r.advance x q).Sound := by
  unfold StationRecord.advance
  split
  · exact ⟨h.verified, h.unverified, Nat.mod_lt _ (Nat.zero_lt_of_lt h.cursor)⟩
  · exact h

theorem StationRecord.AsEnrolled.sound {r : StationRecord} (h : r.AsEnrolled) : r.Sound :=
  ⟨fun hv => by simp [h.unverified] at hv, fun _ => .inl h.health, by rw [h.cursor]; exact h.size⟩

/-- The station of an exchange fits its verb: verified for a FETCH or STORE, unverified for a QUERY (R9). -/
structure State.AimsAt (s : State) (x : Exchange) : Prop where
  reads : x.verb = .fetch ∨ x.verb = .store → ∃ r, s.station? x.address = some r ∧ r.verified = true
  queries : x.verb = .query → ∃ r, s.station? x.address = some r ∧ r.verified = false

theorem Exchange.Makes.sound {x : Exchange} {r new : StationRecord} (h : x.Makes r new) (hr : r.Sound)
    (hfound : s.station? x.address = some r) (haim : s.AimsAt x) : new.Sound := by
  have reads (hverb : x.verb = .fetch ∨ x.verb = .store) : r.verified = true := by
    obtain ⟨q, hq, hv⟩ := haim.reads hverb
    exact Option.some.inj (hq.symm.trans hfound) ▸ hv
  cases h with
  | missed => exact hr.missed
  | queried q verb =>
    obtain ⟨p, hp, hv⟩ := haim.queries verb
    exact hr.queried (Option.some.inj (hp.symm.trans hfound) ▸ hv) q
  | answered c verb => exact hr.answered (reads verb) c
  | advanced q verb => exact (hr.answered (reads verb) _).advance x q

/-! ### Where the records stay sound and every station stays verified or not -/

/-- Every record of the table is sound. -/
def State.AllSound (s : State) : Prop := ∀ r ∈ s.stations, r.Sound

theorem State.recordsSound_iff : s.RecordsSound ↔ s.AllSound ∧ ∀ x, s.exu.exchange = some x → s.AimsAt x :=
  ⟨fun h => ⟨fun r hr => ⟨h.verified r hr, h.unverified r hr, h.cursor r hr⟩,
      fun x hx => ⟨h.reads x hx, h.queries x hx⟩⟩,
    fun ⟨hall, haim⟩ => ⟨fun r hr => (hall r hr).verified, fun r hr => (hall r hr).unverified,
      fun r hr => (hall r hr).cursor, fun x hx => (haim x hx).reads, fun x hx => (haim x hx).queries⟩⟩

/-- The records stay sound, and a station stays verified or unverified. -/
structure State.Steady (s t : State) : Prop where
  sound : s.AllSound → t.AllSound
  found : ∀ a r, s.station? a = some r → ∃ q, t.station? a = some q ∧ q.verified = r.verified

theorem State.Steady.of_stations (h : t.stations = s.stations) : s.Steady t :=
  ⟨fun hall r hr => hall r (h ▸ hr), fun a r hr => ⟨r, by rwa [State.station?, h], rfl⟩⟩

theorem State.Steady.trans (h : s.Steady t) (h' : t.Steady u) : s.Steady u := by
  refine ⟨h'.sound ∘ h.sound, fun a r hr => ?_⟩
  obtain ⟨q, hq, hqr⟩ := h.found a r hr
  obtain ⟨p, hp, hpq⟩ := h'.found a q hq
  exact ⟨p, hp, hpq.trans hqr⟩

theorem State.Steady.of_map {f : StationRecord → StationRecord} (ht : t.stations = s.stations.map f)
    (hf : ∀ q, (f q).address = q.address ∧ (f q).verified = q.verified ∧ (q.Sound → (f q).Sound)) : s.Steady t := by
  refine ⟨fun hall q hq => ?_, fun a r hr => ?_⟩
  · rw [ht] at hq
    obtain ⟨r, hr, rfl⟩ := List.mem_map.1 hq
    exact (hf r).2.2 (hall r hr)
  · exact ⟨f r, by rw [State.station?_of_map ht (fun q _ => (hf q).1), hr]; rfl, (hf r).2.1⟩

theorem State.AllSound.applies (h : s.AllSound) {r new : StationRecord} (happlies : s.Applies t r new)
    (hnew : new.Sound) : t.AllSound := by
  intro q hq
  rw [happlies.stations] at hq
  obtain ⟨p, hp, rfl⟩ := List.mem_map.1 hq
  split
  · exact hnew
  · exact h p hp

theorem State.Learned.steady (h : s.Learned t) : s.Steady t := by
  obtain ⟨a, r, c, hr, hv, -, happlies⟩ := h
  refine ⟨fun hall => hall.applies happlies ((hall r (State.station?_mem hr)).answered hv c), fun b q hq => ?_⟩
  have hkept : ∀ p ∈ s.stations, (if p.address = r.address then r.answered c else p).address = p.address := by
    intro p _
    split
    next hpr => exact hpr.symm
    next => rfl
  refine ⟨_, by rw [State.station?_of_map happlies.stations hkept, hq]; rfl, ?_⟩
  dsimp only
  split
  next hqr =>
    have hba : b = a := (State.station?_address hq).symm.trans (hqr.trans (State.station?_address hr))
    rw [hba, hr] at hq
    exact Option.some.inj hq ▸ rfl
  next => rfl

theorem State.Hears.steady (h : s.Hears t) : s.Steady t := h.elim (fun hs => .of_stations hs.stations) (·.steady)

theorem State.Prefers.steady (h : s.Prefers t) : s.Steady t := by
  obtain ⟨p, hp⟩ := h
  exact .of_map hp fun q => ⟨rfl, rfl, fun hq => ⟨hq.verified, hq.unverified, hq.cursor⟩⟩

theorem State.AimsAt.steady {x y : Exchange} (h : s.AimsAt x) (hst : s.Steady t) (hverb : y.verb = x.verb)
    (haddress : y.address = x.address) : t.AimsAt y := by
  constructor
  · intro hv
    obtain ⟨r, hr, hr'⟩ := h.reads (hverb ▸ hv)
    obtain ⟨q, hq, hqr⟩ := hst.found _ r hr
    exact ⟨q, haddress ▸ hq, hqr.trans hr'⟩
  · intro hv
    obtain ⟨r, hr, hr'⟩ := h.queries (hverb ▸ hv)
    obtain ⟨q, hq, hqr⟩ := hst.found _ r hr
    exact ⟨q, haddress ▸ hq, hqr.trans hr'⟩

theorem State.RecordsSound.of_steady (h : s.RecordsSound) (hst : s.Steady t) (hx : s.SameAim t) : t.RecordsSound := by
  rw [State.recordsSound_iff] at h ⊢
  refine ⟨hst.sound h.1, fun y hy => ?_⟩
  obtain ⟨x, hx, -, hverb, haddress⟩ := hx y hy
  exact (h.2 x hx).steady hst hverb haddress

theorem State.RecordsSound.closeExchange {w : State} {x : Exchange} (h : w.AllSound) (haim : w.AimsAt x)
    (o : ExchangeOutcome) :
    (w.closeExchange x o).RecordsSound := by
  refine State.recordsSound_iff.2 ⟨?_, by simp⟩
  rcases w.closeExchange_cases x o with hsame | ⟨r, new, hr, hmakes, happlies⟩
  · exact (State.Steady.of_stations hsame.stations).sound h
  · exact h.applies happlies (hmakes.sound (h r (State.station?_mem hr)) hr haim)

theorem State.RecordsSound.checkAttempt (h : s.RecordsSound) : s.checkAttempt.RecordsSound := by
  rcases s.checkAttempt_cases with he | ⟨x, hx, -, he⟩
  · rwa [he]
  · obtain ⟨hall, haim⟩ := State.recordsSound_iff.1 h
    rw [he]
    rcases s.attemptEnd_cases x with ⟨w, o, hw, hclose⟩ | ⟨-, -, hretry⟩
    · rw [hclose]
      exact .closeExchange (hw.prefers.steady.sound hall) ((haim x hx).steady hw.prefers.steady rfl rfl) o
    · rw [hretry]
      refine h.of_steady ((s.weighed_prefers x).steady.trans (.of_stations (by simp))) ?_
      rintro y ⟨⟩
      exact ⟨x, hx, rfl, rfl, rfl⟩

theorem State.RecordsSound.telegram (h : s.RecordsSound) (lane : LaneId) (t : Option Telegram) :
    (s.telegram lane t).RecordsSound := by
  rcases s.telegram_cases lane t with ht | ht
  · rw [ht]
    exact h.of_steady ((State.Steady.of_stations (by simp)).trans (State.heard_hears (s.counted lane t) lane t).steady)
      ((State.SameAim.of_eq (by simp)).trans (.of_noRetry ((s.counted lane t).heard_exchange lane t)))
  · rw [ht]
    refine State.RecordsSound.checkAttempt (h.of_steady ?_ (s.judged_sameAim lane t))
    exact (State.Steady.of_stations (by simp)).trans (State.heard_hears ((s.counted lane t).judgeReply lane t) lane t).steady

/-! ### A record joins or leaves -/

theorem find?_insertRecord {r : StationRecord} {a : Nat} (h : r.address ≠ a) (l : List StationRecord) :
    (insertRecord r l).find? (fun q => q.address = a) = l.find? (fun q => q.address = a) := by
  induction l with
  | nil => simp [insertRecord, h]
  | cons q rest ih =>
    unfold insertRecord
    split
    · rw [List.find?_cons_of_neg (by simpa using h)]
    · rw [List.find?_cons, List.find?_cons, ih]

theorem find?_retired {a b : Nat} (h : a ≠ b) (l : List StationRecord) :
    (l.filter (fun q => q.address ≠ b)).find? (fun q => q.address = a) = l.find? (fun q => q.address = a) := by
  rw [List.find?_filter]
  refine List.find?_congr fun q _ => ?_
  by_cases hq : q.address = a <;> simp [hq, h]

theorem State.Enrollable.steady {o : Order} {r : StationRecord} (h : s.Enrollable o r)
    (ht : t.stations = insertRecord r s.stations) : s.Steady t := by
  have hnew := (Order.enrolRecord?_asEnrolled h.record).sound
  refine ⟨fun hall q hq => ?_, fun a q hq => ⟨q, ?_, rfl⟩⟩
  · rw [ht, mem_insertRecord] at hq
    rcases hq with rfl | hq
    · exact hnew
    · exact hall q hq
  · have hne : r.address ≠ a := by
      rintro rfl
      rw [h.fresh] at hq
      cases hq
    rw [State.station?, ht, find?_insertRecord hne]
    exact hq

theorem State.clearHeld_steady (s : State) (a : Nat) : s.Steady (s.clearHeld a) := by
  refine .of_map rfl fun q => ?_
  split
  · exact ⟨rfl, rfl, fun hq => ⟨hq.verified, hq.unverified, hq.cursor⟩⟩
  · exact ⟨rfl, rfl, id⟩

theorem State.holdStation_steady (s : State) (a : Nat) : s.Steady (s.holdStation a) := by
  refine .of_map (State.holdStation_stations s a) fun q => ?_
  split
  · exact ⟨rfl, rfl, fun hq => ⟨hq.verified, hq.unverified, hq.cursor⟩⟩
  · exact ⟨rfl, rfl, id⟩

/-- An order under its hold is applied with no exchange open to its station (R8). -/
theorem State.RecordsSound.applyHeld (h : s.RecordsSound) {o : Order} (hsat : s.holdSatisfied o.station = true) :
    (s.applyHeld o).RecordsSound := by
  rcases s.applyHeld_stations o with hst | hst
  · obtain ⟨hall, haim⟩ := State.recordsSound_iff.1 h
    have hfree : ∀ x, s.exu.exchange = some x → x.address ≠ o.station := by
      intro x hx
      simp [State.holdSatisfied, State.exchangeAddresses, hx] at hsat
      exact hsat.2
    have hfound {x : Exchange} (hx : s.exu.exchange = some x) : (s.applyHeld o).station? x.address = s.station? x.address := by
      rw [State.station?, hst, State.retireStation_stations]
      exact find?_retired (hfree x hx) s.stations
    refine State.recordsSound_iff.2 ⟨fun q hq => ?_, fun x hx => ?_⟩
    · rw [hst, State.retireStation_stations] at hq
      exact hall q (List.mem_of_mem_filter hq)
    · rw [State.applyHeld_exu] at hx
      exact ⟨hfound hx ▸ (haim x hx).reads, hfound hx ▸ (haim x hx).queries⟩
  · exact h.of_steady ((s.clearHeld_steady _).trans (.of_stations hst)) (.of_eq (by simp))

theorem State.RecordsSound.holdOrApply (h : s.RecordsSound) (o : Order) : (s.holdOrApply o).RecordsSound := by
  have hheld : (s.holdStation o.station).RecordsSound := h.of_steady (s.holdStation_steady _) (.of_eq (by simp))
  unfold State.holdOrApply
  dsimp only
  split
  next hsat => exact hheld.applyHeld hsat
  next => exact hheld.of_steady (.of_stations rfl) (.of_eq rfl)

/-! ### The exchange a grant opens (R9) -/

theorem State.RecordsSound.openExchange {w : State} {x : Exchange} {probe : Bool} (h : s.AllSound) (haim : s.AimsAt x)
    (hw : w.stations = s.stations) : (w.openExchange x probe).RecordsSound := by
  have hst : s.Steady (w.openExchange x probe) := .of_stations (by simpa using hw)
  refine State.recordsSound_iff.2 ⟨hst.sound h, ?_⟩
  rintro y ⟨⟩
  exact haim.steady hst rfl rfl

theorem State.AimsAt.of_verb {x : Exchange} (h : x.verb = .latch ∨ x.verb = .mark) : s.AimsAt x :=
  ⟨fun hv => by rcases h with h | h <;> simp [h] at hv, fun hv => by rcases h with h | h <;> simp [h] at hv⟩

theorem State.AimsAt.of_verified {x : Exchange} {r : StationRecord} (hr : s.station? x.address = some r)
    (hv : r.verified = true) (hverb : x.verb ≠ .query) : s.AimsAt x :=
  ⟨fun _ => ⟨r, hr, hv⟩, fun hq => absurd hq hverb⟩

theorem State.AimsAt.of_unverified {x : Exchange} {r : StationRecord} (hr : s.station? x.address = some r)
    (hv : r.verified = false) (hverb : x.verb = .query) : s.AimsAt x :=
  ⟨fun hread => by simp [hverb] at hread, fun _ => ⟨r, hr, hv⟩⟩

theorem State.entryExchange_aimsAt {a : Nat} {r : StationRecord} (hr : s.station? a = some r) (hv : r.verified = true)
    (o : Order) : s.AimsAt (entryExchange o r) := by
  obtain rfl := State.station?_address hr
  unfold entryExchange
  split
  · exact .of_verified hr hv nofun
  · exact .of_verb (.inl rfl)
  · exact .of_verified hr hv nofun

theorem State.queryExchange_aimsAt {a : Nat} {r : StationRecord} (hr : s.station? a = some r) (hv : r.verified = false)
    (c : Claimant) : s.AimsAt (queryExchange c r) := by
  obtain rfl := State.station?_address hr
  exact .of_unverified hr hv rfl

theorem State.sweepExchange_aimsAt {a : Nat} {r : StationRecord} (hr : s.station? a = some r) :
    s.AimsAt (sweepExchange r) := by
  unfold sweepExchange
  split
  next hv =>
    obtain rfl := State.station?_address hr
    exact .of_verified hr hv nofun
  next hv => exact State.queryExchange_aimsAt hr (by simpa using hv) .sweep

theorem State.RecordsSound.grants (h : s.RecordsSound) (g : s.Grants t) : t.RecordsSound := by
  have hall := (State.recordsSound_iff.1 h).1
  cases g with
  | same => exact h
  | ended i e => exact h.of_steady (.of_stations (by simp)) (.of_eq (by simp))
  | skipped => exact h.of_steady (.of_stations (by simp)) (.of_eq (by simp))
  | latchAll i e => exact .openExchange hall (.of_verb (x := latchAllExchange) (.inl rfl)) rfl
  | entry i e r x queued found opens =>
    refine .openExchange hall (?_ : s.AimsAt x) rfl
    rcases opens with ⟨hv, rfl⟩ | ⟨hv, rfl⟩
    · exact State.entryExchange_aimsAt found hv _
    · exact State.queryExchange_aimsAt found hv _
  | poll a r found => exact .openExchange hall (State.sweepExchange_aimsAt found) rfl
  | mark => exact .openExchange hall (.of_verb (x := markExchange) (.inr rfl)) rfl

theorem State.abandonOrders_steady (s : State) : s.Steady s.abandonOrders := by
  unfold State.abandonOrders
  dsimp only
  split
  · exact .of_stations rfl
  · exact (State.Steady.of_stations (s := s) (t := s.endClosedEntries .abandoned) rfl).trans
      ((State.clearHeld_steady _ _).trans (.of_stations rfl))
  · exact .of_stations rfl
  · exact .of_stations (by simp)

/-! ### The invariant (R4, R22) -/

theorem reset_recordsSound : State.reset.RecordsSound :=
  State.recordsSound_iff.2 ⟨fun _ hr => absurd hr List.not_mem_nil, fun _ hx => by simp [State.reset] at hx⟩

theorem State.RecordsSound.of_eq (h : s.RecordsSound) (hst : t.stations = s.stations)
    (hx : t.exu.exchange = s.exu.exchange) : t.RecordsSound := h.of_steady (.of_stations hst) (.of_eq hx)

theorem State.RecordsSound.effect (h : s.RecordsSound) (e : s.Effect u) : u.RecordsSound := by
  have steady {w : State} (hw : s.Steady w) (haim : s.SameAim w ∨ s.grantOpen = true ∧ s.Grants w) : w.RecordsSound :=
    haim.elim (h.of_steady hw) fun hg => h.grants hg.2
  have haim := e.sameAim
  cases e with
  | powerOn | reset => exact reset_recordsSound.of_eq rfl rfl
  | beginDrain =>
    refine steady ?_ haim
    rw [State.beginDrain_eq]
    exact (State.Steady.of_stations (by simp [State.drainBegun])).trans (State.abandonOrders_steady _)
  | fault | drainExpiredEnd | drainEnd =>
    refine steady (.of_map (f := fun r => { r with held := false }) rfl fun q => ?_) haim
    exact ⟨rfl, rfl, fun hq => ⟨hq.verified, hq.unverified, hq.cursor⟩⟩
  | haltFromFault | refuseStart | takeStart | drainExpired | finalReportWritten => exact steady (.of_stations rfl) haim
  | enrol o r taken checked => exact steady ((State.checkEnrol_ok_iff.1 checked).steady rfl) haim
  | retire o | shape o => exact State.RecordsSound.holdOrApply (s := s.popOrder) (h.of_eq rfl rfl) o
  | holdSatisfied o _ satisfied => exact h.applyHeld satisfied
  | grant g _ chosen => exact h.grants (State.grant_grants chosen)
  | markSent lane | windowExpired lane =>
    refine State.RecordsSound.checkAttempt (h.of_steady (.of_stations (by simp)) ?_)
    exact (State.SameAim.of_eq (by simp)).trans (State.setPart_sameAim _ lane _)
  | telegram lane t => exact h.telegram lane t
  | overheardWindowExpired => exact steady (State.setOverResult_hears _ _ _ _).steady haim
  | _ => exact steady (.of_stations (by simp)) haim

theorem step_keeps_recordsSound : ∀ s t : State, s.RecordsSound → step s = .next t → t.RecordsSound :=
  step_keeps (P := State.RecordsSound) (fun _ _ h => h.of_eq rfl rfl) (fun _ h => h.of_eq (by simp) (by simp))
    fun _ _ h e => h.effect e

end

end Sys2Proof.Machine

/-! The Sweep Engine (R55, R59, R64): STOPPED unless the device masters the bus, its claim, and an abandoned sweep. -/

namespace Sys2Proof.Machine

/-! ### The Sweep Engine running and at rest -/

/-- A claim, or the wait for a place at the end of a sweep, is found in SWEEPING alone (R59, R61). -/
structure SweepEngine.Sane (e : SweepEngine) : Prop where
  claim : e.claim.isSome → e.state = .sweeping
  ended : e.endWait = true → e.state = .sweeping

/-- The Sweep Engine of a device that masters the bus. -/
structure SweepEngine.Runs (e : SweepEngine) : Prop where
  state : e.state ≠ .stopped
  ended : e.endWait = true → e.state = .sweeping
  abandoning : e.abandoning = false

/-- The Sweep Engine of a device that does not. -/
structure SweepEngine.Rests (e : SweepEngine) : Prop where
  state : e.state = .stopped
  claim : e.claim = none
  ended : e.endWait = false

theorem SweepEngine.rest_rests (e : SweepEngine) : e.rest.Rests := ⟨rfl, rfl, rfl⟩

section
variable {s t u : State}

@[simp] theorem State.endSweep_abandoning (s : State) : s.endSweep.swe.abandoning = s.swe.abandoning := by
  unfold State.endSweep
  dsimp only
  split
  · split <;> simp [State.finishSweep]
  · rfl

@[simp] theorem State.walk_abandoning (s : State) : s.walk.swe.abandoning = s.swe.abandoning := by
  unfold State.walk
  dsimp only
  split <;> simp

/-- A sweep ends in IDLE, or waits in SWEEPING for a place in Staging (R61). -/
theorem State.endSweep_state (h : s.swe.state = .sweeping) :
    s.endSweep.swe.state = .sweeping ∨ s.endSweep.swe.state = .idle ∧ s.endSweep.swe.endWait = false := by
  unfold State.endSweep
  dsimp only
  split
  · split
    · exact .inr ⟨rfl, rfl⟩
    · exact .inl h
  · exact .inr ⟨rfl, rfl⟩

theorem State.walk_state (h : s.swe.state = .sweeping) :
    s.walk.swe.state = .sweeping ∨ s.walk.swe.state = .idle ∧ s.walk.swe.endWait = false := by
  unfold State.walk
  dsimp only
  split
  · exact State.endSweep_state h
  · exact .inl h

/-- A walk goes on, or its sweep ends. -/
theorem State.walk_runs (h : s.swe.state = .sweeping) (habandoning : s.swe.abandoning = false) : s.walk.swe.Runs := by
  rcases State.walk_state h with hw | ⟨hw, hended⟩
  · exact ⟨by simp [hw], fun _ => hw, by simpa using habandoning⟩
  · exact ⟨by simp [hw], by simp [hended], by simpa using habandoning⟩

theorem State.finishAbandon_rests (h : s.swe.Rests) : s.finishAbandon.swe.Rests := by
  unfold State.finishAbandon
  split
  · split
    · split
      · exact s.swe.rest_rests
      · exact h
    · exact s.swe.rest_rests
  · exact h

/-- A sweep that is finished is abandoned no more. -/
theorem State.finishAbandon_abandoning (h : s.finishAbandon.swe.abandoning = true) : s.swe.abandoning = true := by
  unfold State.finishAbandon at h
  split at h
  next hab =>
    simp only [Bool.and_eq_true] at hab
    exact hab.1
  next => exact h

/-- The Sweep Engine stops, whatever it did (R55, R64). -/
theorem State.stopSweep_rests (h : s.swe.Sane) : s.stopSweep.swe.Rests := by
  have none_of (hstate : s.swe.state ≠ .sweeping) : s.swe.claim = none ∧ s.swe.endWait = false :=
    ⟨by simpa using mt h.claim hstate, by simpa using mt h.ended hstate⟩
  unfold State.stopSweep
  split
  next hstate => exact have hnone := none_of (by simp [hstate]); ⟨hstate, hnone.1, hnone.2⟩
  next hstate => exact have hnone := none_of (by simp [hstate]); ⟨rfl, hnone.1, hnone.2⟩
  next => exact State.finishAbandon_rests ⟨rfl, rfl, rfl⟩

theorem State.stopSweep_of_stopped (h : s.swe.state = .stopped) : s.stopSweep = s := by simp [State.stopSweep, h]

/-! ### The invariant, without its phases -/

/-- The device masters the bus: ACTIVE in RUNNING (R55). -/
def State.Masters (s : State) : Prop := s.ctl.exchangeState = .running ∧ s.msu.role = .active

/-- An abandoned sweep may wait: for the end of a wind-down, or of a drain (R64, R121, R185). -/
def State.MayAbandon (s : State) : Prop :=
  s.ctl.drainEnded = false ∧
    ((s.ctl.exchangeState = .running ∧ s.msu.windDown.isSome) ∨ s.ctl.exchangeState = .draining)

/-- The record found for a station is not held. -/
def State.NotHeld (s : State) (a : Nat) : Prop := ∀ r, s.station? a = some r → r.held = false

/-- A raised claim is that of the entry under the cursor, of a station not held, with no poll of the sweep open (R59). -/
def State.ClaimSound (s : State) : Prop :=
  ∀ a, s.swe.claim = some a →
    s.swe.state = .sweeping ∧ s.swe.endWait = false ∧ s.swe.active[s.swe.cursor]? = some a ∧
      (∀ x, s.exu.exchange = some x → x.claimant ≠ .sweep) ∧ s.NotHeld a

/-- The Sweep Engine runs as the device masters the bus, and rests otherwise. -/
structure State.SweepFollows (s : State) : Prop where
  runs : s.Masters → s.swe.Runs
  rests : ¬ s.Masters → s.swe.Rests
  abandons : s.swe.abandoning = true → s.MayAbandon
  claims : s.ClaimSound

theorem State.ClaimSound.of_none (h : s.swe.claim = none) : s.ClaimSound := fun a ha => by simp [h] at ha

theorem State.SweepFollows.of_runs (hs : s.Masters) (h : s.swe.Runs) (hclaim : s.ClaimSound) : s.SweepFollows :=
  ⟨fun _ => h, fun hnot => absurd hs hnot, fun hab => by simp [h.abandoning] at hab, hclaim⟩

theorem State.SweepFollows.of_rests (hs : ¬ s.Masters) (h : s.swe.Rests) (hab : s.swe.abandoning = true → s.MayAbandon) :
    s.SweepFollows :=
  ⟨fun hm => absurd hm hs, fun _ => h, hab, .of_none h.claim⟩

theorem State.SweepFollows.masters (h : s.SweepFollows) (hstate : s.swe.state ≠ .stopped) : s.Masters := by
  by_contra hnot
  exact hstate (h.rests hnot).state

theorem State.SweepFollows.sane (h : s.SweepFollows) : s.swe.Sane := by
  refine ⟨fun hclaim => ?_, fun hended => ?_⟩
  · obtain ⟨a, ha⟩ := Option.isSome_iff_exists.1 hclaim
    exact (h.claims a ha).1
  · by_cases hm : s.Masters
    · exact (h.runs hm).ended hended
    · simp [(h.rests hm).ended] at hended

/-- What the invariant reads of the Sweep Engine. -/
def SweepEngine.core (e : SweepEngine) : SweepState × Option Nat × Bool × Bool × List Nat × Nat :=
  (e.state, e.claim, e.endWait, e.abandoning, e.active, e.cursor)

theorem SweepEngine.core_eq_iff {e f : SweepEngine} :
    f.core = e.core ↔ f.state = e.state ∧ f.claim = e.claim ∧ f.endWait = e.endWait ∧ f.abandoning = e.abandoning ∧
      f.active = e.active ∧ f.cursor = e.cursor := by
  simp [SweepEngine.core]

theorem SweepEngine.Runs.of_core {e f : SweepEngine} (h : e.Runs) (hcore : f.core = e.core) : f.Runs := by
  obtain ⟨hstate, hclaim, hended, hab, hactive, hcursor⟩ := SweepEngine.core_eq_iff.1 hcore
  exact ⟨hstate ▸ h.state, by rw [hstate, hended]; exact h.ended, hab.trans h.abandoning⟩

theorem SweepEngine.Rests.of_core {e f : SweepEngine} (h : e.Rests) (hcore : f.core = e.core) : f.Rests := by
  obtain ⟨hstate, hclaim, hended, hab, hactive, hcursor⟩ := SweepEngine.core_eq_iff.1 hcore
  exact ⟨hstate.trans h.state, hclaim.trans h.claim, hended.trans h.ended⟩

/-- Nothing changes that the invariant reads, but that an exchange may close and a hold end. -/
structure State.SameSweep (s t : State) : Prop where
  masters : t.Masters ↔ s.Masters
  core : t.swe.core = s.swe.core
  abandons : s.MayAbandon → t.MayAbandon
  aim : s.SameAim t
  free : ∀ a, s.NotHeld a → t.NotHeld a

theorem State.ClaimSound.of_core (h : s.ClaimSound) (hcore : t.swe.core = s.swe.core) (haim : s.SameAim t)
    (hfree : ∀ a, s.swe.claim = some a → s.NotHeld a → t.NotHeld a) : t.ClaimSound := by
  obtain ⟨hstate, hclaim, hended, hab, hactive, hcursor⟩ := SweepEngine.core_eq_iff.1 hcore
  intro a ha
  rw [hclaim] at ha
  obtain ⟨hsweeping, hgoing, hcursor', hpoll, hheld⟩ := h a ha
  refine ⟨hstate.trans hsweeping, hended.trans hgoing, by rw [hactive, hcursor]; exact hcursor', fun y hy => ?_,
    hfree a ha hheld⟩
  obtain ⟨x, hx, hclaimant, -, -⟩ := haim y hy
  exact hclaimant ▸ hpoll x hx

theorem State.SweepFollows.of_same (h : s.SweepFollows) (hst : s.SameSweep t) : t.SweepFollows := by
  obtain ⟨hmasters, hcore, habandons, haim, hfree⟩ := hst
  refine ⟨fun hm => (h.runs (hmasters.1 hm)).of_core hcore, fun hm => (h.rests (mt hmasters.2 hm)).of_core hcore,
    fun hab => habandons (h.abandons ?_), h.claims.of_core hcore haim fun a _ => hfree a⟩
  exact (SweepEngine.core_eq_iff.1 hcore).2.2.2.1 ▸ hab

theorem State.MayAbandon.of_eq (h : s.MayAbandon) (hstate : t.ctl.exchangeState = s.ctl.exchangeState)
    (hended : t.ctl.drainEnded = s.ctl.drainEnded) (hwind : t.msu.windDown.isSome = s.msu.windDown.isSome) :
    t.MayAbandon := by
  unfold State.MayAbandon
  rw [hstate, hended, hwind]
  exact h

theorem State.masters_iff (hstate : t.ctl.exchangeState = s.ctl.exchangeState) (hrole : t.msu.role = s.msu.role) :
    t.Masters ↔ s.Masters := by
  rw [State.Masters, hstate, hrole, State.Masters]

theorem State.SameSweep.of_eq (hstate : t.ctl.exchangeState = s.ctl.exchangeState)
    (hended : t.ctl.drainEnded = s.ctl.drainEnded) (hrole : t.msu.role = s.msu.role)
    (hwind : t.msu.windDown.isSome = s.msu.windDown.isSome) (hcore : t.swe.core = s.swe.core) (haim : s.SameAim t)
    (hfree : ∀ a, s.NotHeld a → t.NotHeld a) : s.SameSweep t :=
  ⟨State.masters_iff hstate hrole, hcore, fun h => h.of_eq hstate hended hwind, haim, hfree⟩

theorem State.SameHolds.notHeld (h : s.SameHolds t) (a : Nat) (hs : s.NotHeld a) : t.NotHeld a := by
  intro q hq
  obtain ⟨r, hr, hrq⟩ := h.found a q hq
  exact hrq ▸ hs r hr

theorem State.NotHeld.of_stations (h : t.stations = s.stations) (a : Nat) (hs : s.NotHeld a) : t.NotHeld a :=
  (State.SameHolds.of_stations h).notHeld a hs

theorem State.SameSweep.of_frames (hctl : t.ctl = s.ctl) (hrole : t.msu.role = s.msu.role)
    (hwind : t.msu.windDown = s.msu.windDown) (hswe : t.swe.core = s.swe.core)
    (hx : t.exu.exchange = s.exu.exchange) (hst : t.stations = s.stations) : s.SameSweep t :=
  .of_eq (by rw [hctl]) (by rw [hctl]) hrole (by rw [hwind]) hswe (.of_eq hx) (State.NotHeld.of_stations hst)

/-! ### The role leaves ACTIVE, and enters it -/

theorem State.roleLeft_mayAbandon (h : s.SweepFollows) (hp : s.Phases) (reason : RoleReason) (tag : Option (BitVec 1))
    (hab : (s.roleLeft reason tag).swe.abandoning = true) : (s.roleLeft reason tag).MayAbandon := by
  have hctl : (s.roleLeft reason tag).ctl = s.ctl := by simp [State.roleLeft]
  rw [State.MayAbandon, hctl]
  by_cases hrunning : s.ctl.exchangeState = .running
  · exact ⟨(hp.not_draining (by simp [hrunning])).2.1, .inl ⟨hrunning, by simp [State.roleLeft]⟩⟩
  · have hrests := h.rests fun hm => hrunning hm.1
    have hkept : s.swe.abandoning = true := by
      rwa [State.roleLeft, State.stopSweep_of_stopped (by exact hrests.state)] at hab
    obtain ⟨hgoing, ⟨hs, -⟩ | hdraining⟩ := h.abandons hkept
    · exact absurd hs hrunning
    · exact ⟨hgoing, .inr hdraining⟩

theorem State.roleLeft_follows (h : s.SweepFollows) (hp : s.Phases) (reason : RoleReason) (tag : Option (BitVec 1)) :
    (s.roleLeft reason tag).SweepFollows := by
  refine .of_rests (fun hm => ?_) ?_ (State.roleLeft_mayAbandon h hp reason tag)
  · simp [State.Masters, State.roleLeft] at hm
  · exact State.stopSweep_rests ⟨h.sane.claim, h.sane.ended⟩

theorem State.leaveActive_follows (h : s.SweepFollows) (hp : s.Phases) (reason : RoleReason) (tag : Option (BitVec 1)) :
    (s.leaveActive reason tag).SweepFollows := by
  have hleft := State.roleLeft_follows h hp reason tag
  rw [State.leaveActive_eq]
  split
  · exact hleft.of_same (.of_frames (by simp) (by simp) (by simp) (by simp) (by simp) (by simp))
  · exact hleft

theorem State.hostAttention_follows (h : s.SweepFollows) (hp : s.Phases) : s.hostAttention.SweepFollows := by
  unfold State.hostAttention
  split
  · exact h
  · exact h.of_same (.of_frames (by simp) (by simp) (by simp) (by simp) (by simp) (by simp))
  · refine State.leaveActive_follows (h.of_same ?_) (hp.of_ctl (by simp)) _ _
    exact .of_frames (by simp) (by simp) (by simp) (by simp) (by simp) (by simp)

theorem State.contest_follows (h : s.SweepFollows) (hp : s.Phases) (tag : BitVec 1) : (s.contest tag).SweepFollows := by
  have hnoted : (State.setEvent .role { s with msu.contestCount := s.msu.contestCount + 1 }).SweepFollows :=
    h.of_same (.of_frames (by simp) (by simp) (by simp) (by simp) (by simp) (by simp))
  unfold State.contest
  dsimp only
  split
  · exact State.leaveActive_follows hnoted (hp.of_ctl (by simp)) _ _
  · exact hnoted

/-- Learned replies change no hold, and an overheard exchange nothing that the Sweep Engine follows. -/
theorem State.heard_follows (h : s.SweepFollows) (hp : s.Phases) (lane : LaneId) (t : Option Telegram) :
    (s.heard lane t).SweepFollows := by
  unfold State.heard
  split
  · split
    · exact State.contest_follows h hp _
    all_goals exact h
  · refine h.of_same (.of_eq (by simp) (by simp) (by simp) (by simp) (by simp) (.of_eq (by simp)) ?_)
    exact (State.overhear_hears s lane t).sameHolds.notHeld
  · exact h

/-- A role that enters ACTIVE leaves no abandoned sweep behind: its wind-down has ended (R113, R118, R121). -/
theorem State.enterActive_follows (h : s.SweepFollows) (running : s.ctl.exchangeState = .running)
    (listen : s.msu.role = .listen) (hab : s.swe.abandoning = false) (reason : RoleReason) :
    (s.enterActive reason).SweepFollows := by
  have hrests := h.rests fun hm => by simp [hm.2] at listen
  have hswe : (s.enterActive reason).swe = { s.swe with state := .idle, startDue := true } := by
    unfold State.enterActive
    dsimp only
    split <;> simp [State.readySweep]
  have hrole : (s.enterActive reason).msu.role = .active := by
    unfold State.enterActive
    dsimp only
    split <;> simp
  refine .of_runs ⟨by simpa using running, hrole⟩ ?_ (.of_none ?_)
  · rw [hswe]
    exact ⟨nofun, by simp [hrests.ended], hab⟩
  · rw [hswe]
    exact hrests.claim

theorem State.carryOutClaim_follows (h : s.SweepFollows) (running : s.ctl.exchangeState = .running)
    (listen : s.msu.role = .listen) (hab : s.swe.abandoning = false) (o : Order) : (s.carryOutClaim o).SweepFollows := by
  have hshift : ({ s with msu.shift := 0 } : State).SweepFollows :=
    h.of_same (.of_frames rfl rfl rfl rfl rfl rfl)
  have hactive := State.enterActive_follows hshift running listen hab .claimed
  unfold State.carryOutClaim
  dsimp only
  split <;> exact hactive.of_same (.of_frames rfl rfl rfl rfl rfl rfl)

theorem State.endWindDown_follows (h : s.SweepFollows) (hab : s.swe.abandoning = false) : s.endWindDown.SweepFollows := by
  have hended : ({ s with msu.windDown := none } : State).SweepFollows :=
    ⟨h.runs, h.rests, fun hab' => by simp [hab] at hab', h.claims⟩
  unfold State.endWindDown
  dsimp only
  split
  next hlisten =>
    simp only [State.running, Bool.and_eq_true, decide_eq_true_eq] at hlisten
    have htimer : ({ s with msu.windDown := none, msu.takeoverTimer := true } : State).SweepFollows :=
      hended.of_same (.of_frames rfl rfl rfl rfl rfl rfl)
    split
    · exact State.carryOutClaim_follows htimer hlisten.1 hlisten.2 hab _
    · exact htimer
  next => exact hended

/-! ### An exchange closes (R60, R123) -/

/-- A poll of the sweep closes: no claim was raised beside it (R59, R60). -/
theorem State.sweepPollClosed_follows (h : s.SweepFollows) (hclaim : s.swe.claim = none) (miss : Bool) :
    (s.sweepPollClosed miss).SweepFollows := by
  unfold State.sweepPollClosed
  dsimp only
  split
  next hsweeping =>
    have hstate : s.swe.state = .sweeping := by simpa [State.sweeping] using hsweeping
    have hm := h.masters (by simp [hstate])
    refine .of_runs ?_ (State.walk_runs hstate (h.runs hm).abandoning) (.of_none ?_)
    · exact (State.masters_iff (by simp) (by simp)).2 hm
    · rw [State.walk_swe_claim]
      exact hclaim
  next =>
    split
    next hab =>
      have hnot : ¬ s.Masters := fun hm => by simp [(h.runs hm).abandoning] at hab
      have hrests := h.rests hnot
      refine .of_rests ?_ (State.finishAbandon_rests ⟨hrests.state, hrests.claim, hrests.ended⟩) fun _ => ?_
      · exact mt (State.masters_iff (by simp) (by simp)).1 hnot
      · exact (h.abandons hab).of_eq (by simp) (by simp) (by simp)
    next => exact h

theorem State.told_follows (h : s.SweepFollows) (x : Exchange) (hclaim : x.claimant = .sweep → s.swe.claim = none)
    (o : ExchangeOutcome) (reports : List ValueEntry) : (s.told x o reports).SweepFollows := by
  unfold State.told
  split
  · exact h.of_same (.of_frames (by simp) (by simp) (by simp) (by simp) (by simp) (by simp))
  next hx => exact State.sweepPollClosed_follows h (hclaim hx) _
  · exact h

/-- The role waits for a close outside RUNNING alone. -/
def State.ClosesOutside (s : State) : Prop := s.msu.offAtClose = true → s.ctl.exchangeState ≠ .running

/-- The role at a close: OFF where it waited for it (R123). -/
def State.roleClosed (s : State) : State :=
  if s.msu.offAtClose then { s with msu.role := .off, msu.offAtClose := false, exu.overheard := none } else s

theorem State.afterClose_eq (s : State) :
    s.afterClose =
      if s.roleClosed.ctl.exchangeState = .faulted then { s.roleClosed with msu.windDown := none } else s.roleClosed :=
        rfl

theorem State.roleClosed_follows (h : s.SweepFollows) (hoff : s.ClosesOutside) : s.roleClosed.SweepFollows := by
  unfold State.roleClosed
  split
  next hclose =>
    have hrests := h.rests fun hm => hoff hclose hm.1
    exact .of_rests (fun hm => by simp [State.Masters] at hm) hrests h.abandons
  next => exact h

/-- In FAULTED the wind-down ends at the close; no abandoned sweep waits for it there (R121). -/
theorem State.afterClose_follows (h : s.SweepFollows) (hoff : s.ClosesOutside) : s.afterClose.SweepFollows := by
  have hrole := State.roleClosed_follows h hoff
  rw [State.afterClose_eq]
  split
  next hfaulted =>
    refine ⟨hrole.runs, hrole.rests, fun hab => ?_, hrole.claims⟩
    obtain ⟨-, ⟨hs, -⟩ | hs⟩ := hrole.abandons hab
    · simp [hs] at hfaulted
    · simp [hs] at hfaulted
  next => exact hrole

theorem State.closed_follows (h : s.SweepFollows) (x : Exchange) (o : ExchangeOutcome) : (s.closed x o).SweepFollows := by
  refine h.of_same (.of_eq (by simp) (by simp) (by simp) (by simp) (by simp) (.of_none rfl) ?_)
  have hst : (s.closed x o).stations = (s.closeExchange x o).stations :=
    (s.closed_stations x o).trans (s.closeExchange_stations x o).symm
  exact ((s.closeExchange_sameHolds x o).trans (.of_stations hst)).notHeld

theorem State.closeExchange_follows (h : s.SweepFollows) (hoff : s.ClosesOutside) {x : Exchange}
    (hx : s.exu.exchange = some x) (o : ExchangeOutcome) : (s.closeExchange x o).SweepFollows := by
  have hclaim (hsweep : x.claimant = .sweep) : s.swe.claim = none := by
    by_contra hraised
    obtain ⟨a, ha⟩ := Option.ne_none_iff_exists'.1 hraised
    exact (h.claims a ha).2.2.2.1 x hx hsweep
  rw [State.closeExchange_eq]
  refine State.afterClose_follows (State.told_follows (State.closed_follows h x o) x (by simpa using hclaim) o _) ?_
  simpa [State.ClosesOutside] using hoff

theorem State.weighed_sameSweep (s : State) (x : Exchange) : s.SameSweep (s.weighed x) :=
  .of_eq (by simp) (by simp) (by simp) (by simp) (by simp) (.of_eq (by simp)) (s.weighed_prefers x).sameHolds.notHeld

theorem State.retry_sameAim {x : Exchange} (hx : s.exu.exchange = some x) : s.SameAim ((s.weighed x).retry x) := by
  rintro y ⟨⟩
  exact ⟨x, hx, rfl, rfl, rfl⟩

theorem State.checkAttempt_follows (h : s.SweepFollows) (hoff : s.ClosesOutside) : s.checkAttempt.SweepFollows := by
  rcases s.checkAttempt_cases with he | ⟨x, hx, -, he⟩
  · rwa [he]
  · have hweighed := h.of_same (s.weighed_sameSweep x)
    rw [he]
    rcases s.attemptEnd_cases x with ⟨w, o, hw, hclose⟩ | ⟨-, -, hretry⟩
    · rw [hclose]
      cases hw with
      | latch | mark => exact State.closeExchange_follows h hoff hx _
      | reply | miss =>
        exact State.closeExchange_follows hweighed (by simpa [State.ClosesOutside] using hoff) (by simpa using hx) _
    · rw [hretry]
      refine h.of_same (.of_eq (by simp) (by simp) (by simp) (by simp) (by simp) (State.retry_sameAim hx) ?_)
      exact ((s.weighed_prefers x).sameHolds.trans (.of_stations (by simp))).notHeld

theorem State.telegram_follows (h : s.SweepFollows) (hp : s.Phases) (hoff : s.ClosesOutside) (lane : LaneId)
    (t : Option Telegram) : (s.telegram lane t).SweepFollows := by
  have hcounted : (s.counted lane t).SweepFollows :=
    h.of_same (.of_frames (by simp) (by simp) (by simp) (by simp) (by simp) (by simp))
  rcases s.telegram_cases lane t with ht | ht
  · rw [ht]
    exact State.heard_follows hcounted (hp.of_ctl (by simp)) lane t
  · rw [ht]
    have hjudged : ((s.counted lane t).judgeReply lane t).SweepFollows :=
      hcounted.of_same (.of_eq (by simp) (by simp) (by simp) (by simp) (by simp)
        ((s.counted lane t).judgeReply_sameAim lane t) (State.NotHeld.of_stations (by simp)))
    refine State.checkAttempt_follows (State.heard_follows hjudged (hp.of_ctl (by simp)) lane t) ?_
    simpa [State.ClosesOutside] using hoff

/-! ### Grants (R59, R101) -/

theorem State.skipClaim_follows (h : s.SweepFollows) {a : Nat} (hclaim : s.swe.claim = some a) :
    s.skipClaim.SweepFollows := by
  have hstate := (h.claims a hclaim).1
  have hm := h.masters (by simp [hstate])
  unfold State.skipClaim
  exact .of_runs ((State.masters_iff (by simp) (by simp)).2 hm) (State.walk_runs hstate (h.runs hm).abandoning)
    (.of_none (by simp))

/-- A claim stands while the exchange that opens is not a poll of the sweep. -/
theorem State.openExchange_follows {w : State} (h : s.SweepFollows) (hctl : w.ctl = s.ctl)
    (hmsu : w.msu.role = s.msu.role)
    (hwind : w.msu.windDown = s.msu.windDown) (hswe : w.swe = s.swe) (hst : w.stations = s.stations) {x : Exchange}
    (hx : x.claimant ≠ .sweep) (probe : Bool) : (w.openExchange x probe).SweepFollows := by
  have hclaims : (w.openExchange x probe).ClaimSound := by
    intro a ha
    rw [State.openExchange_swe, hswe] at ha
    obtain ⟨hstate, hended, hcursor, -, hheld⟩ := h.claims a ha
    refine ⟨by simpa [hswe] using hstate, by simpa [hswe] using hended, by simpa [hswe] using hcursor, ?_,
      State.NotHeld.of_stations (by simpa using hst) a hheld⟩
    rintro y ⟨⟩
    exact hx
  have hm : (w.openExchange x probe).Masters ↔ s.Masters := State.masters_iff (by simp [hctl]) (by simp [hmsu])
  refine ⟨fun hm' => ?_, fun hm' => ?_, fun hab => ?_, hclaims⟩
  · simpa [hswe] using h.runs (hm.1 hm')
  · simpa [hswe] using h.rests (mt hm.2 hm')
  · exact (h.abandons (by simpa [hswe] using hab)).of_eq (by simp [hctl]) (by simp [hctl]) (by simp [hwind])

theorem State.entryExchange_claimant (o : Order) (r : StationRecord) : (entryExchange o r).claimant = .busEntry := by
  unfold entryExchange
  split <;> rfl

theorem State.Grants.follows (g : s.Grants t) (h : s.SweepFollows) (hgrant : s.grantOpen = true) : t.SweepFollows := by
  obtain ⟨hactive, hrunning, -⟩ := State.grantOpen_iff.1 hgrant
  cases g with
  | same => exact h
  | ended i e => exact h.of_same (.of_frames (by simp) (by simp) (by simp) (by simp) (by simp) (by simp))
  | skipped a claimed => exact State.skipClaim_follows h claimed
  | latchAll i e => exact State.openExchange_follows h (by rfl) (by rfl) (by rfl) (by rfl) (by rfl) (by decide) _
  | entry i e r x queued found opens =>
    refine State.openExchange_follows h (by rfl) (by rfl) (by rfl) (by rfl) (by rfl) ?_ _
    rcases opens with ⟨-, rfl⟩ | ⟨-, rfl⟩
    · simp [State.entryExchange_claimant]
    · simp [queryExchange, Exchange.new]
  | poll a r found =>
    have hruns := h.runs ⟨hrunning, hactive⟩
    exact .of_runs ⟨hrunning, hactive⟩ ⟨hruns.state, hruns.ended, hruns.abandoning⟩ (.of_none rfl)
  | mark => exact State.openExchange_follows h (by rfl) (by rfl) (by rfl) (by rfl) (by rfl) (by decide) _

/-! ### Holds and retirement (R8, R63) -/

theorem State.holdStation_eq (s : State) (a : Nat) :
    s.holdStation a =
      if s.swe.claim = some a then (s.updateStation a fun r => { r with held := true }).skipClaim
      else s.updateStation a fun r => { r with held := true } := rfl

theorem State.updateStation_notHeld {a b : Nat} (hab : b ≠ a) (f : StationRecord → StationRecord)
    (hf : ∀ r, (f r).address = r.address) (h : s.NotHeld b) : (s.updateStation a f).NotHeld b := by
  intro q hq
  have hkept : ∀ r ∈ s.stations, (if r.address = a then f r else r).address = r.address := by
    intro r _
    split
    · exact hf r
    · rfl
  rw [State.station?_of_map (t := s.updateStation a f) rfl hkept, Option.map_eq_some_iff] at hq
  obtain ⟨r, hr, rfl⟩ := hq
  rw [if_neg (by rw [State.station?_address hr]; exact hab)]
  exact h r hr

/-- A claim raised for a station that becomes held is withdrawn (R59). -/
theorem State.holdStation_follows (h : s.SweepFollows) (a : Nat) : (s.holdStation a).SweepFollows := by
  let t : State := s.updateStation a fun r => { r with held := true }
  rw [State.holdStation_eq]
  split
  next hclaim =>
    have hstate := (h.claims a hclaim).1
    have hm := h.masters (by simp [hstate])
    unfold State.skipClaim
    exact .of_runs ((State.masters_iff (by simp) (by simp)).2 hm) (State.walk_runs hstate (h.runs hm).abandoning)
      (.of_none (by simp))
  next hclaim =>
    refine ⟨h.runs, h.rests, h.abandons, h.claims.of_core rfl (.of_eq rfl) fun b hb => ?_⟩
    refine State.updateStation_notHeld ?_ _ fun _ => rfl
    rintro rfl
    exact hclaim hb

theorem State.holdStation_claim (s : State) (a : Nat) : (s.holdStation a).swe.claim ≠ some a := by
  rw [State.holdStation_eq]
  split
  · simp
  next hclaim => exact hclaim

/-- An entry keeps its place as the entries of another station leave the list below it (R63). -/
theorem getElem?_retired {l : List Nat} {i a b : Nat} (h : l[i]? = some b) (hab : b ≠ a) :
    (l.filter (fun c => c ≠ a))[i - ((l.take i).filter (fun c => c = a)).length]? = some b := by
  obtain ⟨hi, hb⟩ := List.getElem?_eq_some_iff.1 h
  have hsplit : l = l.take i ++ b :: l.drop (i + 1) := by
    rw [← hb, List.getElem_cons_drop, List.take_append_drop]
  have hcount : i - ((l.take i).filter (fun c => c = a)).length = ((l.take i).filter (fun c => c ≠ a)).length := by
    have htotal := List.length_eq_length_filter_add (l := l.take i) (fun c => c = a)
    rw [List.length_take, min_eq_left hi.le] at htotal
    simp only [ne_eq, decide_not]
    omega
  have hfilter : l.filter (fun c => c ≠ a) =
      (l.take i).filter (fun c => c ≠ a) ++ b :: (l.drop (i + 1)).filter (fun c => c ≠ a) := by
    conv_lhs => rw [hsplit]
    rw [List.filter_append, List.filter_cons_of_pos (by simpa using hab)]
  rw [hcount, hfilter, List.getElem?_append_right le_rfl, Nat.sub_self, List.getElem?_cons_zero]

/-- A station and its entries gone, the cursor moved back by the entries below it, before the walk (R63). -/
def State.retired (a : Nat) (r : StationRecord) (s : State) : State :=
  { s.resetWindow r with
    stations := s.stations.filter (fun q => q.address ≠ a)
    swe.active := s.swe.active.filter (fun b => b ≠ a)
    swe.pendingList := s.swe.pendingList.filter (fun b => b ≠ a)
    swe.cursor :=
      if s.sweeping then s.swe.cursor - ((s.swe.active.take s.swe.cursor).filter (fun b => b = a)).length
      else s.swe.cursor }

theorem State.retireStation_eq {a : Nat} {r : StationRecord} (hr : s.station? a = some r) :
    s.retireStation a =
      if s.sweeping && s.cursorNames a then (s.retired a r).walk else s.retired a r := by
  simp only [State.retireStation, hr]
  rfl

theorem State.retired_claims (h : s.SweepFollows) {a : Nat} (hclaim : s.swe.claim ≠ some a) (r : StationRecord) :
    (s.retired a r).ClaimSound := by
  intro b hb
  have hba : b ≠ a := by
    rintro rfl
    exact hclaim hb
  obtain ⟨hstate, hended, hcursor, hpoll, hheld⟩ := h.claims b hb
  refine ⟨hstate, hended, ?_, hpoll, fun q hq => hheld q ?_⟩
  · simp only [State.retired, State.sweeping, hstate, decide_true, if_true]
    exact getElem?_retired hcursor hba
  · rw [State.station?, State.retired, find?_retired hba] at hq
    exact hq

theorem State.retireStation_follows (h : s.SweepFollows) {a : Nat}
    (hfree : ∀ r, s.station? a = some r → s.swe.claim ≠ some a) :
    (s.retireStation a).SweepFollows := by
  cases hr : s.station? a with
  | none => rwa [State.retireStation_none hr]
  | some r =>
    have hclaim := hfree r hr
    have hclaims := State.retired_claims h hclaim r
    rw [State.retireStation_eq hr]
    split
    next hcursor =>
      simp only [Bool.and_eq_true, State.sweeping, State.cursorNames, decide_eq_true_eq] at hcursor
      obtain ⟨hstate, hnames⟩ := hcursor
      have hm := h.masters (by simp [hstate])
      have hnone : s.swe.claim = none := by
        by_contra hraised
        obtain ⟨b, hb⟩ := Option.ne_none_iff_exists'.1 hraised
        have hat := (h.claims b hb).2.2.1
        rw [hnames] at hat
        exact hclaim (hb.trans hat.symm)
      refine .of_runs ?_ (State.walk_runs hstate (h.runs hm).abandoning) (.of_none ?_)
      · exact (State.masters_iff (by rw [State.walk_ctl]; rfl) (by rw [State.walk_msu]; rfl)).2 hm
      · rw [State.walk_swe_claim]
        exact hnone
    next =>
      exact ⟨fun hm => ⟨(h.runs hm).state, (h.runs hm).ended, (h.runs hm).abandoning⟩,
        fun hm => ⟨(h.rests hm).state, (h.rests hm).claim, (h.rests hm).ended⟩, h.abandons, hclaims⟩

theorem State.clearHeld_follows (h : s.SweepFollows) (a : Nat) : (s.clearHeld a).SweepFollows := by
  refine ⟨h.runs, h.rests, h.abandons, h.claims.of_core rfl (.of_eq rfl) fun b _ hb q hq => ?_⟩
  have hkept : ∀ r ∈ s.stations, (if r.address = a then { r with held := false } else r).address = r.address := by
    intro r _
    split <;> rfl
  rw [State.station?_of_map (t := s.clearHeld a) rfl hkept, Option.map_eq_some_iff] at hq
  obtain ⟨r, hr, rfl⟩ := hq
  split
  · rfl
  · exact hb r hr

theorem State.applyHeld_follows (h : s.SweepFollows) {o : Order}
    (hfree : ∀ r, s.station? o.station = some r → s.swe.claim ≠ some o.station) :
    (s.applyHeld o).SweepFollows := by
  have hcleared := State.clearHeld_follows h o.station
  unfold State.applyHeld
  split
  · exact (State.retireStation_follows h hfree).of_same (.of_frames rfl rfl rfl rfl rfl rfl)
  · split
    · refine (State.clearHeld_follows (s := s.applyShape o _) (h.of_same ?_) o.station).of_same
        (.of_frames rfl rfl rfl rfl rfl rfl)
      exact .of_frames (by simp) (by simp) (by simp) (by simp) (by simp) (by simp)
    · exact hcleared.of_same (.of_frames rfl rfl rfl rfl rfl rfl)

theorem State.holdOrApply_follows (h : s.SweepFollows) (o : Order) : (s.holdOrApply o).SweepFollows := by
  have hheld := State.holdStation_follows h o.station
  unfold State.holdOrApply
  dsimp only
  split
  · exact State.applyHeld_follows hheld fun _ _ => s.holdStation_claim _
  · exact hheld.of_same (.of_frames rfl rfl rfl rfl rfl rfl)

/-! ### The invariant (R55) -/

theorem State.sweepSound_iff :
    s.SweepSound ↔ s.Phases ∧ s.SweepFollows ∧ s.ClosesOutside ∧
      ∀ o r, s.oru.hand = .holdWait o → s.station? o.station = some r → r.held = true := by
  constructor
  · rintro ⟨phases, stopped, claim, ended, abandoned, closing, hold⟩
    refine ⟨phases, ⟨fun hm => ⟨fun hs => stopped.1 hs hm, ended, ?_⟩, fun hm => ⟨stopped.2 hm, ?_, ?_⟩,
      fun hab => (abandoned hab).2, claim⟩, closing, hold⟩
    · by_contra hab
      exact stopped.1 (abandoned (by simpa using hab)).1 hm
    · by_contra hraised
      obtain ⟨a, ha⟩ := Option.ne_none_iff_exists'.1 hraised
      exact absurd ((stopped.2 hm).symm.trans (claim a ha).1) nofun
    · by_contra hended
      exact absurd ((stopped.2 hm).symm.trans (ended (by simpa using hended))) nofun
  · rintro ⟨phases, h, closing, hold⟩
    refine ⟨phases, ⟨fun hs hm => (h.runs hm).state hs, fun hm => (h.rests hm).state⟩, h.claims, h.sane.ended,
      fun hab => ⟨?_, h.abandons hab⟩, closing, hold⟩
    by_contra hstate
    simp [(h.runs (h.masters hstate)).abandoning] at hab

theorem State.afterClose_offAtClose (s : State) : s.afterClose.msu.offAtClose = false := by
  have hrole : s.roleClosed.msu.offAtClose = false := by
    unfold State.roleClosed
    split
    · rfl
    next hclose => simpa using hclose
  rw [State.afterClose_eq]
  split <;> exact hrole

theorem State.checkAttempt_offAtClose (h : s.checkAttempt.msu.offAtClose = true) : s.msu.offAtClose = true := by
  rcases s.checkAttempt_cases with he | ⟨x, -, -, he⟩
  · rwa [he] at h
  · rw [he] at h
    rcases s.attemptEnd_cases x with ⟨w, o, -, hclose⟩ | ⟨-, -, hretry⟩
    · rw [hclose, State.closeExchange_eq, State.afterClose_offAtClose] at h
      cases h
    · rw [hretry] at h
      simpa using h

theorem State.telegram_offAtClose {lane : LaneId} {t : Option Telegram} (h : (s.telegram lane t).msu.offAtClose = true) :
    s.msu.offAtClose = true := by
  rcases s.telegram_cases lane t with ht | ht
  · simpa [ht] using h
  · rw [ht] at h
    simpa using State.checkAttempt_offAtClose h

/-- The role waits for a close outside RUNNING alone: a drain has begun (R123). -/
theorem State.ClosesOutside.effect (h : s.ClosesOutside) (e : s.Effect u) : u.ClosesOutside := by
  have kept (hctl : u.ctl.exchangeState = s.ctl.exchangeState) (hoff : u.msu.offAtClose = true →
    s.msu.offAtClose = true) :
      u.ClosesOutside := fun hu => hctl ▸ h (hoff hu)
  cases e with
  | powerOn | reset | takeStart | haltFromFault | drainExpired | drainExpiredEnd => exact nofun
  | beginDrain => exact fun _ => by simp
  | fault | finalReportWritten => exact fun _ => nofun
  | drainEnd | refuseStart => exact h
  | markSent | windowExpired =>
    exact kept (by simp) fun hoff => by simpa using State.checkAttempt_offAtClose hoff
  | telegram lane t => exact kept (by simp) State.telegram_offAtClose
  | _ => exact kept (by simp) (by simp)

theorem State.beginDrain_follows (h : s.SweepFollows) (hp : s.Phases) (running : s.ctl.exchangeState = .running) :
    s.beginDrain.SweepFollows := by
  have hswe : s.beginDrain.swe = (s.drainBegun.forbidRetry.stopSweep).swe := by simp [State.beginDrain_eq]
  refine .of_rests (fun hm => ?_) ?_ fun _ => ⟨?_, .inr ?_⟩
  · simp [State.Masters] at hm
  · rw [hswe]
    exact State.stopSweep_rests ⟨h.sane.claim, h.sane.ended⟩
  · simp [(hp.not_draining (by simp [running])).2.1]
  · simp

/-- A device neither RUNNING nor DRAINING has no abandoned sweep. -/
theorem State.SweepFollows.not_abandoning (h : s.SweepFollows) (hrunning : s.ctl.exchangeState ≠ .running)
    (hdraining : s.ctl.exchangeState ≠ .draining) : s.swe.abandoning = false := by
  by_contra hab
  obtain ⟨-, ⟨hs, -⟩ | hs⟩ := h.abandons (by simpa using hab)
  · exact hrunning hs
  · exact hdraining hs

theorem reset_sweepFollows : State.reset.SweepFollows :=
  .of_rests (by simp [State.Masters, State.reset, Control.reset]) ⟨rfl, rfl, rfl⟩ nofun

theorem State.takeStart_follows (s : State) (base : Quad) (d : Directory) (b : HostBlock) :
    (s.takeStart base d b).SweepFollows := by
  by_cases hactive : d.startRole = .active
  · exact .of_runs ⟨rfl, hactive⟩ ⟨by simp [State.takeStart, hactive], nofun, rfl⟩ (.of_none rfl)
  · exact .of_rests (fun hm => hactive hm.2) ⟨by simp [State.takeStart, hactive], rfl, rfl⟩ nofun

theorem State.beginSweep_follows (h : s.SweepFollows) (idle : s.swe.state = .idle) : s.beginSweep.SweepFollows := by
  have hm := h.masters (by simp [idle])
  have hnone : s.swe.claim = none := by
    by_contra hraised
    have hstate := h.sane.claim (by simpa [Option.isSome_iff_ne_none] using hraised)
    simp [idle] at hstate
  refine .of_runs ((State.masters_iff (by simp) (by simp)).2 hm) (State.walk_runs rfl (h.runs hm).abandoning) (.of_none ?_)
  unfold State.beginSweep
  rw [State.walk_swe_claim]
  exact hnone

/-- The swap changes the Active Scan List, with no claim raised (R54, R56). -/
theorem State.swapped_follows (h : s.SweepFollows) (hstate : s.swe.state ≠ .sweeping) :
    ({ s with swe := s.swe.swap } : State).SweepFollows := by
  have hnone : s.swe.claim = none := by simpa using mt h.sane.claim hstate
  exact ⟨fun hm => ⟨(h.runs hm).state, (h.runs hm).ended, (h.runs hm).abandoning⟩,
    fun hm => ⟨(h.rests hm).state, (h.rests hm).claim, (h.rests hm).ended⟩, h.abandons, .of_none hnone⟩

/-- With no wind-down an abandoned sweep has ended as the device runs. -/
theorem State.SweepFollows.not_abandoning_of_role (h : s.SweepFollows) (running : s.ctl.exchangeState = .running)
    (windDown : s.msu.windDown = none) : s.swe.abandoning = false := by
  by_contra hab
  obtain ⟨-, ⟨-, hs⟩ | hs⟩ := h.abandons (by simpa using hab)
  · simp [windDown] at hs
  · simp [running] at hs

theorem State.enrolled_notHeld {o : Order} {r : StationRecord} (hr : s.Enrollable o r) {w : State}
    (hw : w.stations = insertRecord r s.stations) (a : Nat) (h : s.NotHeld a) : w.NotHeld a := by
  intro q hq
  by_cases hra : r.address = a
  · have hmem := State.station?_mem hq
    rw [hw, mem_insertRecord] at hmem
    rcases hmem with rfl | hmem
    · exact (Order.enrolRecord?_asEnrolled hr.record).free
    · have hnone : ∀ p ∈ s.stations, p.address ≠ r.address := by simpa [State.station?] using hr.fresh
      exact absurd ((State.station?_address hq).trans hra.symm) (hnone q hmem)
  · rw [State.station?, hw, find?_insertRecord hra] at hq
    exact h q hq

theorem State.claimRaised_follows (h : s.SweepFollows) {a : Nat} (claimable : s.claimable = some a) :
    ({ s with swe.claim := some a } : State).SweepFollows := by
  unfold State.claimable at claimable
  split at claimable
  next hready =>
    simp only [State.sweeping, Bool.and_eq_true, decide_eq_true_eq, Bool.not_eq_true'] at hready
    obtain ⟨⟨⟨hstate, hended⟩, -⟩, hpoll⟩ := hready
    obtain ⟨hcursor, hheld⟩ := Option.filter_eq_some_iff.1 claimable
    have hm := h.masters (by simp [hstate])
    have hruns := h.runs hm
    refine .of_runs hm ⟨hruns.state, hruns.ended, hruns.abandoning⟩ ?_
    rintro b ⟨⟩
    refine ⟨hstate, hended, hcursor, fun x hx hsweep => ?_, fun r hr => ?_⟩
    · change s.exu.exchange = some x at hx
      simp [State.sweepPollOpen, hx, hsweep] at hpoll
    · change s.station? a = some r at hr
      simpa [hr] using hheld
  next => cases claimable

theorem State.SweepFollows.effect (h : s.SweepFollows) (hp : s.Phases) (hoff : s.ClosesOutside)
    (hheld : ∀ o r, s.oru.hand = .holdWait o → s.station? o.station = some r → r.held = true) (e : s.Effect u) :
    u.SweepFollows := by
  have at_rest {w : State} (hs : w.ctl.exchangeState ≠ .running) (hw : w.swe = s.swe.rest) : w.SweepFollows :=
    .of_rests (fun hm => hs hm.1) (hw ▸ s.swe.rest_rests) (by simp [hw, SweepEngine.rest])
  have outside {w : State} (hs : s.ctl.exchangeState ≠ .running) (hw : w.ctl.exchangeState ≠ .running) (hswe : w.swe = s.swe)
      (hab : s.swe.abandoning = true → w.MayAbandon) : w.SweepFollows :=
    .of_rests (fun hm => hw hm.1) (hswe ▸ h.rests fun hm => hs hm.1) (by rwa [hswe])
  cases e with
  | powerOn => exact reset_sweepFollows.of_same (.of_frames rfl rfl rfl rfl rfl rfl)
  | reset => exact reset_sweepFollows.of_same (.of_eq rfl rfl rfl rfl rfl (.of_eq rfl) (State.NotHeld.of_stations rfl))
  | beginDrain running => exact State.beginDrain_follows h hp running
  | fault => exact at_rest nofun rfl
  | drainExpiredEnd draining | drainEnd draining => exact at_rest (by simp [State.endDrain, draining]) rfl
  | haltFromFault faulted =>
    have hnone := h.not_abandoning (by simp [faulted]) (by simp [faulted])
    exact outside (by simp [faulted]) nofun rfl fun hab => by simp [hnone] at hab
  | drainExpired draining =>
    exact outside (by simp [draining]) (by simp [draining]) rfl fun hab => ⟨(h.abandons hab).1, .inr draining⟩
  | finalReportWritten _ ended =>
    have hs := hp.drain (.inr (.inl ended))
    exact outside (by simp [hs]) nofun rfl fun hab => by simp [(h.abandons hab).1] at ended
  | start | areaLo | areaHi | directoryPassed | refuseStart =>
    exact h.of_same (.of_eq rfl rfl rfl rfl rfl (.of_eq rfl) (State.NotHeld.of_stations rfl))
  | takeStart base d b => exact State.takeStart_follows s base d b
  | attentionExpired =>
    exact State.hostAttention_follows (s := { s with rpu.attention := .expired })
      (h.of_same (.of_frames rfl rfl rfl rfl rfl rfl)) (hp.of_ctl rfl)
  | enrol o r taken checked =>
    exact h.of_same (.of_eq rfl rfl rfl rfl rfl (.of_eq rfl) (State.enrolled_notHeld (State.checkEnrol_ok_iff.1 checked) rfl))
  | retire o | shape o =>
    exact State.holdOrApply_follows (s := s.popOrder) (h.of_same (.of_frames rfl rfl rfl rfl rfl rfl)) o
  | holdSatisfied o waiting =>
    refine State.applyHeld_follows h fun r hr hclaim => ?_
    have hfree := (h.claims _ hclaim).2.2.2.2 r hr
    simp [hheld o r waiting hr] at hfree
  | scanSwap o taken idle =>
    exact (State.swapped_follows h idle).of_same (.of_frames rfl rfl rfl rfl rfl rfl)
  | swapped idle => exact State.swapped_follows h (by simp [idle])
  | sweepBegins idle => exact State.beginSweep_follows h idle
  | swapBegins idle => exact State.beginSweep_follows (State.swapped_follows h (by simp [idle])) idle
  | claim o taken listen windDown =>
    exact State.carryOutClaim_follows (s := s.popOrder) (h.of_same (.of_frames rfl rfl rfl rfl rfl rfl)) taken.running listen
      (h.not_abandoning_of_role taken.running windDown) o
  | yield o taken =>
    exact State.leaveActive_follows (s := { s.popOrder with oru.hand := .yieldStaging o })
      (h.of_same (.of_frames rfl rfl rfl rfl rfl rfl)) (hp.of_ctl rfl) _ _
  | handResultStaged c rest completion =>
    exact h.of_same (.of_eq (by simp) (by simp) (by simp) (by simp [State.releaseHand]) (by simp) (.of_eq (by simp))
      (State.NotHeld.of_stations (by simp)))
  | grant g granting chosen => exact (State.grant_grants chosen).follows h granting
  | delimiterHeard lane =>
    refine h.of_same (.of_eq (by simp) (by simp) (by simp [State.delimiterHeard]) (by simp [State.delimiterHeard])
      (by simp) (.of_map (f := fun x => x.delimiter lane) ?_ fun x => x.delimiter_aim lane) (State.NotHeld.of_stations (by simp)))
    simp [State.delimiterHeard]
  | windowOpened lane =>
    exact h.of_same (.of_eq (by simp) (by simp) (by simp) (by simp) (by simp)
      ((State.SameAim.of_eq (by simp)).trans (State.setPart_sameAim _ lane _)) (State.NotHeld.of_stations (by simp)))
  | markSent lane | windowExpired lane =>
    refine State.checkAttempt_follows (h.of_same (.of_eq (by simp) (by simp) (by simp) (by simp) (by simp) ?_
      (State.NotHeld.of_stations (by simp)))) (by simpa [State.ClosesOutside] using hoff)
    exact (State.SameAim.of_eq (by simp)).trans (State.setPart_sameAim _ lane _)
  | telegram lane t => exact State.telegram_follows h hp hoff lane t
  | overheardWindowExpired =>
    exact h.of_same (.of_eq (by simp) (by simp) (by simp) (by simp) (by simp) (.of_eq (by simp))
      (State.setOverResult_hears _ _ _ _).sameHolds.notHeld)
  | takeover running listen windDown =>
    exact State.enterActive_follows h running listen (h.not_abandoning_of_role running windDown) .takeover
  | windDownStaged d rest _ _ _ ready =>
    simp only [State.windDownReady, Bool.and_eq_true, Bool.not_eq_true'] at ready
    refine State.endWindDown_follows (h.of_same ?_) (by simpa using ready.2)
    exact .of_frames (by simp) (by simp) (by simp) (by simp) (by simp) (by simp)
  | claimRaised a claimable => exact State.claimRaised_follows h claimable
  | sweepResultStaged _ _ ended =>
    have hstate := h.sane.ended ended
    have hm := h.masters (by simp [hstate])
    refine .of_runs hm ⟨nofun, nofun, (h.runs hm).abandoning⟩ (.of_none ?_)
    by_contra hraised
    obtain ⟨a, ha⟩ := Option.ne_none_iff_exists'.1 hraised
    simp [(h.claims a ha).2.1] at ended
  | abandonedStaged _ _ abandoning =>
    have hnot : ¬ s.Masters := fun hm => by simp [(h.runs hm).abandoning] at abandoning
    exact .of_rests (mt (State.masters_iff (by simp) (by simp)).1 hnot) (State.finishAbandon_rests (h.rests hnot))
      fun _ => (h.abandons abandoning).of_eq (by simp) (by simp) (by simp)
  | _ => exact h.of_same (.of_frames (by simp) (by simp) (by simp) (by simp [SweepEngine.core]) (by simp) (by simp))

end

end Sys2Proof.Machine

/-! Every invariant is kept by every step, and holds at reset (R55, R90, R115, R158, R160). -/

namespace Sys2Proof.Machine

section
variable {s t u : State}

/-- The station of the order in HOLD_WAIT is held (R8). -/
def State.HandHolds (s : State) : Prop :=
  ∀ o r, s.oru.hand = .holdWait o → s.station? o.station = some r → r.held = true

theorem State.HandHolds.holdStep (h : s.HandHolds) (e : s.HoldStep u) : u.HandHolds := by
  intro o r ho hr
  cases e with
  | same holds hand =>
    obtain ⟨q, hq, hqr⟩ := holds.found _ r hr
    exact hqr ▸ h o q ((hand o).1 ho) hq
  | taken p free stations hand =>
    obtain rfl : p = o := Hand.holdWait.inj (hand.symm.trans ho)
    have hmem := State.station?_mem hr
    rw [stations, State.holdStation_stations] at hmem
    obtain ⟨q, -, rfl⟩ := List.mem_map.1 hmem
    have haddress := State.station?_address hr
    split at haddress
    next hqp => rw [if_pos hqp]
    next hqp => exact absurd haddress hqp
  | cleared _ hand | started _ _ hand | released _ _ _ hand | enrolled _ _ _ _ hand | ended _ _ _ hand =>
    exact absurd ho (hand o)

theorem State.SweepSound.effect (h : s.SweepSound) (e : s.Effect u) : u.SweepSound := by
  obtain ⟨phases, follows, closing, hold⟩ := State.sweepSound_iff.1 h
  exact State.sweepSound_iff.2 ⟨phases.effect e, follows.effect phases closing hold e, closing.effect e,
    State.HandHolds.holdStep hold (e.holdStep phases)⟩

theorem State.SweepSound.of_eq (h : s.SweepSound) (hctl : t.ctl = s.ctl) (hswe : t.swe = s.swe) (hmsu : t.msu = s.msu)
    (hexu : t.exu = s.exu) (hst : t.stations = s.stations) (hhand : t.oru.hand = s.oru.hand) : t.SweepSound := by
  obtain ⟨phases, follows, closing, hold⟩ := State.sweepSound_iff.1 h
  have hfind : t.station? = s.station? := by funext a; simp [State.station?, hst]
  refine State.sweepSound_iff.2 ⟨phases.of_ctl hctl, follows.of_same ?_, ?_, by simpa [hhand, hfind] using hold⟩
  · exact .of_frames hctl (by rw [hmsu]) (by rw [hmsu]) (by rw [hswe]) (by rw [hexu]) hst
  · simpa [State.ClosesOutside, hctl, hmsu] using closing

theorem reset_sweepSound : State.reset.SweepSound :=
  State.sweepSound_iff.2 ⟨reset_phases, reset_sweepFollows, nofun, nofun⟩

theorem step_keeps_sweepSound : ∀ s t : State, s.SweepSound → step s = .next t → t.SweepSound :=
  step_keeps (P := State.SweepSound) (fun _ _ h => h.of_eq rfl rfl rfl rfl rfl rfl)
    (fun _ h => h.of_eq (by simp) (by simp) (by simp) (by simp) (by simp) (by simp)) fun _ _ h e => h.effect e

end

/-- Settles O54: the area base, the counts, the rings, the Sweep Engine, the records and the holds, each an invariant of
its own. -/
theorem widthsStayInRange : Obligations.WidthsStayInRange :=
  ⟨step_keeps_areaAligned, step_keeps_countsSound, step_keeps_ringsSound, step_keeps_sweepSound, step_keeps_recordsSound,
    step_keeps_holdsSound⟩

theorem reset_stagingSound : State.reset.StagingSound :=
  ⟨reset_phases, reset_exchangeQuiet, nofun, by decide⟩

/-- Settles O53: at reset nothing is in progress, every table is empty and every count is 0. -/
theorem invariantsHoldAtReset : Obligations.InvariantsHoldAtReset :=
  ⟨reset_areaAligned, reset_stagingSound, reset_queuesSound, reset_roleSound, reset_stationsSound, reset_listsSound,
    reset_countsSound, reset_pointsSound, reset_sweepSound, reset_recordsSound, reset_holdsSound, reset_ringsSound⟩

end Sys2Proof.Machine

/-! The machine as a whole, its registers and its reset (R179, R188). -/

namespace Sys2Proof.Machine

/-! ### Well-formed commands are taken (log entry 3) -/

section
variable {s t u : State}

theorem State.Effect.pending (e : s.Effect u) : u.pending = s.pending := by
  cases e with
  | powerOn | reset | fault | takeStart | haltFromFault | refuseStart | drainExpired | drainExpiredEnd | drainEnd
  | finalReportWritten => rfl
  | beginDrain => simp [State.beginDrain_eq, State.drainBegun]
  | sweepBegins | swapBegins => simp [State.beginSweep]
  | enrol o r => exact rfl
  | handResultStaged c rest => exact State.stage_pending { s with oru.completion := rest } (.order c.result)
  | delimiterHeard lane => simp [State.delimiterHeard]
  | _ => simp

theorem exec_pending {c : Instr} (h : exec c s = .next t) : t.pending = s.pending := by
  rcases exec_steps c s t h with rfl | ⟨u, e, rfl | rfl⟩
  · rfl
  · exact e.pending
  · exact (State.settle_pending u).trans e.pending

end

/-- The outcome is a next state. -/
def Taken (o : Host.Outcome State Fault Refusal) : Prop := ∃ t, o = .next t

theorem taken_next (t : State) : Taken (.next t) := ⟨t, rfl⟩

theorem taken_done (t : State) : Taken (done t) := ⟨_, rfl⟩

/-- Every command but the completions of reads and the ignored register writes answers a next state. -/
theorem exec_taken (c : Instr) (s : State) (h : c.wellFormed = true)
    (hdata : ∀ data address k, c = .orderFetchDone data → s.xpt.readPath = some (.orderFetch address k) →
      data.length = 32 * k) : Taken (exec c s) := by
  cases c with
  | registerWriteIgnored target value =>
    change Taken (execRegisterWriteIgnored target value s)
    have hok : ¬ (target = .run ∧ runCommand value = true) := by
      rintro ⟨rfl, hrun⟩
      simp [Instr.wellFormed, hrun] at h
    simp [execRegisterWriteIgnored, hok, taken_next]
  | directoryReadDone data =>
    have hlength : data.length = 64 := by simpa [Instr.wellFormed] using h
    simp only [exec, execDirectoryReadDone, hlength, ne_eq, not_true_eq_false, if_false]
    (repeat' split) <;> exact ⟨_, rfl⟩
  | startHostBlockReadDone data =>
    have hlength : data.length = 16 := by simpa [Instr.wellFormed] using h
    simp only [exec, execStartHostBlockReadDone, hlength, ne_eq, not_true_eq_false, if_false]
    (repeat' split) <;> exact ⟨_, rfl⟩
  | hostBlockReadDone data =>
    have hlength : data.length = 16 := by simpa [Instr.wellFormed] using h
    simp only [exec, execHostBlockReadDone, hlength, ne_eq, not_true_eq_false, if_false]
    (repeat' split) <;> exact ⟨_, rfl⟩
  | supplyEntryReadDone data =>
    have hlength : data.length = 16 := by simpa [Instr.wellFormed] using h
    simp only [exec, execSupplyEntryReadDone, hlength, ne_eq, not_true_eq_false, if_false]
    (repeat' split) <;> exact ⟨_, rfl⟩
  | orderFetchDone data =>
    change Taken (execOrderFetchDone data s)
    unfold execOrderFetchDone
    split
    next address k hread =>
      rw [if_neg (by simp [hdata data address k rfl hread, orderBytes])]
      split <;> exact ⟨_, rfl⟩
    next => exact taken_next s
  | powerOn | resetPin | start | halt | reset | nudge | areaLoWrite | areaHiWrite | drainTimerExpiry | drainEnd =>
    simp only [exec, execPowerOn, execResetPin, execStart, execHalt, execReset, execNudge, execAreaLoWrite,
      execAreaHiWrite,
      execDrainTimerExpiry, execDrainEnd]
    all_goals (repeat' split) <;> exact ⟨_, rfl⟩
  | lookTimerExpiry | hostBlockReadBegin | orderFetchBegin | supplyEntryReadBegin | accessError =>
    simp only [exec, execLookTimerExpiry, execHostBlockReadBegin, execOrderFetchBegin, execSupplyEntryReadBegin,
      execAccessError]
    all_goals (repeat' split) <;> exact ⟨_, rfl⟩
  | bulkWaitTimerExpiry | resultWriteBegin | bulkWriteDone | recordWriteDone | reportBlockWriteBegin
  | reportBlockWriteDone | holdTimerExpiry | attentionTimerExpiry =>
    simp only [exec, execBulkWaitTimerExpiry, execResultWriteBegin, execBulkWriteDone, execRecordWriteDone,
      execReportBlockWriteBegin, execReportBlockWriteDone, execHoldTimerExpiry, execAttentionTimerExpiry]
    all_goals (repeat' split) <;> exact ⟨_, rfl⟩
  | orderAbandonedInDrain | unrecognisedKind | enrol | retire | shape | scanBegin | scanAdd | scanCommit | read | write
  | latch | snap | takeTotals | claim | yield | role | marker | stats | holdSatisfied | orderResultStage =>
    simp only [exec, execOrderAbandonedInDrain, execUnrecognisedKind, execEnrol, execRetire, execShape, execScanBegin,
      execScanAdd, execScanCommit, execRead, execWrite, execLatch, execSnap, execTakeTotals, execClaim, execYield,
      execRole, execMarker, execStats, execHoldSatisfied, execOrderResultStage]
    all_goals (repeat' split) <;> exact ⟨_, rfl⟩
  | busGrant | startDelimiter | telegramSent | telegramReceived | replyWindowExpiry | overheardWindowExpiry | noDelimiter
  | laneQuiet =>
    simp only [exec, execBusGrant, execStartDelimiter, execTelegramSent, execTelegramReceived, execReplyWindowExpiry,
      execOverheardWindowExpiry, execNoDelimiter, execLaneQuiet]
    all_goals (repeat' split) <;> exact ⟨_, rfl⟩
  | takeoverTimerExpiry | markTimerExpiry | roleResultStage | periodTimerExpiry | sweepStart | sweepClaim
  | sweepResultStage =>
    simp only [exec, execTakeoverTimerExpiry, execMarkTimerExpiry, execRoleResultStage, execPeriodTimerExpiry,
      execSweepStart, execSweepClaim, execSweepResultStage]
    all_goals (repeat' split) <;> exact ⟨_, rfl⟩

/-- Settles O2: the only answers that are not a next state are those to operands that are not well formed. -/
theorem wellFormedCommandsAreTaken : Obligations.WellFormedCommandsAreTaken := by
  intro c s h hdata
  obtain ⟨t, ht⟩ := exec_taken c s h hdata
  exact ⟨t, ht, exec_pending ht⟩

/-- Settles O1. -/
theorem stepRunsTheFrontCommand : Obligations.StepRunsTheFrontCommand :=
  ⟨fun _ _ => rfl, fun s h => by simp [step, h]⟩

/-! ### The levels that follow a step (R168, R174, R178) -/

section
variable (s : State)

/-- The head of Staging is settled inline-only where no buffer can come, and waits for one where it can (R168). -/
theorem State.settleHead_eq :
    s.settleHead =
      { s with
        rpu.head :=
          if s.headNeedsBuffer = true ∧ s.supplyAvailable = false ∧ (s.dir.supplySize = 0 ∨ s.dir.bulkWait = 0) then
            .inlineOnly false
          else s.rpu.head
        rpu.bulkWaitTimer :=
          s.headNeedsBuffer && !s.supplyAvailable && decide (s.dir.supplySize ≠ 0) && decide (s.dir.bulkWait ≠ 0) } := by
  unfold State.settleHead
  by_cases hneeds : (s.headNeedsBuffer && !s.supplyAvailable) = true
  · have hneeds' : s.headNeedsBuffer = true ∧ s.supplyAvailable = false := by simpa using hneeds
    by_cases hsize : s.dir.supplySize = 0 ∨ s.dir.bulkWait = 0
    · rcases hsize with hsize | hsize <;> simp [hneeds', hsize]
    · obtain ⟨hsize, hwait⟩ := not_or.1 hsize
      simp [hneeds', hsize, hwait]
  · rw [if_neg hneeds, if_neg fun h => hneeds (by simp [h.1, h.2.1])]
    simp [Bool.eq_false_iff.2 hneeds]

/-- A Report Block write falls due (R174). -/
theorem State.settleReport_eq :
    s.settleReport =
      { s with
        rpu.reportDue :=
          s.rpu.reportDue ||
            (s.hosting && s.dir.reportHold = 0 && s.rpu.changed && s.rpu.staging.isEmpty && s.rpu.writePath.isNone) } := by
  unfold State.settleReport
  split
  next hdue => rw [hdue, Bool.or_true]
  next hdue => rw [Bool.eq_false_iff.2 hdue, Bool.or_false]

/-- The attention timer starts, runs on, or is stopped (R178). -/
theorem State.settleAttention_eq :
    s.settleAttention =
      { s with
        rpu.attention :=
          if s.attentionCondition = true ∧ s.dir.attentionTime ≠ 0 then
            if s.rpu.attention = .stopped then .running else s.rpu.attention
          else .stopped } := by
  unfold State.settleAttention
  by_cases hcondition : s.attentionCondition = true ∧ s.dir.attentionTime ≠ 0
  · rw [if_pos (by simpa using hcondition), if_pos hcondition]
    split <;> rfl
  · rw [if_neg (by simpa using hcondition), if_neg hcondition]

theorem State.settle_eq :
    ∃ head bulkWaitTimer reportDue attention,
      s.settle =
        { s with
          rpu.head := head, rpu.bulkWaitTimer := bulkWaitTimer, rpu.reportDue := reportDue
          rpu.attention := attention } := by
  rw [State.settle, State.settleAttention_eq, State.settleReport_eq, State.settleHead_eq]
  exact ⟨_, _, _, _, rfl⟩

@[simp] theorem State.settleHead_dir : s.settleHead.dir = s.dir := by rw [State.dir, State.settleHead_xpt, State.dir]
@[simp] theorem State.settleReport_dir : s.settleReport.dir = s.dir := by
  rw [State.dir, State.settleReport_xpt, State.dir]
@[simp] theorem State.settleHead_hosting : s.settleHead.hosting = s.hosting := by
  unfold State.hosting State.running State.draining
  rw [State.settleHead_ctl]

@[simp] theorem State.settleHead_attentionCondition : s.settleHead.attentionCondition = s.attentionCondition := by
  unfold State.attentionCondition State.intN State.ringRoom State.hosting State.running State.draining
  rw [State.settleHead_ctl, State.settleHead_xpt, State.settleHead_dir, State.settleHead_rpu_staging,
    State.settleHead_rpu_lastTag, State.settleHead_rpu_resultsWritten]

@[simp] theorem State.settleReport_attentionCondition : s.settleReport.attentionCondition = s.attentionCondition := by
  unfold State.attentionCondition State.intN State.ringRoom State.hosting State.running State.draining
  rw [State.settleReport_ctl, State.settleReport_xpt, State.settleReport_dir, State.settleReport_rpu_staging,
    State.settleReport_rpu_lastTag, State.settleReport_rpu_resultsWritten]

theorem State.settle_head :
    s.settle.rpu.head =
      if s.headNeedsBuffer = true ∧ s.supplyAvailable = false ∧ (s.dir.supplySize = 0 ∨ s.dir.bulkWait = 0) then
        .inlineOnly false
      else s.rpu.head := by
  simp [State.settle, State.settleHead_eq]

theorem State.settle_bulkWaitTimer :
    s.settle.rpu.bulkWaitTimer =
      (s.headNeedsBuffer && !s.supplyAvailable && decide (s.dir.supplySize ≠ 0) && decide (s.dir.bulkWait ≠ 0)) := by
  simp [State.settle, State.settleHead_eq]

theorem State.settle_reportDue :
    s.settle.rpu.reportDue =
      (s.rpu.reportDue ||
        (s.hosting && s.dir.reportHold = 0 && s.rpu.changed && s.rpu.staging.isEmpty && s.rpu.writePath.isNone)) := by
  rw [State.settle, State.settleAttention_rpu_reportDue, State.settleReport_eq]
  simp only [State.settleHead_hosting, State.settleHead_dir, State.settleHead_rpu_reportDue, State.settleHead_rpu_changed,
    State.settleHead_rpu_staging, State.settleHead_rpu_writePath]

theorem State.settle_attention :
    s.settle.rpu.attention =
      if s.attentionCondition = true ∧ s.dir.attentionTime ≠ 0 then
        if s.rpu.attention = .stopped then .running else s.rpu.attention
      else .stopped := by
  rw [State.settle, State.settleAttention_eq]
  simp only [State.settleReport_attentionCondition, State.settleHead_attentionCondition, State.settleReport_dir,
    State.settleHead_dir, State.settleReport_rpu_attention, State.settleHead_rpu_attention]

end

/-- Settles O3: each of the three settlements, as an equation. -/
theorem settleBringsLevelsUpToDate : Obligations.SettleBringsLevelsUpToDate := by
  intro s waits available attention
  have hwaits : s.headNeedsBuffer = true ↔ waits := s.headNeedsBuffer_iff
  have havailable : s.supplyAvailable = true ↔ available := s.supplyAvailable_iff
  have hattention : s.attentionCondition = true ↔ attention := s.attentionCondition_iff
  refine ⟨⟨hwaits, havailable, hattention⟩, s.settle_eq, s.settle_head, ?_, ?_, fun hnot => ?_,
    fun hcondition htime => ?_⟩
  · simp only [s.settle_bulkWaitTimer, Bool.and_eq_true, Bool.not_eq_true', decide_eq_true_eq, and_assoc, hwaits,
      ← havailable, Bool.not_eq_true]
  · simp [s.settle_reportDue, State.Hosting, State.hosting, State.running, State.draining, and_assoc]
  · rw [s.settle_attention, if_neg]
    rintro ⟨hcondition, htime⟩
    exact hnot.elim (fun hnot => hnot (hattention.1 hcondition)) htime
  · rw [s.settle_attention, if_pos ⟨hattention.2 hcondition, htime⟩]
    exact ⟨fun hstopped => if_pos hstopped, fun hstarted => if_neg hstarted⟩

/-! ### Reset and the register window (R179, R188) -/

/-- Settles O4: the reset values, one by one. -/
theorem resetAbandonsAllWork : Obligations.ResetAbandonsAllWork := by
  refine ⟨fun s => ⟨rfl, rfl, rfl⟩, rfl, fun slot => ?_, ?_⟩
  · by_cases h : slot < Config.slotCount
    · simp [State.reset, State.point, h]
    · simp [State.reset, State.point, h]
  · refine ⟨rfl, rfl, rfl, rfl, rfl, rfl, rfl, rfl, rfl, rfl, rfl, rfl, rfl, rfl, rfl, ?_⟩
    repeat' constructor

theorem ExchangeState.code_lt (e : ExchangeState) : e.code < 4 := by cases e <;> decide
theorem Role.code_lt (r : Role) : r.code < 3 := by cases r <;> decide
theorem FaultCause.code_lt (c : FaultCause) : c.code < 4 := by cases c <;> decide

/-- STATE as read, its value spelled out field by field (section 10.1). -/
theorem State.stateRegister_toNat (s : State) :
    s.stateRegister.toNat =
      s.ctl.exchangeState.code + 4 * s.msu.role.code + 16 * s.ctl.faultCause.code + 256 * s.intN.toNat +
        512 * s.ctl.startRefused.toNat := by
  have hstate := s.ctl.exchangeState.code_lt
  have hrole := s.msu.role.code_lt
  have hcause := s.ctl.faultCause.code_lt
  have hintN : (if s.intN then 256 else 0) = 256 * s.intN.toNat := by cases s.intN <;> rfl
  have hrefused : (if s.ctl.startRefused then 512 else 0) = 512 * s.ctl.startRefused.toNat := by
    cases s.ctl.startRefused <;> rfl
  have hintN' := s.intN.toNat_lt
  have hrefused' := s.ctl.startRefused.toNat_lt
  rw [State.stateRegister, hintN, hrefused, BitVec.toNat_ofNat]
  exact Nat.mod_eq_of_lt (by omega)

/-- The fields of STATE, by their bits. -/
theorem State.stateRegister_bits (s : State) :
    (s.stateRegister.extractLsb' 0 2).toNat = s.ctl.exchangeState.code ∧
      (s.stateRegister.extractLsb' 2 2).toNat = s.msu.role.code ∧
      (s.stateRegister.extractLsb' 4 3).toNat = s.ctl.faultCause.code ∧ s.stateRegister.getLsbD 7 = false ∧
      s.stateRegister.getLsbD 8 = s.intN ∧ s.stateRegister.getLsbD 9 = s.ctl.startRefused ∧
      s.stateRegister.extractLsb' 10 22 = 0 := by
  have hvalue := s.stateRegister_toNat
  have hstate := s.ctl.exchangeState.code_lt
  have hrole := s.msu.role.code_lt
  have hcause := s.ctl.faultCause.code_lt
  have hintN := s.intN.toNat_lt
  have hrefused := s.ctl.startRefused.toNat_lt
  have flag (b : Bool) (n : Nat) (h : n % 2 = b.toNat) : decide (n % 2 = 1) = b := by
    rw [h]
    cases b <;> rfl
  have hrest : (s.stateRegister.extractLsb' 10 22).toNat = 0 := by
    rw [BitVec.extractLsb'_toNat, hvalue, Nat.shiftRight_eq_div_pow]
    omega
  simp only [BitVec.extractLsb'_toNat, BitVec.getLsbD, Nat.testBit_eq_decide_div_mod_eq, hvalue,
    Nat.shiftRight_eq_div_pow]
  exact ⟨by omega, by omega, by omega, flag false _ (by rw [Bool.toNat_false]; omega), flag _ _ (by omega),
    flag _ _ (by omega), BitVec.eq_of_toNat_eq hrest⟩

/-- Settles O5: STATE by its bits, the area registers writable exactly in HALTED with no START in progress. -/
theorem registerWindow : Obligations.RegisterWindow := by
  refine ⟨fun s => ⟨rfl, rfl, rfl, rfl, rfl, ?_⟩, fun s value => ⟨fun hhalted hidle => ?_, fun hnot => ?_, rfl, rfl, ?_⟩⟩
  · obtain ⟨hstate, hrole, hcause, hrest⟩ := s.stateRegister_bits
    refine ⟨hstate.trans ?_, hrole.trans ?_, hcause.trans ?_, hrest⟩
    · cases s.ctl.exchangeState <;> rfl
    · cases s.msu.role <;> rfl
    · cases s.ctl.faultCause <;> rfl
  · have hwritable := s.areaWritable_iff.2 ⟨hhalted, hidle⟩
    exact ⟨if_pos hwritable, if_pos hwritable⟩
  · have hwritable : ¬ s.areaWritable = true := by
      rw [s.areaWritable_iff]
      tauto
    exact ⟨if_neg hwritable, if_neg hwritable⟩
  · intro hstart hhalt hreset
    have hnot : runCommand value = false := by
      simpa [runCommand] using And.intro (And.intro hstart hhalt) hreset
    exact if_neg (by simp [hnot])

end Sys2Proof.Machine

/-! START: its Directory and Host Block reads, and access errors (R159, R171, R182, R183). -/

namespace Sys2Proof.Machine

/-! ### Fields of several bytes, least significant first (section 10.2) -/

theorem leNat_lt (data : List Byte) (n : Nat) : ∀ offset, leNat data offset n < 256 ^ n := by
  induction n with
  | zero => exact fun _ => Nat.one_pos
  | succ n ih =>
    intro offset
    have hbyte := (byteAt data offset).isLt
    have hrest := ih (offset + 1)
    rw [leNat, Nat.pow_succ]
    omega

theorem leWord_toNat (data : List Byte) (offset : Nat) : (leWord data offset).toNat = leNat data offset 4 := by
  rw [leWord, BitVec.toNat_ofNat]
  exact Nat.mod_eq_of_lt (leNat_lt data 4 offset)

theorem leQuad_toNat (data : List Byte) (offset : Nat) : (leQuad data offset).toNat = leNat data offset 8 := by
  rw [leQuad, BitVec.toNat_ofNat]
  exact Nat.mod_eq_of_lt (leNat_lt data 8 offset)

theorem byteAt_of_getElem? {data : List Byte} {offset : Nat} {b : Byte} (h : data[offset]? = some b) :
    byteAt data offset = b := by
  rw [byteAt, List.getD_eq_getElem?_getD, h, Option.getD_some]

/-! ### The codes of the Directory (R159) -/

theorem bitRateOf_eq (n : Nat) : bitRateOf n = [BitRate.kbit125, .kbit250, .kbit500][n]? := by
  match n with
  | 0 | 1 | 2 => rfl
  | n + 3 => rfl

theorem laneModeOf_eq (n : Nat) : laneModeOf n = [LaneMode.mirror, .alternate, .singleA, .singleB][n]? := by
  match n with
  | 0 | 1 | 2 | 3 => rfl
  | n + 4 => rfl

theorem startRoleOf_eq (n : Nat) : startRoleOf n = [Role.listen, .active][n]? := by
  match n with
  | 0 | 1 => rfl
  | n + 2 => rfl

theorem onOff_eq (n : Nat) : onOff n = [false, true][n]? := by
  match n with
  | 0 | 1 => rfl
  | n + 2 => rfl

theorem toNat_of_onOff {n : Nat} {b : Bool} (h : onOff n = some b) : b.toNat = n := by
  match n with
  | 0 | 1 => cases h; rfl
  | n + 2 => cases h

/-- The settings that the bytes of a Directory spell, with the codes of its last six decoded (section 10.2). -/
def directoryOf (data : List Byte) (rate : BitRate) (mode : LaneMode) (tag : Bool) (startRole : Role)
    (learn sweepResults : Bool) : Directory :=
  { orderRing := leQuad data 0, resultRing := leQuad data 8, supplyRing := leQuad data 16
    orderSize := leNat data 24 2, resultSize := leNat data 26 2, supplySize := leNat data 28 2
    lookInterval := leNat data 30 2, sweepPeriod := leNat data 32 2, replyWindow := leNat data 34 2
    takeoverBase := leNat data 36 2, markInterval := leNat data 38 2, attentionTime := leNat data 40 2
    drainTime := leNat data 42 2, reportCount := leNat data 44 1, reportHold := leNat data 45 1
    bulkWait := leNat data 46 1, refillThreshold := leNat data 47 1, laneFaultLimit := leNat data 48 1
    bitRate := rate, laneMode := mode, masterTag := BitVec.ofBool tag, startRole := startRole
    listenLearn := learn, sweepResults := sweepResults }

/-- The codes of a Directory are defined, and these are their settings. -/
structure DirectoryCodes (data : List Byte) (rate : BitRate) (mode : LaneMode) (tag : Bool) (startRole : Role)
    (learn sweepResults : Bool) : Prop where
  rate : bitRateOf (leNat data 49 1) = some rate
  mode : laneModeOf (leNat data 50 1) = some mode
  tag : onOff (leNat data 51 1) = some tag
  startRole : startRoleOf (leNat data 52 1) = some startRole
  learn : onOff (leNat data 53 1) = some learn
  sweepResults : onOff (leNat data 54 1) = some sweepResults

theorem parseDirectory_eq_some_iff {data : List Byte} {d : Directory} :
    parseDirectory data = some d ↔
      ∃ rate mode tag startRole learn sweepResults, DirectoryCodes data rate mode tag startRole learn sweepResults ∧
        d = directoryOf data rate mode tag startRole learn sweepResults ∧ d.inRange = true := by
  unfold parseDirectory
  constructor
  · intro h
    split at h
    next rate mode tag startRole learn sweepResults hrate hmode htag hstart hlearn hresults =>
      dsimp only at h
      split at h
      next hrange =>
        cases h
        exact ⟨rate, mode, tag, startRole, learn, sweepResults, ⟨hrate, hmode, htag, hstart, hlearn, hresults⟩, rfl,
          hrange⟩
      next => cases h
    next => cases h
  · rintro ⟨rate, mode, tag, startRole, learn, sweepResults, ⟨hrate, hmode, htag, hstart, hlearn, hresults⟩, rfl, hrange⟩
    rw [hrate, hmode, htag, hstart, hlearn, hresults]
    exact if_pos hrange

theorem exists_getElem?_iff {α : Type} (l : List α) (n : Nat) : (∃ a, l[n]? = some a) ↔ n < l.length := by
  simp [List.getElem?_eq_some_iff]

theorem directoryCodes_iff (data : List Byte) :
    (∃ rate mode tag startRole learn sweepResults, DirectoryCodes data rate mode tag startRole learn sweepResults) ↔
      leNat data 49 1 < 3 ∧ leNat data 50 1 < 4 ∧ leNat data 51 1 < 2 ∧ leNat data 52 1 < 2 ∧ leNat data 53 1 < 2 ∧
        leNat data 54 1 < 2 := by
  have hrate : (∃ a, bitRateOf (leNat data 49 1) = some a) ↔ leNat data 49 1 < 3 := by
    rw [bitRateOf_eq]; exact exists_getElem?_iff _ _
  have hmode : (∃ a, laneModeOf (leNat data 50 1) = some a) ↔ leNat data 50 1 < 4 := by
    rw [laneModeOf_eq]; exact exists_getElem?_iff _ _
  have hrole : (∃ a, startRoleOf (leNat data 52 1) = some a) ↔ leNat data 52 1 < 2 := by
    rw [startRoleOf_eq]; exact exists_getElem?_iff _ _
  have hflag (n : Nat) : (∃ a, onOff n = some a) ↔ n < 2 := by
    rw [onOff_eq]; exact exists_getElem?_iff _ _
  rw [← hrate, ← hmode, ← hrole, ← hflag, ← hflag, ← hflag]
  constructor
  · rintro ⟨rate, mode, tag, startRole, learn, sweepResults, h⟩
    exact ⟨⟨_, h.rate⟩, ⟨_, h.mode⟩, ⟨_, h.tag⟩, ⟨_, h.startRole⟩, ⟨_, h.learn⟩, ⟨_, h.sweepResults⟩⟩
  · rintro ⟨⟨rate, h1⟩, ⟨mode, h2⟩, ⟨tag, h3⟩, ⟨startRole, h4⟩, ⟨learn, h5⟩, ⟨sweepResults, h6⟩⟩
    exact ⟨rate, mode, tag, startRole, learn, sweepResults, h1, h2, h3, h4, h5, h6⟩

theorem parseDirectory_isSome_iff (data : List Byte) :
    (parseDirectory data).isSome ↔
      (directoryOf data .kbit125 .mirror false .listen false false).inRange = true ∧ leNat data 49 1 < 3 ∧
        leNat data 50 1 < 4 ∧ leNat data 51 1 < 2 ∧ leNat data 52 1 < 2 ∧ leNat data 53 1 < 2 ∧ leNat data 54 1 < 2 := by
  rw [← directoryCodes_iff, Option.isSome_iff_exists]
  constructor
  · rintro ⟨d, hd⟩
    obtain ⟨rate, mode, tag, startRole, learn, sweepResults, hcodes, rfl, hrange⟩ := parseDirectory_eq_some_iff.1 hd
    exact ⟨hrange, _, _, _, _, _, _, hcodes⟩
  · rintro ⟨hrange, rate, mode, tag, startRole, learn, sweepResults, hcodes⟩
    exact ⟨_, parseDirectory_eq_some_iff.2 ⟨rate, mode, tag, startRole, learn, sweepResults, hcodes, rfl, hrange⟩⟩

/-! ### The reads of a START -/

section
variable {s : State}

variable {p : StartProgress} {address : Quad} {data : List Byte}

theorem exec_directoryReadDone_of_none (hstart : s.ctl.start = some p)
    (hread : s.xpt.readPath = some (.directory address))
    (hlength : data.length = 64) (hnone : parseDirectory data = none) :
    exec (.directoryReadDone data) s = .next (s.refuseStart .directoryError) := by
  change execDirectoryReadDone data s = _
  simp [execDirectoryReadDone, hlength, hstart, hread, hnone]

theorem exec_directoryReadDone_of_some (hstart : s.ctl.start = some p)
    (hread : s.xpt.readPath = some (.directory address))
    (hlength : data.length = 64) {d : Directory} (hd : parseDirectory data = some d) :
    exec (.directoryReadDone data) s =
      .next
        { s with
          ctl.start := some { p with directory := some d }, xpt.readPath := some (.startHostBlock (p.base + 64)) } := by
  change execDirectoryReadDone data s = _
  simp [execDirectoryReadDone, hlength, hstart, hread, hd]

end

/-- Settles O7: the tests are those of the codes and those of the ranges, each a field of the 64 bytes. -/
theorem startReadsAndTestsTheDirectory : Obligations.StartReadsAndTestsTheDirectory := by
  refine ⟨fun s => ⟨fun hhalted hidle => if_pos ⟨hhalted, hidle⟩, fun hnot => if_neg (by tauto)⟩, ?_, ?_, ?_, ?_⟩
  · intro s p address data hstart hread hlength
    exact ⟨exec_directoryReadDone_of_none hstart hread hlength,
      fun d hd => exec_directoryReadDone_of_some hstart hread hlength hd⟩
  · intro data _
    rw [parseDirectory_isSome_iff]
    simp only [Directory.inRange, ringSize, supplySizeOk, Bool.and_eq_true, Bool.or_eq_true, beq_iff_eq,
      List.contains_iff_mem, within_eq_true_iff, decide_eq_true_eq, Nat.zero_le, true_and, and_assoc]
    simp only [directoryOf, leQuad_toNat, Nat.lt_succ_iff]
  · intro data d _ hd
    obtain ⟨rate, mode, tag, startRole, learn, sweepResults, hcodes, rfl, -⟩ := parseDirectory_eq_some_iff.1 hd
    have hrate := (bitRateOf_eq _).symm.trans hcodes.rate
    have hmode := (laneModeOf_eq _).symm.trans hcodes.mode
    have hstart := (startRoleOf_eq _).symm.trans hcodes.startRole
    have hlearn := (onOff_eq _).symm.trans hcodes.learn
    have hresults := (onOff_eq _).symm.trans hcodes.sweepResults
    have htag : (BitVec.ofBool tag).toNat = leNat data 51 1 := (BitVec.toNat_ofBool tag).trans (toNat_of_onOff hcodes.tag)
    exact ⟨leQuad_toNat _ _, leQuad_toNat _ _, leQuad_toNat _ _, rfl, rfl, rfl, rfl, rfl, rfl, rfl, rfl, rfl, rfl, rfl,
      rfl, rfl,
      rfl, rfl, hrate, hmode, htag, hstart, hlearn, hresults⟩
  · exact fun data offset n =>
      ⟨rfl, rfl, fun b hb => byteAt_of_getElem? hb, leWord_toNat data offset, leQuad_toNat data offset⟩

/-! ### The counts of a START (R183) -/

theorem startCountsOk_iff (d : Directory) (data : List Byte) :
    startCountsOk d (parseHostBlock data) = true ↔
      leNat data 0 4 ≤ d.orderSize ∧ leNat data 4 4 = 0 ∧ leNat data 8 4 ≤ d.supplySize := by
  have hzero (offset : Nat) : leWord data offset = 0 ↔ leNat data offset 4 = 0 := by
    rw [← BitVec.toNat_inj, leWord_toNat]
    rfl
  simp only [startCountsOk, parseHostBlock, leWord_toNat, Bool.and_eq_true, decide_eq_true_eq, hzero, and_assoc]
  split
  next hsize => simp [hsize]
  next => simp

section
variable {s : State} {base address : Quad} {d : Directory} {data : List Byte}

theorem exec_startHostBlockReadDone (hstart : s.ctl.start = some { base := base, directory := some d })
    (hread : s.xpt.readPath = some (.startHostBlock address)) (hlength : data.length = 16) :
    exec (.startHostBlockReadDone data) s =
      if startCountsOk d (parseHostBlock data) then done (s.takeStart base d (parseHostBlock data))
      else .next (s.refuseStart .countError) := by
  change execStartHostBlockReadDone data s = _
  simp [execStartHostBlockReadDone, hlength, hstart, hread]

end

theorem State.takeStart_lanes (s : State) (base : Quad) (d : Directory) (b : HostBlock) (lane : LaneId) :
    (s.takeStart base d b).lanes.get lane = (s.lanes.get lane).start := by
  cases lane <;> rfl

theorem State.dir_of_directory {s : State} {d : Directory} (h : s.xpt.directory = some d) : s.dir = d := by
  rw [State.dir, h, Option.getD_some]

/-- Settles O8: the three tests decide, and a START taken sets each count, queue, lane and timer. -/
theorem startTestsTheCountsAndRuns : Obligations.StartTestsTheCountsAndRuns := by
  refine ⟨?_, ?_, fun s d hd => State.dir_of_directory hd⟩
  · intro s base address d data hstart hread hlength hbad
    rw [exec_startHostBlockReadDone hstart hread hlength, if_neg]
    · rfl
    · rw [startCountsOk_iff]
      omega
  · intro s base address d data hstart hread hlength horders hreleased hbulk _
    rw [exec_startHostBlockReadDone hstart hread hlength,
      if_pos ((startCountsOk_iff d data).2 ⟨horders, hreleased, hbulk⟩)]
    refine ⟨_, rfl, ?_⟩
    simp only [State.settle_ctl, State.settle_xpt, State.settle_oru, State.settle_lanes, State.settle_bar,
      State.settle_msu,
      State.settle_swe, State.settle_stations, State.settle_points, State.settle_exu, State.settle_pending,
      State.settle_rpu_staging, State.settle_rpu_resultsWritten, State.settle_rpu_lastTag,
      State.settle_rpu_recordsSinceReport, State.settle_rpu_events, State.takeStart_lanes]
    exact ⟨rfl, rfl, rfl, rfl, rfl, rfl, rfl, rfl, rfl, rfl, rfl, rfl, rfl, rfl, rfl, rfl, fun _ => ⟨rfl, rfl, rfl, rfl⟩,
      rfl, rfl, rfl, rfl, rfl, rfl, rfl, rfl, rfl, rfl, rfl, rfl, rfl, rfl, rfl, rfl, rfl, rfl, rfl, rfl, rfl, rfl, rfl, rfl⟩

/-! ### Access errors (R171, R182, R186) -/

theorem exec_accessError_of_start {s : State} (hstart : s.ctl.start.isSome) (hread : s.xpt.readPath.isSome) :
    exec (.accessError .read) s = .next (s.refuseStart .accessError) := by
  change execAccessError .read s = _
  simp [execAccessError, State.accessOn, hstart, hread]

theorem exec_accessError_of_hosting {s : State} {path : AccessPath} (hhosting : s.Hosting) (hidle : s.ctl.start = none)
    (haccess : s.accessOn path = true) : exec (.accessError path) s = .next (s.fault .accessError).settle := by
  change execAccessError path s = _
  simp [execAccessError, haccess, hidle, State.hosting_iff.2 hhosting, done]

theorem exec_accessError_of_faulted {s : State} {path : AccessPath} (hfaulted : s.ctl.exchangeState = .faulted)
    (hidle : s.ctl.start = none) : exec (.accessError path) s = .next s := by
  change execAccessError path s = _
  simp [execAccessError, hidle, State.hosting, State.running, State.draining, hfaulted]

/-- Settles O9: an error of a START's read, of an access in RUNNING or DRAINING, and of one no longer used. -/
theorem accessErrors : Obligations.AccessErrors := by
  intro s path hp
  refine ⟨exec_accessError_of_start, fun hhosting hread hwrite => ?_, fun hfaulted => ?_⟩
  · have haccess : s.accessOn path = true := by
      cases path
      · exact hread rfl
      · exact hwrite rfl
    exact ⟨_, exec_accessError_of_hosting hhosting (hp.no_start hhosting.not_halted) haccess,
      (s.fault_faultedFrom .accessError).settle⟩
  · exact exec_accessError_of_faulted hfaulted (hp.no_start (by simp [hfaulted]))

end Sys2Proof.Machine

/-! HALT and the drain (R184, R185, R187). -/

namespace Sys2Proof.Machine

theorem filter_exchangeOpen_isEmpty (queue : List BusEntry) :
    (queue.filter (fun e => e.exchangeOpen)).isEmpty = queue.all (fun e => !e.exchangeOpen) := by
  rw [Bool.eq_iff_iff]
  simp [List.isEmpty_iff, List.filter_eq_nil_iff]

section
variable {s : State} {o : Order}

/-- An order that a drain ends as the entries whose exchange is closed end (R155). -/
theorem State.abandonOrders_of_waiting (h : s.oru.hand = .queueWait o ∨ s.oru.hand = .claimDeferred o) :
    s.abandonOrders = (s.endClosedEntries .abandoned).answer o .abandoned := by
  rcases h with h | h <;> simp [State.abandonOrders, State.endClosedEntries, h]

theorem State.abandonOrders_of_holdWait (h : s.oru.hand = .holdWait o) :
    s.abandonOrders = ((s.endClosedEntries .abandoned).clearHeld o.station).answer o .abandoned := by
  simp [State.abandonOrders, State.endClosedEntries, h]

/-- A marker ends with the last entry before it (R153, R155). -/
theorem State.abandonOrders_of_markerWait (h : s.oru.hand = .markerWait o) (hdraining : s.ctl.exchangeState = .draining) :
    s.abandonOrders =
      if s.oru.busQueue.all (fun e => !e.exchangeOpen) = true then
        (s.endClosedEntries .abandoned).answer o .abandoned
      else s.endClosedEntries .abandoned := by
  simp [State.abandonOrders, State.endClosedEntries, State.markerCheck, h, filter_exchangeOpen_isEmpty,
    State.markerOutcome, State.draining,
    hdraining]

/-- The other orders in hand have their result on its way, and stay. -/
theorem State.abandonOrders_of_stays
    (h : ∀ o, s.oru.hand ∉ [.queueWait o, .holdWait o, .claimDeferred o, .markerWait o]) :
    s.abandonOrders = s.endClosedEntries .abandoned := by
  cases hhand : s.oru.hand with
  | queueWait o | holdWait o | claimDeferred o | markerWait o => exact absurd (by simp [hhand]) (h o)
  | empty | claimStaging o | yieldStaging o | stageWait o =>
    simp [State.abandonOrders, State.endClosedEntries, State.markerCheck, hhand]

@[simp] theorem State.abandonOrders_busQueue (s : State) :
    s.abandonOrders.oru.busQueue = s.oru.busQueue.filter (fun e => e.exchangeOpen) := by
  unfold State.abandonOrders State.markerCheck
  dsimp only
  (repeat' split) <;> rfl

theorem State.abandonOrders_stations_of_not_hold (h : ∀ o, s.oru.hand ≠ .holdWait o) :
    s.abandonOrders.stations = s.stations := by
  unfold State.abandonOrders
  dsimp only
  split
  · rfl
  next o ho => exact absurd ho (h o)
  · rfl
  · rw [State.markerCheck_stations]
    rfl

/-- A lane that is cut off sends nothing, and stands and counts as it did (R185, R187). -/
theorem LaneController.cutOff_idle (l : LaneController) : l.cutOff.tx = .idle := by
  unfold LaneController.cutOff
  split
  next h => exact h
  · rfl
  · rfl

/-- A sweep that stops keeps its counts, and stages at most the result of a sweep it abandons (R64). -/
theorem State.stopSweep_keeps (s : State) :
    s.stopSweep.swe.state = .stopped ∧ s.stopSweep.swe.sweepCount = s.swe.sweepCount ∧
      s.stopSweep.swe.overrunCount = s.swe.overrunCount ∧
      (s.stopSweep.rpu.staging = s.rpu.staging ∨
        ∃ w, s.stopSweep.rpu.staging = s.rpu.staging ++ [.sweep w] ∧ w.abandoned = true) := by
  obtain ⟨hstopped, hidle, hsweeping⟩ := s.stopSweep_cases
  cases hstate : s.swe.state with
  | stopped =>
    obtain ⟨hswe, hstaging⟩ := hstopped hstate
    exact ⟨by rw [hswe, hstate], by rw [hswe], by rw [hswe], .inl hstaging⟩
  | idle =>
    obtain ⟨hswe, hstaging⟩ := hidle hstate
    exact ⟨by rw [hswe], by rw [hswe], by rw [hswe], .inl hstaging⟩
  | sweeping =>
    obtain ⟨hwaits, hsilent, hresult⟩ := hsweeping hstate
    by_cases hpoll : ∃ x, s.exu.exchange = some x ∧ x.claimant = .sweep
    · obtain ⟨hswe, hstaging⟩ := hwaits (.inl hpoll)
      exact ⟨by rw [hswe], by rw [hswe], by rw [hswe], .inl hstaging⟩
    · cases hresults : s.dir.sweepResults with
      | false =>
        obtain ⟨hswe, hstaging⟩ := hsilent hpoll hresults
        exact ⟨by rw [hswe]; rfl, by rw [hswe]; rfl, by rw [hswe]; rfl, .inl hstaging⟩
      | true =>
        by_cases hroom : s.rpu.staging.length + s.bar.reserved < 6
        · obtain ⟨hswe, hstaging⟩ := hresult hpoll hresults hroom
          exact ⟨by rw [hswe]; rfl, by rw [hswe]; rfl, by rw [hswe]; rfl, .inr ⟨_, hstaging, rfl⟩⟩
        · obtain ⟨hswe, hstaging⟩ := hwaits (.inr ⟨hresults, hroom⟩)
          exact ⟨by rw [hswe], by rw [hswe], by rw [hswe], .inl hstaging⟩

end

/-- Settles O10: the drain's parts, each by what it leaves unchanged, and the order in hand case by case. -/
theorem haltInEveryState : Obligations.HaltInEveryState := by
  refine ⟨fun s hrunning => ?_, fun s => ⟨fun hfaulted => ?_, ?_⟩⟩
  · obtain ⟨hstate, hsweeps, hoverruns, hstaging⟩ := s.drainBegun.forbidRetry.stopSweep_keeps
    have hexec : exec .halt s = .next s.beginDrain.settle := by
      change execHalt s = _
      simp only [execHalt, hrunning]
      rfl
    refine ⟨_, hexec, ?_⟩
    rw [s.beginDrain_eq]
    simp only [State.settle_ctl, State.settle_swe, State.settle_msu, State.settle_exu, State.settle_oru,
      State.settle_stations, State.settle_points, State.settle_xpt, State.settle_lanes, State.settle_bar,
      State.settle_rpu_lastTag, State.settle_rpu_resultsWritten, State.settle_rpu_writePath, State.settle_rpu_staging,
      State.settle_pending]
    generalize hu : s.drainBegun.forbidRetry.stopSweep = u at *
    have hctl : u.ctl = { s.ctl with exchangeState := .draining, drainTimer := true } := by
      subst u; simp [State.drainBegun]
    have horu : u.oru = s.oru := by subst u; simp [State.drainBegun]
    have hstations : u.stations = s.stations := by subst u; simp [State.drainBegun]
    have hmsu : u.msu = s.drainBegun.msu := by subst u; simp
    have hexu : u.exu = s.drainBegun.forbidRetry.exu := by subst u; simp
    simp only [State.abandonOrders_ctl, State.abandonOrders_swe, State.abandonOrders_msu, State.abandonOrders_exu,
      State.abandonOrders_points, State.abandonOrders_xpt, State.abandonOrders_lanes, State.abandonOrders_bar,
      State.abandonOrders_rpu, State.abandonOrders_pending, State.abandonOrders_oru_cache, State.abandonOrders_busQueue,
      hctl, horu, hmsu, hexu, hstate, true_and]
    refine ⟨?_, ?_, hsweeps, hoverruns, ?_, rfl, rfl, rfl, rfl, rfl, fun hnone => ?_, fun hopen => ?_,
      rfl, rfl, ?_, fun o ho => ?_, fun hnot => ?_, ?_, ?_, ?_, ?_, ?_, ?_, ?_, hstaging, ?_⟩
    · subst u; simp [State.drainBegun]
    · subst u; simp [State.drainBegun]
    · subst u; simp [State.drainBegun]
    · simp [State.drainBegun, State.forbidRetry, hnone]
    · obtain ⟨x, hx⟩ := Option.isSome_iff_exists.1 hopen
      simp [State.drainBegun, hx]
    · have hdraining : u.ctl.exchangeState = .draining := by rw [hctl]
      rw [← horu]
      cases hhand : u.oru.hand with
      | queueWait o | claimDeferred o =>
        rw [u.abandonOrders_of_waiting (o := o) (by simp [hhand])]
        exact ⟨rfl, rfl⟩
      | holdWait o =>
        rw [u.abandonOrders_of_holdWait hhand]
        exact ⟨rfl, rfl⟩
      | markerWait o =>
        rw [u.abandonOrders_of_markerWait hhand hdraining]
        dsimp only
        split
        · exact ⟨rfl, rfl⟩
        · exact ⟨hhand, rfl⟩
      | empty | claimStaging o | yieldStaging o | stageWait o =>
        rw [u.abandonOrders_of_stays fun o => by simp [hhand]]
        exact ⟨hhand, rfl⟩
    · rw [u.abandonOrders_of_holdWait (horu ▸ ho), ← hstations]
      rfl
    · rw [u.abandonOrders_stations_of_not_hold (horu ▸ hnot), hstations]
    all_goals
      subst u
      simp [State.drainBegun]
  · refine ⟨_, by change execHalt s = _; simp only [execHalt, hfaulted]; rfl, ?_⟩
    simp only [State.settle_ctl, State.settle_swe, State.settle_msu, State.settle_exu, State.settle_oru,
      State.settle_stations, State.settle_points, State.settle_xpt, State.settle_lanes,
      State.settle_rpu_lastTag, State.settle_rpu_resultsWritten, State.settle_rpu_staging, State.settle_pending]
    have hintN : s.haltFromFault.settle.intN = false := by
      unfold State.intN State.hosting State.running State.draining
      rw [State.settle_ctl]
      rfl
    exact ⟨rfl, rfl, rfl, rfl, rfl, hintN, s.lanes.a.cutOff_idle, s.lanes.b.cutOff_idle, rfl, rfl, rfl, rfl, rfl, rfl,
      rfl, rfl, rfl⟩
  · rintro (hhalted | hdraining)
    · change execHalt s = _
      simp only [execHalt, hhalted]
    · change execHalt s = _
      simp only [execHalt, hdraining]

end Sys2Proof.Machine

/-! The end of a drain, and the reads of the host (R161 to R164, R185). -/

namespace Sys2Proof.Machine

/-! ### The drain ends (R185) -/

section
variable {s : State}

theorem LaneController.cutOff_kept (l : LaneController) :
    l.cutOff.up = l.up ∧ l.cutOff.faults = l.faults ∧ l.cutOff.sent = l.sent ∧ l.cutOff.damaged = l.damaged := by
  unfold LaneController.cutOff
  split <;> exact ⟨rfl, rfl, rfl, rfl⟩

theorem State.cutExchange_lanes (lane : LaneId) :
    (s.cutExchange.lanes.get lane).tx = .idle ∧ (s.cutExchange.lanes.get lane).up = (s.lanes.get lane).up ∧
      (s.cutExchange.lanes.get lane).faults = (s.lanes.get lane).faults ∧
      (s.cutExchange.lanes.get lane).sent = (s.lanes.get lane).sent ∧
      (s.cutExchange.lanes.get lane).damaged = (s.lanes.get lane).damaged := by
  cases lane
  · exact ⟨s.lanes.a.cutOff_idle, s.lanes.a.cutOff_kept⟩
  · exact ⟨s.lanes.b.cutOff_idle, s.lanes.b.cutOff_kept⟩

/-- What a drain that ends discards, in the words of R185. -/
theorem State.unwritten_eq (s : State) :
    s.unwritten =
      s.rpu.staging.length +
          (s.oru.completion.length + (if s.swe.abandoning = true ∧ s.dir.sweepResults = true then 1 else 0) +
            s.msu.roleDue.length) +
        (s.oru.cache.length + s.oru.hand.unanswered + s.oru.busQueue.length) := by
  simp only [State.unwritten, State.sweepResultsWaiting, Bool.and_eq_true]

theorem State.pathsFree_iff : s.pathsFree = true ↔ s.xpt.readPath = none ∧ s.rpu.writePath = none := by
  simp [State.pathsFree]

/-- The end of a drain leaves nothing for a level to raise but the final Report Block. -/
theorem State.settle_endDrain (s : State) :
    s.endDrain.settle.rpu.head = .unsettled ∧ s.endDrain.settle.rpu.reportDue = true := by
  have hneeds : s.endDrain.headNeedsBuffer = false := rfl
  rw [State.settle_head, State.settle_reportDue, if_neg (by simp [hneeds])]
  exact ⟨rfl, rfl⟩

end

/-- Settles O11: the timer's expiry and the end of a drain, each a state written out. -/
theorem theDrainEnds : Obligations.TheDrainEnds := by
  intro s hdraining waiting inHand sum kept ended
  have hsum : s.unwritten = sum := s.unwritten_eq
  have hin : s.draining = true := by simp [State.draining, hdraining]
  refine ⟨fun htimer => ?_, fun hrunning hread hwrite => ?_⟩
  · let u : State := { s.cutExchange with ctl := { s.ctl with drainTimer := false, drainExpired := true } }
    have hexpiry : exec .drainTimerExpiry s = if u.pathsFree then done u.endDrain else done u := if_pos ⟨hin, htimer⟩
    have hlanes : ∀ lane, _ := fun lane => s.cutExchange_lanes (lane := lane)
    by_cases hfree : s.xpt.readPath = none ∧ s.rpu.writePath = none
    · obtain ⟨hhead, hdue⟩ := u.settle_endDrain
      obtain ⟨head, bulkWait, due, attention, heq⟩ := u.endDrain.settle_eq
      have hexec : exec .drainTimerExpiry s = .next u.endDrain.settle :=
        hexpiry.trans (if_pos (State.pathsFree_iff.2 hfree))
      rw [heq] at hhead hdue hexec
      refine ⟨_, hexec, ?_, rfl, rfl, rfl, rfl, rfl, hlanes, fun _ _ => ⟨?_, congrArg (BitVec.ofNat 32) hsum⟩,
        fun hbusy => ?_⟩
      · exact ⟨hdraining, by and_intros <;> rfl⟩
      · exact ⟨rfl, rfl, hdue, rfl, hhead, rfl, rfl, rfl, rfl, rfl, rfl⟩
      · simp [hfree.1, hfree.2] at hbusy
    · obtain ⟨head, bulkWait, due, attention, heq⟩ := u.settle_eq
      have hexec : exec .drainTimerExpiry s = .next u.settle :=
        hexpiry.trans (if_neg fun h => hfree (State.pathsFree_iff.1 h))
      rw [heq] at hexec
      refine ⟨_, hexec, ?_, rfl, rfl, rfl, rfl, rfl, hlanes, fun hread hwrite => absurd ⟨hread, hwrite⟩ hfree,
        fun _ => ?_⟩
      · exact ⟨hdraining, by and_intros <;> rfl⟩
      · and_intros <;> rfl
  · have hend (h : s.ctl.drainExpired = true ∨ s.drained = true) :
        ∃ t, exec .drainEnd s = .next t ∧ kept t ∧ ended t ∧ t.ctl.dropped = BitVec.ofNat 32 sum ∧ t.exu = s.exu ∧
          t.lanes = s.lanes ∧ t.bar = s.bar ∧ t.msu.role = s.msu.role := by
      obtain ⟨hhead, hdue⟩ := s.settle_endDrain
      obtain ⟨head, bulkWait, due, attention, heq⟩ := s.endDrain.settle_eq
      have hexec : exec .drainEnd s = .next s.endDrain.settle :=
        if_pos ⟨hin, hrunning, State.pathsFree_iff.2 ⟨hread, hwrite⟩, h⟩
      rw [heq] at hhead hdue hexec
      refine ⟨_, hexec, ⟨hdraining, ?_⟩, ⟨rfl, rfl, hdue, rfl, hhead, rfl, rfl, rfl, rfl, rfl, rfl⟩,
        congrArg (BitVec.ofNat 32) hsum, rfl, rfl, rfl, rfl⟩
      and_intros <;> rfl
    refine ⟨fun hexpired => hend (.inl hexpired), ?_⟩
    intro hexchange hcache hhand hqueue hcompletion hsweep hrole hstaging
    have hnothing : sum = 0 := by
      rw [← hsum, s.unwritten_eq]
      simp [*, Hand.unanswered]
    rw [hnothing] at hend
    exact hend (.inr (by simp [State.drained, *]))

/-! ### Reads of the host begin (R161 to R164, R167) -/

section
variable {s : State}

theorem State.mayAccess_of (hhosting : s.Hosting) (hexpired : s.ctl.drainExpired = false)
    (hended : s.ctl.drainEnded = false) : s.mayAccess = true := by
  simp [State.mayAccess, State.hosting_of_Hosting hhosting, hexpired, hended]

/-- The reads that may begin wait for a wanted Host Block read, a wanted supply entry and one another (R161, R164). -/
theorem exec_orderFetchBegin_of_supplyWanted (h : s.supplyWanted = true) : exec .orderFetchBegin s = .next s :=
  if_neg fun hbegin => by simp [h] at hbegin

theorem exec_orderFetchBegin_of_readWanted (h : s.xpt.readWanted = true) : exec .orderFetchBegin s = .next s :=
  if_neg fun hbegin => by simp [h] at hbegin

end

/-- Settles O12: each read begins under its own test. -/
theorem hostReadsBegin : Obligations.HostReadsBegin := by
  refine ⟨fun s value => ⟨fun hhosting => if_pos (s.hosting_of_Hosting hhosting), ?_, fun htimer => if_pos htimer⟩,
    fun s hhosting hexpired hended hfree => ?_, fun s hbusy => ?_⟩
  · rintro hrest
    refine if_neg ?_
    rcases hrest with h | h <;> simp [State.hosting, State.running, State.draining, h]
  · have hmay := State.mayAccess_of hhosting hexpired hended
    refine ⟨fun hwanted => if_pos ⟨hmay, hfree, hwanted⟩, fun hwanted hneeds havailable => ?_, fun hwanted => ⟨?_, ?_⟩,
      fun hneeds havailable => ?_, fun hwanted hsupply hrunning hlow hposted => ?_⟩
    · exact if_pos ⟨hmay, hfree, hwanted, by simp [State.supplyWanted, hneeds, havailable]⟩
    · exact if_neg fun hbegin => by simp [hwanted] at hbegin
    · exact exec_orderFetchBegin_of_readWanted hwanted
    · exact exec_orderFetchBegin_of_supplyWanted (by simp [State.supplyWanted, hneeds, havailable])
    · have hnot : s.supplyWanted = false := by rcases hsupply with h | h <;> simp [State.supplyWanted, h]
      exact if_pos ⟨hmay, hfree, hwanted, hnot, by simp [State.fetchWanted, State.running, hrunning, hlow, hposted]⟩
  · obtain ⟨access, hread⟩ := Option.isSome_iff_exists.1 hbusy
    exact ⟨if_neg (by simp [hread]), if_neg (by simp [hread]), if_neg (by simp [hread])⟩

end Sys2Proof.Machine

/-! The orders that are fetched and the supply entries (R132, R163, R167). -/

namespace Sys2Proof.Machine

/-! ### Orders are fetched (R132, R163) -/

/-- The orders of a fetch are those of its 32-byte pieces, in order. -/
theorem parseOrders_eq (data : List Byte) (k : Nat) :
    parseOrders data k = (List.range k).map (fun i => parseOrder ((data.drop (32 * i)).take 32)) := by
  induction k generalizing data with
  | zero => rfl
  | succ k ih =>
    rw [parseOrders, ih, List.range_succ_eq_map, List.map_cons, List.map_map]
    refine congrArg₂ List.cons rfl (List.map_congr_left fun i _ => ?_)
    simp only [Function.comp_apply, orderBytes, List.drop_drop, Nat.succ_eq_add_one, Nat.mul_add, Nat.mul_one,
      Nat.add_comm 32]

section
variable {s : State}

/-- A change noted in RUNNING or DRAINING starts the hold timer if none was noted before (R174). -/
theorem State.noteChange_of_Hosting (h : s.Hosting) :
    s.noteChange =
      { s with rpu.changed := true, rpu.holdTimer := if s.rpu.changed then s.rpu.holdTimer else decide (0 < s.dir.reportHold) } := by
  unfold State.noteChange
  rw [State.hosting_of_Hosting h]
  cases hchanged : s.rpu.changed
  · rfl
  · simp [← hchanged]

/-- What a noted change makes of the levels: a Report Block write falls due at once where no hold time is set (R174). -/
theorem State.noteChange_settle (h : s.Hosting) :
    s.noteChange.settle.rpu.changed = true ∧
      (s.rpu.changed = false → s.noteChange.settle.rpu.holdTimer = decide (0 < s.dir.reportHold)) ∧
      (s.rpu.changed = true → s.noteChange.settle.rpu.holdTimer = s.rpu.holdTimer) ∧
      (s.noteChange.settle.rpu.reportDue = true ↔
        s.rpu.reportDue = true ∨ (s.dir.reportHold = 0 ∧ s.rpu.staging = [] ∧ s.rpu.writePath = none)) := by
  rw [State.settle_reportDue, State.settle_rpu_changed, State.settle_rpu_holdTimer, State.noteChange_of_Hosting h]
  refine ⟨rfl, fun hfresh => by simp [hfresh], fun hchanged => by simp [hchanged], ?_⟩
  change (s.rpu.reportDue ||
    (s.hosting && decide (s.dir.reportHold = 0) && true && s.rpu.staging.isEmpty && s.rpu.writePath.isNone)) = true ↔ _
  simp [State.hosting_of_Hosting h, and_assoc]

end

/-- The kinds of the orders by their codes, from 1 (section 10.4). -/
def orderKinds : List OrderKind :=
  [.enrol, .retire, .shape, .scanBegin, .scanAdd, .scanCommit, .read, .write, .latch, .snap, .takeTotals, .role, .marker,
    .stats]

theorem Order.kind?_eq (o : Order) : o.kind? = if o.kind.toNat = 0 then none else orderKinds[o.kind.toNat - 1]? := by
  unfold Order.kind?
  match o.kind.toNat with
  | 0 | 1 | 2 | 3 | 4 | 5 | 6 | 7 | 8 | 9 | 10 | 11 | 12 | 13 | 14 => rfl
  | n + 15 => rfl

/-- Settles O14: the change that a fetch notes, the pieces it is cut into, and the fields of one. -/
theorem ordersAreFetched : Obligations.OrdersAreFetched := by
  refine ⟨fun s address k data hhosting hread hlength => ?_, fun data hlength => ?_, fun o => ?_⟩
  · let u : State :=
      { s with
        oru.cache := s.oru.cache ++ parseOrders data k
        xpt.ordersTaken := s.xpt.ordersTaken + BitVec.ofNat 32 k, xpt.readPath := none }
    have hexec : exec (.orderFetchDone data) s = .next u.noteChange.settle := by
      change execOrderFetchDone data s = _
      unfold execOrderFetchDone
      rw [hread]
      simp only [orderBytes, hlength, ne_eq, not_true_eq_false, if_false, s.hosting_of_Hosting hhosting, if_true]
      rfl
    obtain ⟨hchanged, hfresh, hrunning, hdue⟩ := State.noteChange_settle (s := u) hhosting
    refine ⟨_, hexec, ?_, ?_, hchanged, hfresh, hrunning, hdue, ?_⟩
    · rw [State.settle_oru, State.noteChange_oru, ← parseOrders_eq]
    · rw [State.settle_xpt, State.noteChange_xpt]
    · simp [u]
  · have hbyte (offset : Nat) : leNat data offset 1 = (byteAt data offset).toNat := rfl
    have hflag (n i : Nat) : n.testBit i = true ↔ n / 2 ^ i % 2 = 1 := by
      rw [Nat.testBit_eq_decide_div_mod_eq, decide_eq_true_eq]
    refine ⟨rfl, ?_, ?_, ?_, ?_, rfl, rfl, rfl, ?_, fun i hi => ?_⟩
    · simp [parseOrder, BitVec.getLsbD, hbyte]
    · simp [parseOrder, BitVec.getLsbD, hflag, hbyte]
    · exact (BitVec.toNat_ofNat _ _).trans (Nat.mod_eq_of_lt (leNat_lt data 2 2))
    · simp [parseOrder, hbyte]
    · simp [parseOrder, hlength]
    · simp [parseOrder, byteAt, hi]
  · have hcode : o.kind = 0x00#8 ↔ o.kind.toNat = 0 := BitVec.toNat_inj.symm
    have hlength : orderKinds.length = 14 := rfl
    refine ⟨fun k => ?_, ?_⟩
    · rw [Order.kind?_eq]
      split
      next hzero => simp [hzero]
      next hpos => exact (and_iff_right (Nat.one_le_iff_ne_zero.2 hpos)).symm
    · rw [Order.kind?_eq, hcode]
      split
      next hzero => simp [hzero]
      next hpos =>
        rw [List.getElem?_eq_none_iff, hlength]
        omega

end Sys2Proof.Machine

/-! The Report Unit: supply entries, bulk buffers and records (R166 to R170, R173). -/

namespace Sys2Proof.Machine

theorem EventSummary.with_of_has {v : EventSummary} {e : Event} (h : v.has e = true) : v.with e = v := by
  cases v
  cases e <;> simp_all [EventSummary.has, EventSummary.with]

/-- A change already noted, an event does no more than set its bit (R174, R176). -/
theorem State.setEvent_of_changed {s : State} (e : Event) (h : s.rpu.changed = true) :
    s.setEvent e = { s with rpu.events := s.rpu.events.with e } := by
  unfold State.setEvent
  split
  next hhas => rw [EventSummary.with_of_has hhas]
  next => simp [State.noteChange, h]

/-- Settles O15: an entry is used exactly when its address and length pass the tests of R167. -/
theorem supplyEntryIsTested : Obligations.SupplyEntryIsTested := by
  intro s address data hhosting hread hlength valid
  have hvalid : supplyValid data = true ↔ valid := by
    simp only [supplyValid, valid, supplyAddress, supplyLength, leQuad_toNat, Bool.and_eq_true, beq_iff_eq,
      within_eq_true_iff, and_assoc]
  have hexec :
      exec (.supplyEntryReadDone data) s =
        done
          { s with
            xpt.bulkTaken := s.xpt.bulkTaken + 1, xpt.readPath := none
            rpu.head :=
              if supplyValid data then .buffer (supplyAddress data) (supplyLength data) s.xpt.bulkTaken
              else .inlineOnly true } := by
    change execSupplyEntryReadDone data s = _
    simp only [execSupplyEntryReadDone, hlength, hread, s.hosting_of_Hosting hhosting, ne_eq, not_true_eq_false, if_false,
      if_true]
  refine ⟨fun h => ?_, fun h => ?_⟩
  · rw [hexec, if_pos (hvalid.2 h)]
    rfl
  · rw [hexec, if_neg (mt hvalid.1 h)]
    rfl

/-- Settles O16: the bulk buffer first where one is held, the record alone where none is. -/
theorem resultsAreWritten : Obligations.ResultsAreWritten := by
  refine ⟨fun s r rest hhosting hexpired hended hstaging hroom hneeds hwrite hdue => ?_,
    fun s r rest address data hhosting hexpired hended hstaging hwrite => ?_⟩
  · have hwritable : s.headWritable = true := by
      simp [State.headWritable, State.mayAccess_of hhosting hexpired hended, State.ringRoom_iff.2 hroom, hneeds, hwrite,
        hdue]
    refine ⟨fun address length count hhead => ?_, fun hhead => ?_⟩
    · change execResultWriteBegin s = _
      simp only [execResultWriteBegin, hstaging, hwritable, hhead, if_true]
      rfl
    · change execResultWriteBegin s = _
      simp only [execResultWriteBegin, hstaging, hwritable, if_true]
      cases hkind : s.rpu.head with
      | buffer address length count => simp [hkind, HeadSettlement.isBuffer] at hhead
      | unsettled | inlineOnly bad => rfl
  · change execBulkWriteDone s = _
    simp only [execBulkWriteDone, hstaging, hwrite, State.mayAccess_of hhosting hexpired hended, if_true]
    rfl

/-- Settles O17: the change is noted, the next result heads Staging, and the levels follow. -/
theorem recordWriteCompletes : Obligations.RecordWriteCompletes := by
  intro s r rest address data hhosting hstaging hwrite needs available
  let v : State :=
    { s with
      rpu.writePath := none, rpu.staging := rest, rpu.head := .unsettled
      rpu.resultsWritten := s.rpu.resultsWritten + 1
      rpu.recordsSinceReport := s.rpu.recordsSinceReport + 1
      rpu.reportDue := s.rpu.reportDue || s.reportTriggered r }
  let u : State :=
    { v with
      rpu.events := if r.truncated s.rpu.head = true then { s.rpu.events with truncate := true } else s.rpu.events }
  have hevent : (if r.truncated s.rpu.head = true then v.noteChange.setEvent .truncate else v.noteChange) = u.noteChange := by
    rw [State.noteChange_of_Hosting (s := v) hhosting, State.noteChange_of_Hosting (s := u) hhosting]
    dsimp only [u]
    split
    · rw [State.setEvent_of_changed _ rfl]
      rfl
    · rfl
  have hexec : exec .recordWriteDone s = .next u.noteChange.settle := by
    rw [← hevent]
    change execRecordWriteDone s = _
    simp only [execRecordWriteDone, hstaging, hwrite, s.hosting_of_Hosting hhosting, if_true]
    rfl
  obtain ⟨hchanged, hfresh, hrunning, hdue⟩ := State.noteChange_settle (s := u) hhosting
  have hneeds : u.noteChange.headNeedsBuffer = needs := by
    rw [State.noteChange_of_Hosting (s := u) hhosting]
    cases rest <;> simp [u, v, State.headNeedsBuffer, needs, Result.needsBuffer]
  have havailable : u.noteChange.supplyAvailable = true ↔ available := by
    rw [State.supplyAvailable_iff, State.dir, State.noteChange_xpt]
    rfl
  have hhead : u.noteChange.rpu.head = .unsettled := by simp [u, v]
  have hdir : u.noteChange.dir = s.dir := by rw [State.dir, State.noteChange_xpt]; rfl
  have hlevel := u.noteChange.settle_head
  have htimer := u.noteChange.settle_bulkWaitTimer
  rw [hneeds, hhead, hdir] at hlevel
  rw [hneeds, hdir] at htimer
  refine ⟨_, hexec, ?_, ?_, ?_, ?_, ?_, ?_, ?_, hchanged, hfresh, hrunning, ?_, ?_⟩
  · simp [u, v]
  · simp [u, v]
  · simp [u, v]
  · rintro (hneed | hsome)
    · exact ⟨by rw [hlevel, if_neg (by simp [hneed])], by rw [htimer, hneed]; rfl⟩
    · have hsupply := havailable.2 hsome
      exact ⟨by rw [hlevel, if_neg (by simp [hsupply])], by rw [htimer, hsupply]; simp⟩
  · intro hneed hnone hsize
    have hsupply : u.noteChange.supplyAvailable = false := Bool.eq_false_iff.2 (mt havailable.1 hnone)
    refine ⟨by rw [hlevel, if_pos ⟨hneed, hsupply, hsize⟩], ?_⟩
    rw [htimer]
    rcases hsize with h | h <;> simp [h]
  · intro hneed hnone hsize hwait
    have hsupply : u.noteChange.supplyAvailable = false := Bool.eq_false_iff.2 (mt havailable.1 hnone)
    exact ⟨by rw [hlevel, if_neg (by simp [hsize, hwait])], by rw [htimer]; simp [hneed, hsupply, hsize, hwait]⟩
  · simp [u, v]
  · rw [hdue]
    change (s.rpu.reportDue || s.reportTriggered r) = true ∨ (s.dir.reportHold = 0 ∧ rest = [] ∧ _) ↔ _
    simp [State.reportTriggered, u, v, or_assoc]
  · simp [u, v]

end Sys2Proof.Machine

/-! The Report Block (R172 to R178, R185). -/

namespace Sys2Proof.Machine

/-! ### The bytes of a block (section 10.2) -/

/-- A value written in `n` bytes, least significant first, reads back modulo `256 ^ n`. -/
theorem leNat_of_leBytes (data : List Byte) (n : Nat) : ∀ (value offset : Nat),
    (data.drop offset).take n = leBytes value n → leNat data offset n = value % 256 ^ n := by
  induction n with
  | zero => exact fun value _ _ => (Nat.mod_one value).symm
  | succ n ih =>
    intro value offset h
    cases hdrop : data.drop offset with
    | nil => simp [hdrop, leBytes] at h
    | cons b rest =>
      have hbyte : byteAt data offset = b := byteAt_of_getElem? (by rw [← List.head?_drop, hdrop]; rfl)
      have hrest : data.drop (offset + 1) = rest := by rw [← List.tail_drop, hdrop]; rfl
      rw [hdrop, leBytes, List.take_succ_cons, List.cons.injEq] at h
      obtain ⟨hb, htail⟩ := h
      have hsplit : value % 256 ^ (n + 1) = value % 256 + 256 * (value / 256 % 256 ^ n) := by
        rw [Nat.pow_succ', Nat.mod_mul]
      rw [hsplit, leNat, hbyte, hb, ih (value / 256) (offset + 1) (hrest ▸ htail), BitVec.toNat_ofNat]

theorem flagByte_lt (flags : List Bool) : flagByte flags < 2 ^ flags.length := by
  induction flags with
  | nil => exact Nat.one_pos
  | cons f rest ih =>
    rw [flagByte, List.length_cons, Nat.pow_succ]
    split <;> omega

/-- Each bit of a flag byte is its flag. -/
theorem flagByte_testBit (flags : List Bool) : ∀ i, (flagByte flags).testBit i = flags.getD i false := by
  induction flags with
  | nil => intro i; simp [flagByte]
  | cons f rest ih =>
    intro i
    have hform : flagByte (f :: rest) = Nat.bit f (flagByte rest) := by
      cases f <;> simp [flagByte, Nat.bit, Nat.add_comm]
    rw [hform]
    cases i with
    | zero => simp
    | succ i => rw [Nat.testBit_bit_succ, ih]; rfl

theorem leWord_of_leBytes {data : List Byte} {offset : Nat} {w : Word}
    (h : (data.drop offset).take 4 = leBytes w.toNat 4) : leWord data offset = w := by
  rw [← BitVec.toNat_inj, leWord_toNat, leNat_of_leBytes data 4 _ _ h]
  exact Nat.mod_eq_of_lt w.isLt

/-- The byte of STATE in a block: the role, the exchange state and the shift (R172). -/
theorem State.reportBlock_stateByte {s : State} (hshift : s.msu.shift ≤ 3) :
    ((byteAt s.reportBlock 25).extractLsb' 0 2).toNat = s.msu.role.code ∧
      ((byteAt s.reportBlock 25).extractLsb' 2 2).toNat = s.reportedExchangeState.code ∧
      ((byteAt s.reportBlock 25).extractLsb' 4 2).toNat = s.msu.shift ∧ (byteAt s.reportBlock 25).extractLsb' 6 2 = 0 :=
        by
  have hrole := s.msu.role.code_lt
  have hstate := s.reportedExchangeState.code_lt
  have hbyte : (byteAt s.reportBlock 25).toNat = s.msu.role.code + 4 * s.reportedExchangeState.code + 16 * s.msu.shift :=
    (BitVec.toNat_ofNat _ _).trans (Nat.mod_eq_of_lt (by omega))
  have hzero : (0 : BitVec 2).toNat = 0 := rfl
  refine ⟨?_, ?_, ?_, BitVec.eq_of_toNat_eq ?_⟩
  all_goals
    rw [extractLsb_toNat, hbyte]
    omega

/-- The byte of the event summary in a block (R176). -/
theorem State.reportBlock_eventByte (s : State) :
    (∀ i < 6, (byteAt s.reportBlock 26).getLsbD i =
      [s.rpu.events.station, s.rpu.events.lane, s.rpu.events.role, s.rpu.events.truncate, s.rpu.events.overrun,
        s.rpu.events.orderErr].getD i false) ∧ (byteAt s.reportBlock 26).extractLsb' 6 2 = 0 := by
  have hlt : s.rpu.events.byte < 2 ^ 6 := flagByte_lt _
  have hbyte : (byteAt s.reportBlock 26).toNat = s.rpu.events.byte :=
    (BitVec.toNat_ofNat _ _).trans (Nat.mod_eq_of_lt (by omega))
  refine ⟨fun i _ => ?_, BitVec.eq_of_toNat_eq ?_⟩
  · rw [BitVec.getLsbD, hbyte]
    exact flagByte_testBit _ i
  · rw [extractLsb_toNat, hbyte, Nat.div_eq_of_lt hlt]
    rfl

/-- Settles O18: the block is cut into its fields, and the three packed bytes into their bits. -/
theorem reportBlockIsTaken : Obligations.ReportBlockIsTaken := by
  refine ⟨fun s hhosting hexpired hdue hwrite => ?_, fun s hshift ha hb hstations => ?_⟩
  · have hready : s.reportReady = true := by
      simp [State.reportReady, s.hosting_of_Hosting hhosting, hexpired, hdue, hwrite]
    exact if_pos hready
  · have hcount (p : StationRecord → Bool) : (BitVec.ofNat 8 (s.stations.filter p).length).toNat = (s.stations.filter p).length := by
      have := List.length_filter_le p s.stations
      exact (BitVec.toNat_ofNat _ _).trans (Nat.mod_eq_of_lt (by omega))
    have hlane (l : LaneController) (h : l.faults ≤ 15) : l.reportByte.toNat = (if l.up then 0 else 128) + l.faults := by
      rw [LaneController.reportByte, BitVec.toNat_ofNat]
      split <;> omega
    obtain ⟨hrole, hstate, hshiftBits, hstateRest⟩ := s.reportBlock_stateByte hshift
    obtain ⟨hevents, heventsRest⟩ := s.reportBlock_eventByte
    refine ⟨rfl, leWord_of_leBytes rfl, leWord_of_leBytes rfl, leWord_of_leBytes rfl, leWord_of_leBytes rfl,
      leWord_of_leBytes rfl, leWord_of_leBytes rfl, rfl, hrole.trans ?_, hstate.trans ?_,
      hshiftBits, hstateRest, hevents 0 (by decide), hevents 1 (by decide), hevents 2 (by decide), hevents 3 (by decide),
      hevents 4 (by decide), hevents 5 (by decide), heventsRest, hcount _, hcount _,
      hlane _ ha, hlane _ hb, rfl⟩
    · cases s.msu.role <;> rfl
    · unfold State.reportedExchangeState
      split
      · rfl
      · cases s.ctl.exchangeState <;> rfl

end Sys2Proof.Machine

/-! The completion of a Report Block, the Report Unit's timers, and the loss of the ACTIVE role (R120, R121, R173, R178). -/

namespace Sys2Proof.Machine

/-- Settles O19: the last block of a drain takes the device to HALTED. -/
theorem reportBlockCompletes : Obligations.ReportBlockCompletes := by
  intro s address data tag hhosting hwrite
  let u : State := { s with rpu.writePath := none, rpu.lastTag := tag }
  have hexec : exec .reportBlockWriteDone s = done (if s.ctl.drainEnded then u.enterHalted else u) := by
    change execReportBlockWriteDone s = _
    simp only [execReportBlockWriteDone, hwrite, s.hosting_of_Hosting hhosting, if_true]
    rfl
  refine ⟨fun hrunning => by rw [hexec, hrunning]; rfl, fun hended => ?_⟩
  have hnext : exec .reportBlockWriteDone s = .next u.enterHalted.settle := by rw [hexec, hended]; rfl
  obtain ⟨head, bulkWait, due, attention, heq⟩ := u.enterHalted.settle_eq
  rw [heq] at hnext
  exact ⟨_, hnext, by and_intros <;> rfl⟩

/-! ### The ACTIVE role is left (R120, R121) -/

section
variable {s : State} {o : Order}

/-- Entry to STOPPED writes the Sweep Engine, which keeps its lists and counts, and Staging, and nothing else (R64). -/
theorem State.stopSweep_eq (s : State) :
    ∃ swe staging, s.stopSweep = { s with swe := swe, rpu.staging := staging } ∧
      swe.state = .stopped ∧ swe.active = s.swe.active ∧ swe.pendingList = s.swe.pendingList ∧
      swe.sweepCount = s.swe.sweepCount ∧ swe.overrunCount = s.swe.overrunCount := by
  have hwrites : ∃ swe staging, s.stopSweep = { s with swe := swe, rpu.staging := staging } := by
    unfold State.stopSweep State.finishAbandon
    split
    · exact ⟨s.swe, s.rpu.staging, rfl⟩
    · exact ⟨_, s.rpu.staging, rfl⟩
    · (repeat' split) <;> exact ⟨_, _, rfl⟩
  obtain ⟨hstate, hsweeps, hoverruns, -⟩ := s.stopSweep_keeps
  have hactive := s.stopSweep_swe_active
  have hpending := s.stopSweep_swe_pendingList
  obtain ⟨swe, staging, heq⟩ := hwrites
  rw [heq] at hstate hsweeps hoverruns hactive hpending ⊢
  exact ⟨swe, staging, rfl, hstate, hactive, hpending, hsweeps, hoverruns⟩

theorem State.endNotActive_of_queueWait (h : s.oru.hand = .queueWait o) :
    s.endNotActive = (s.endClosedEntries .notActive).answer o .notActive := by
  simp [State.endNotActive, State.endClosedEntries, h]

/-- A marker ends with the last entry before it (R153). -/
theorem State.endNotActive_of_markerWait (h : s.oru.hand = .markerWait o) (hrunning : s.ctl.exchangeState = .running) :
    s.endNotActive =
      if s.oru.busQueue.all (fun e => !e.exchangeOpen) = true then (s.endClosedEntries .notActive).answer o .done
      else s.endClosedEntries .notActive := by
  simp [State.endNotActive, State.endClosedEntries, State.markerCheck, h, filter_exchangeOpen_isEmpty,
    State.markerOutcome, State.draining,
    hrunning]

theorem State.endNotActive_of_stays (h : ∀ o, s.oru.hand ∉ [.queueWait o, .markerWait o]) :
    s.endNotActive = s.endClosedEntries .notActive := by
  cases hhand : s.oru.hand with
  | queueWait o | markerWait o => exact absurd (by simp [hhand]) (h o)
  | empty | holdWait o | claimDeferred o | claimStaging o | yieldStaging o | stageWait o =>
    simp [State.endNotActive, State.endClosedEntries, State.markerCheck, hhand]

@[simp] theorem State.endNotActive_busQueue (s : State) :
    s.endNotActive.oru.busQueue = s.oru.busQueue.filter (fun e => e.exchangeOpen) := by
  unfold State.endNotActive State.markerCheck
  dsimp only
  (repeat' split) <;> rfl

/-- An event writes the event summary, and notes the change. -/
theorem State.setEvent_eq (e : Event) (s : State) :
    ∃ changed holdTimer,
      s.setEvent e = { s with rpu.events := s.rpu.events.with e, rpu.changed := changed, rpu.holdTimer := holdTimer } :=
        by
  unfold State.setEvent State.noteChange
  split
  next hhas => exact ⟨_, _, by rw [EventSummary.with_of_has hhas]⟩
  next => split <;> exact ⟨_, _, rfl⟩

/-- What the ACTIVE role left does, before the orders are ended: the Sweep Engine is STOPPED and keeps its lists and
counts, the open exchange keeps its last attempt, and a role change is due (R64, R84, R120, R121). -/
structure State.LeftTo (s t : State) (reason : RoleReason) (tag : Option (BitVec 1)) : Prop where
  msu : t.msu =
    { s.msu with
      role := .listen, markTimer := false, markClaim := false
      windDown := some { awaitHand := s.oru.hand.windDownWaits }
      roleDue := if s.hosting then
          s.msu.roleDue ++
            [{ role := .listen, previous := .active, reason := reason, shift := s.msu.shift, foreignTag := tag }]
        else s.msu.roleDue }
  exu : t.exu = { s.exu with exchange := s.exu.exchange.map (fun x => { x with noRetry := true }) }
  events : t.rpu.events = s.rpu.events
  stopped : t.swe.state = .stopped
  active : t.swe.active = s.swe.active
  pendingList : t.swe.pendingList = s.swe.pendingList
  sweepCount : t.swe.sweepCount = s.swe.sweepCount
  overrunCount : t.swe.overrunCount = s.swe.overrunCount
  ctl : t.ctl = s.ctl
  xpt : t.xpt = s.xpt
  stations : t.stations = s.stations
  points : t.points = s.points
  lanes : t.lanes = s.lanes
  bar : t.bar = s.bar
  oru : t.oru = s.oru
  pending : t.pending = s.pending

theorem State.roleLeft_leftTo (s : State) (reason : RoleReason) (tag : Option (BitVec 1)) :
    s.LeftTo (s.roleLeft reason tag) reason tag := by
  unfold State.roleLeft
  obtain ⟨swe, staging, heq, hstate, hactive, hpending, hsweeps, hoverruns⟩ := State.stopSweep_eq _
  rw [heq]
  exact ⟨rfl, rfl, rfl, hstate, hactive, hpending, hsweeps, hoverruns, rfl, rfl, rfl, rfl, rfl, rfl, rfl, rfl⟩

theorem State.leaveActive_of_running (reason : RoleReason) (tag : Option (BitVec 1))
    (h : s.ctl.exchangeState = .running) :
    s.leaveActive reason tag = (s.roleLeft reason tag).endNotActive := by
  rw [State.leaveActive_eq, if_pos]
  simp [State.running, State.roleLeft, h]

theorem State.leaveActive_of_not_running (reason : RoleReason) (tag : Option (BitVec 1))
    (h : s.ctl.exchangeState ≠ .running) : s.leaveActive reason tag = s.roleLeft reason tag := by
  rw [State.leaveActive_eq, if_neg]
  simp [State.running, State.roleLeft, h]

theorem State.hostAttention_of_listen (h : s.msu.role = .listen) :
    s.hostAttention = { s with msu.shift := min 3 (s.msu.shift + 1) }.setEvent .role := by
  unfold State.hostAttention
  split
  next hoff => simp [h] at hoff
  next => rfl
  next hactive => simp [h] at hactive

/-- A host that stays silent costs the ACTIVE role, at a raised shift and with the ROLE event (R178). -/
theorem State.hostAttention_of_active (h : s.msu.role = .active) :
    ∃ u changed holdTimer,
      ({ s with
          msu.shift := min 3 (s.msu.shift + 1), rpu.events := s.rpu.events.with .role, rpu.changed := changed
          rpu.holdTimer := holdTimer } : State).LeftTo u .hostSilent none ∧
      s.hostAttention = if s.ctl.exchangeState = .running then u.endNotActive else u := by
  let w : State := { s with msu.shift := min 3 (s.msu.shift + 1) }
  obtain ⟨changed, holdTimer, hevent⟩ := w.setEvent_eq .role
  refine ⟨(w.setEvent .role).roleLeft .hostSilent none, changed, holdTimer, ?_, ?_⟩
  · rw [hevent]
    exact State.roleLeft_leftTo _ _ _
  · have hattention : s.hostAttention = (w.setEvent .role).leaveActive .hostSilent none := by
      unfold State.hostAttention
      split
      next hoff => simp [h] at hoff
      next hlisten => simp [h] at hlisten
      next => rfl
    have hctl : (w.setEvent .role).ctl = s.ctl := w.setEvent_ctl .role
    rw [hattention]
    split
    next hrunning => rw [State.leaveActive_of_running _ _ (by rw [hctl, hrunning])]
    next hrunning => rw [State.leaveActive_of_not_running _ _ (by rwa [hctl])]

end

/-- Settles O20: each expiry of the attention timer by the role it finds. -/
theorem reportUnitTimers : Obligations.ReportUnitTimers := by
  refine ⟨fun s => ⟨fun h => if_pos h, fun h => if_pos h⟩, ?_⟩
  intro s hrunning windingDown
  let e : State := { s with rpu.attention := .expired }
  have hexec : exec .attentionTimerExpiry s = .next e.hostAttention.settle := if_pos hrunning
  refine ⟨fun hrole => ?_, fun hrole hstate => ?_, fun hrole hstate => ?_, fun hrole => ?_⟩
  · obtain ⟨changed, holdTimer, hevent⟩ := State.setEvent_eq .role { e with msu.shift := min 3 (s.msu.shift + 1) }
    rw [State.hostAttention_of_listen (s := e) hrole, hevent] at hexec
    obtain ⟨head, bulkWait, due, attention, heq⟩ := State.settle_eq _
    rw [heq] at hexec
    exact ⟨_, hexec, by and_intros <;> rfl⟩
  · have hhosting : s.hosting = true := s.hosting_of_Hosting (.inl hstate)
    obtain ⟨u, changed, holdTimer, hleft, hattention⟩ := State.hostAttention_of_active (s := e) hrole
    rw [hattention, if_pos (by exact hstate)] at hexec
    have hrun : u.ctl.exchangeState = .running := by rw [hleft.ctl]; exact hstate
    refine ⟨_, hexec, ?_⟩
    simp only [State.settle_ctl, State.settle_swe, State.settle_msu, State.settle_exu, State.settle_oru,
      State.settle_stations, State.settle_points, State.settle_xpt, State.settle_lanes, State.settle_bar,
      State.settle_rpu_events, State.settle_pending, windingDown, State.endNotActive_ctl, State.endNotActive_swe,
      State.endNotActive_msu, State.endNotActive_exu, State.endNotActive_stations, State.endNotActive_points,
      State.endNotActive_xpt, State.endNotActive_lanes, State.endNotActive_bar, State.endNotActive_rpu,
      State.endNotActive_pending, State.endNotActive_busQueue, State.endNotActive_oru_cache, hleft.msu, hleft.exu,
      hleft.events, hleft.stopped, hleft.ctl, hleft.xpt, hleft.stations, hleft.points, hleft.lanes, hleft.bar, hleft.oru,
      hleft.pending]
    refine ⟨trivial, rfl, rfl, trivial, trivial, rfl, if_pos hhosting, rfl, trivial, hleft.active, hleft.pendingList,
      hleft.sweepCount, hleft.overrunCount, rfl, rfl, ?_, rfl, rfl, rfl, rfl, rfl, rfl, rfl, rfl⟩
    have horu : u.oru = s.oru := hleft.oru
    rw [← horu]
    cases hhand : u.oru.hand with
    | queueWait o =>
      rw [u.endNotActive_of_queueWait hhand]
      exact ⟨rfl, rfl⟩
    | markerWait o =>
      rw [u.endNotActive_of_markerWait hhand hrun]
      dsimp only
      split
      · exact ⟨rfl, rfl⟩
      · exact ⟨hhand, rfl⟩
    | empty | holdWait o | claimDeferred o | claimStaging o | yieldStaging o | stageWait o =>
      rw [u.endNotActive_of_stays fun o => by simp [hhand]]
      exact ⟨hhand, rfl⟩
  · have hhosting : s.hosting = true := s.hosting_of_Hosting (.inr hstate)
    obtain ⟨u, changed, holdTimer, hleft, hattention⟩ := State.hostAttention_of_active (s := e) hrole
    rw [hattention, if_neg (by simp [e, hstate])] at hexec
    refine ⟨_, hexec, ?_⟩
    simp only [State.settle_ctl, State.settle_swe, State.settle_msu, State.settle_exu, State.settle_oru,
      State.settle_stations, State.settle_points, State.settle_xpt, State.settle_lanes, State.settle_bar,
      State.settle_rpu_events, State.settle_pending, windingDown, hleft.msu, hleft.exu,
      hleft.events, hleft.stopped, hleft.ctl, hleft.xpt, hleft.stations, hleft.points, hleft.lanes, hleft.bar, hleft.oru,
      hleft.pending]
    exact ⟨trivial, rfl, rfl, trivial, trivial, rfl, trivial, hleft.sweepCount, if_pos hhosting, rfl, rfl, rfl, rfl, rfl,
      rfl, rfl, rfl, rfl, rfl⟩
  · exact hexec.trans (by rw [State.hostAttention_of_off e hrole])

end Sys2Proof.Machine

/-! The records of results (R166, R170, section 10.4). -/

namespace Sys2Proof.Machine

theorem leBytes_length (value n : Nat) : (leBytes value n).length = n := by
  induction n generalizing value with
  | zero => rfl
  | succ n ih => rw [leBytes, List.length_cons, ih]

/-- The bytes of a value, least significant first. -/
theorem byteAt_leBytes (n : Nat) : ∀ value, ∀ i < n, byteAt (leBytes value n) i = BitVec.ofNat 8 (value / 256 ^ i) := by
  induction n with
  | zero => nofun
  | succ n ih =>
    intro value i hi
    cases i with
    | zero => simp [leBytes, byteAt]
    | succ i =>
      have hrest : byteAt (leBytes value (n + 1)) (i + 1) = byteAt (leBytes (value / 256) n) i := rfl
      rw [hrest, ih (value / 256) i (Nat.lt_of_succ_lt_succ hi), Nat.div_div_eq_div_mul, Nat.pow_succ']

theorem flagByte_two (f g : Bool) : flagByte [f, g] = (if f then 1 else 0) + (if g then 2 else 0) := by
  cases f <;> cases g <;> rfl

theorem flagByte_four (f g h k : Bool) :
    flagByte [f, g, h, k] =
      (if f then 1 else 0) + (if g then 2 else 0) + (if h then 4 else 0) + (if k then 8 else 0) := by
  cases f <;> cases g <;> cases h <;> cases k <;> rfl

section
variable {r : Result} {h : HeadSettlement}

/-- Each entry of a result has its size in bytes. -/
theorem Entries.length_of_mem_each {e : Entries} {bytes : List Byte} (hb : bytes ∈ e.each) : bytes.length = e.size := by
  cases e with
  | values l =>
    obtain ⟨v, -, rfl⟩ := List.mem_map.1 hb
    simp [ValueEntry.bytes, leBytes_length, Entries.size]
  | totals l =>
    obtain ⟨v, -, rfl⟩ := List.mem_map.1 hb
    simp [TotalEntry.bytes, leBytes_length, Entries.size]
  | counters l =>
    obtain ⟨v, -, rfl⟩ := List.mem_map.1 hb
    exact leBytes_length _ _

theorem Result.entryBytes_length : (r.entryBytes h).length ≤ r.carried h * r.entries.size := by
  have hsize : ∀ b ∈ r.entries.each.take (r.carried h), b.length = r.entries.size :=
    fun b hb => Entries.length_of_mem_each (List.mem_of_mem_take hb)
  have hcount : (r.entries.each.take (r.carried h)).length ≤ r.carried h := List.length_take_le _ _
  rw [Result.entryBytes, List.length_flatten, List.map_congr_left hsize, List.map_const', List.sum_replicate, smul_eq_mul]
  exact Nat.mul_le_mul_right _ hcount

/-- Entries carried inline fit in the record's own room (R166, R170). -/
theorem Result.carried_le_room (hsettled : h = .unsettled → r.needsBuffer = false) (hinline : h.isBuffer = false) :
    r.carried h ≤ r.room := by
  cases h with
  | unsettled =>
    have hfit := of_decide_eq_false (hsettled rfl)
    exact not_lt.1 hfit
  | buffer address length count => cases hinline
  | inlineOnly bad => exact Nat.min_le_right _ _

/-- The entry area fits in what the other fields leave of the record. -/
theorem Result.entryArea_length (hsettled : h = .unsettled → r.needsBuffer = false) (n : Nat)
    (hroom : r.room * r.entries.size ≤ n)
    (hn : 14 ≤ n) : (r.entryArea h).length ≤ n := by
  have hinline (hinline : h.isBuffer = false) : (r.entryBytes h).length ≤ n :=
    (Result.entryBytes_length.trans (Nat.mul_le_mul_right _ (Result.carried_le_room hsettled hinline))).trans hroom
  cases h with
  | unsettled | inlineOnly bad => exact hinline rfl
  | buffer address length count => simpa [Result.entryArea, leBytes_length] using hn

theorem Result.fields_length (hsettled : h = .unsettled → r.needsBuffer = false) : (r.fields h).length ≤ 30 := by
  cases r with
  | order o =>
    have harea := Result.entryArea_length hsettled 24 (by cases ho : o.entries <;> simp [Result.room, Result.entries,
      Entries.orderRoom, Entries.size, ho]) (by omega)
    simp [Result.fields, leBytes_length]
    omega
  | change c =>
    have harea := Result.entryArea_length hsettled 16 (by simp [Result.room, Result.entries, Entries.size]) (by omega)
    simp [Result.fields, leBytes_length]
    omega
  | station x => simp [Result.fields]
  | sweep w => simp [Result.fields, leBytes_length]
  | role m => simp [Result.fields, leBytes_length]

theorem Result.record_length (hsettled : h = .unsettled → r.needsBuffer = false) : (r.record h).length = 32 := by
  have hfields := Result.fields_length hsettled
  simp only [Result.record, zeroFilled, List.length_append, List.length_cons, List.length_nil, List.length_replicate]
  omega

/-- From byte 2 on a record holds its fields, and zeros to its end. -/
theorem Result.record_drop (r : Result) (h : HeadSettlement) :
    (r.record h).drop 2 = r.fields h ++ List.replicate (30 - (r.fields h).length) 0 := by
  have hlength : 32 - (2 + (r.fields h).length) = 30 - (r.fields h).length := by omega
  simp [Result.record, zeroFilled, Nat.add_comm _ 2, hlength]

/-- Byte 1 of a record is its flags, bit by bit. -/
theorem Result.record_flag (r : Result) (h : HeadSettlement) (i : Nat) :
    (byteAt (r.record h) 1).getLsbD i =
      [r.ownFlags.1, r.reportNow, r.ownFlags.2.1, r.truncated h, h.supplyBad, r.ownFlags.2.2.1, r.ownFlags.2.2.2,
        h.isBuffer].getD i false := by
  have hlt : r.flagsByte h < 2 ^ 8 := flagByte_lt _
  have hbyte : (byteAt (r.record h) 1).toNat = r.flagsByte h := (BitVec.toNat_ofNat _ _).trans (Nat.mod_eq_of_lt hlt)
  rw [BitVec.getLsbD, hbyte]
  exact flagByte_testBit _ i

theorem Result.record_byte0 (r : Result) (h : HeadSettlement) : (byteAt (r.record h) 0).toNat = r.byte0 := by
  refine (BitVec.toNat_ofNat _ _).trans (Nat.mod_eq_of_lt ?_)
  cases r with
  | order o => cases ho : o.outcome <;> simp [Result.byte0, OrderOutcome.code, ho]
  | station _ | change _ | sweep _ | role _ => simp [Result.byte0]

end

/-- Settles O21: the codes, the entries, what is carried, the flags, and the fields of each type. -/
theorem resultRecords : Obligations.ResultRecords := by
  refine ⟨by decide, ⟨fun n k => ⟨leBytes_length n k, byteAt_leBytes k n⟩, fun l => ⟨rfl, ?_⟩, fun l => ⟨rfl, rfl⟩,
    fun l => ⟨rfl, rfl⟩, fun o => ⟨rfl, ?_⟩, fun c => ⟨rfl, rfl⟩,
      fun x => rfl, fun w => rfl, fun m => rfl⟩, ?_, ?_, ?_, ?_⟩
  · exact List.map_congr_left fun e _ => by rw [ValueEntry.bytes, flagByte_two]
  · cases ho : o.entries <;> simp [Result.room, ho, Entries.orderRoom]
  · intro r n
    refine ⟨by simp [Result.needsBuffer, n], fun address length count => ⟨rfl, ?_⟩, fun bad => ⟨rfl, ?_⟩, rfl, ?_,
      fun h => rfl⟩
    · simp [Result.truncated, Result.carried, n]
    · simp [Result.truncated, Result.carried, n]
    · simp [Result.truncated, Result.carried]
  · intro r h hsettled b
    have hflag := r.record_flag h
    refine ⟨Result.record_length hsettled, ?_, ⟨hflag 1, hflag 3, ?_, ?_⟩, ?_, ?_, ?_, ?_, ?_⟩
    · rw [r.record_byte0 h]
      cases r <;> rfl
    · rw [hflag 4]
      cases h <;> simp [HeadSettlement.supplyBad]
    · rw [hflag 7]
      cases h <;> simp [HeadSettlement.isBuffer]
    · rintro o rfl
      exact ⟨rfl, hflag 0, hflag 2, hflag 5, hflag 6⟩
    · rintro x rfl
      exact ⟨rfl, hflag 0, hflag 2, hflag 5, hflag 6⟩
    · rintro c rfl
      exact ⟨rfl, hflag 0, hflag 2, hflag 5, hflag 6⟩
    · rintro w rfl
      exact ⟨rfl, hflag 0, hflag 2, hflag 5, hflag 6⟩
    · rintro m rfl
      exact ⟨rfl, hflag 0, hflag 2, hflag 5, hflag 6⟩
  · intro r h hsettled area
    have harea (size : Nat) : area size = r.entryArea h ++ List.replicate (size - (r.entryArea h).length) 0 := by
      cases h with
      | unsettled | inlineOnly bad => rfl
      | buffer address length count => simp [area, Result.entryArea, leBytes_length]
    refine ⟨?_, ?_⟩
    · rintro o rfl
      rw [Result.record_drop, harea]
      simp only [Result.fields, List.length_append, List.length_cons, List.length_nil, leBytes_length, List.append_assoc]
      congr 5
      omega
    · rintro c rfl
      rw [Result.record_drop, harea, ← flagByte_two, ← flagByte_two]
      simp only [Result.fields, List.length_append, List.length_cons, List.length_nil, leBytes_length, List.append_assoc]
      congr 5
      omega
  · refine ⟨fun x => ?_, fun w => ?_, fun m => ?_⟩
    · rw [Result.record_drop, ← flagByte_four]
      cases hcondition : x.condition <;> cases hidentity : x.identity <;>
        simp [Result.fields, optByte, hcondition, hidentity]
    · simp [Result.record_drop, Result.fields, leBytes_length]
    · cases htag : m.foreignTag <;> simp [Result.record_drop, Result.fields, leBytes_length, htag]

end Sys2Proof.Machine

/-! Orders that end at once, markers, and enrolment (R133 to R140, R153). -/

namespace Sys2Proof.Machine

section
variable {s : State} {o : Order}

/-- The order at the head of the cache is taken in hand where it passes the test (R133). -/
theorem State.taken?_of {p : Order → Bool} (hrunning : s.ctl.exchangeState = .running) (hhand : s.oru.hand = .empty)
    (hcompletion : s.oru.completion = []) (hhead : s.oru.cache.head? = some o) (hp : p o = true) : s.taken? p = some o :=
      by
  simp [State.taken?, State.running, State.handFree, hrunning, hhand, hcompletion, hhead, hp]

theorem State.takesRole_of {q : RoleRequest} (h : s.Takes o .role) (hq : o.roleRequest = q) : s.takesRole q = some o :=
  State.taken?_of h.running h.hand h.completion h.head (by simp [h.kind, hq])

/-- A result that completes an order taken from the cache is all that the completion list then holds (R134). -/
theorem State.completeHand_finished (hcompletion : s.oru.completion = []) (outcome : OrderOutcome) (detail : Nat)
    (entries : Entries) : s.popOrder.completeHand o outcome detail entries = s.finished o outcome detail entries := by
  simp [State.completeHand, State.popOrder, State.finished, hcompletion]

end

/-- Settles O22: each order that ends as it is taken, and the MARKER. -/
theorem ordersThatEndAtOnceOrMark : Obligations.OrdersThatEndAtOnceOrMark := by
  refine ⟨fun s o => ⟨fun hdraining hhand hcompletion hhead => ?_, fun hrunning hhand hcompletion hhead hkind => ?_,
    fun htakes hone htwo => ?_, fun htakes => ?_⟩, fun s o htakes => ⟨fun hempty => ?_, fun hbusy => ?_⟩⟩
  · change execOrderAbandonedInDrain s = _
    simp only [execOrderAbandonedInDrain, State.draining, State.handFree, hdraining, hhand, hcompletion, hhead,
      State.finishOrder, State.answer, State.completeHand_finished hcompletion]
    rfl
  · change execUnrecognisedKind s = _
    have htaken := State.taken?_of (p := fun o => o.kind?.isNone) hrunning hhand hcompletion hhead (by simp [hkind])
    simp only [execUnrecognisedKind, htaken, State.finishOrder, State.answer, State.completeHand_finished hcompletion]
    rfl
  · have hother : o.roleRequest = .other := (if_neg hone).trans (if_neg htwo)
    change execRole s = _
    simp only [execRole, State.takesRole_of htakes hother, State.finishOrder_of_Takes htakes]
  · change execStats s = _
    simp only [execStats, State.takes_of_Takes htakes, State.completeHand_finished htakes.completion]
    rfl
  · change execMarker s = _
    simp only [execMarker, State.takes_of_Takes htakes, hempty, List.isEmpty_nil, if_true,
      State.finishOrder_of_Takes htakes]
  · change execMarker s = _
    rw [execMarker, State.takes_of_Takes htakes]
    exact if_neg (by simpa using hbusy)

/-! ### Enrolment (R2, R4, R138) -/

section
variable {s : State} {o : Order} {r : StationRecord}

theorem find?_insertRecord_self {l : List StationRecord} (h : ∀ q ∈ l, q.address ≠ r.address) :
    (insertRecord r l).find? (fun q => q.address = r.address) = some r := by
  induction l with
  | nil => simp [insertRecord]
  | cons q rest ih =>
    obtain ⟨hq, hrest⟩ := List.forall_mem_cons.1 h
    unfold insertRecord
    split
    · simp
    · simp [hq, ih hrest]

/-- A record enrolled is found at its own address, and every other station as before. -/
theorem State.enrolRecord_station? (h : s.station? r.address = none) (a : Nat) :
    (s.enrolRecord r).station? a = if a = r.address then some r else s.station? a := by
  split
  next ha =>
    subst ha
    exact find?_insertRecord_self fun q hq => by simpa using List.find?_eq_none.1 h q hq
  next ha => exact find?_insertRecord (Ne.symm ha) s.stations

theorem State.enrolRecord_point {slot : Nat} (hslot : slot < 384) :
    (s.enrolRecord r).point slot =
      if r.firstSlot ≤ slot ∧ slot < r.firstSlot + r.slotCount then Point.default else s.point slot :=
  updateWindow_at _ _ _ _ _ hslot

theorem laneOf_eq (code : Nat) : laneOf code = if code = 0 then some .a else if code = 1 then some .b else none := by
  match code with
  | 0 | 1 => rfl
  | code + 2 => simp [laneOf]

/-- What the fields of an ENROL must satisfy (R138). -/
theorem Order.enrolRecord?_isSome_iff (o : Order) :
    o.enrolRecord?.isSome ↔
      (1 ≤ o.station ∧ o.station ≤ 125) ∧ (1 ≤ leNat o.body 1 1 ∧ leNat o.body 1 1 ≤ 32) ∧
        leNat o.body 2 2 ≤ 383 ∧ leNat o.body 2 2 + leNat o.body 1 1 - 1 ≤ 383 ∧
        (1 ≤ leNat o.body 4 1 ∧ leNat o.body 4 1 ≤ 8) ∧ (1 ≤ leNat o.body 5 1 ∧ leNat o.body 5 1 ≤ 15) ∧
        1 ≤ leNat o.body 6 1 ∧ leNat o.body 7 1 ≤ 1 ∧ leNat o.body 8 1 ≤ 3 := by
  have hbyte (offset : Nat) : leNat o.body offset 1 = (byteAt o.body offset).toNat := rfl
  have hrevisit := (byteAt o.body 6).isLt
  simp only [hbyte]
  unfold Order.enrolRecord?
  rw [laneOf_eq]
  split
  next hlane =>
    refine iff_of_false (by simp) fun hfields => ?_
    split at hlane <;> [cases hlane; split at hlane <;> [cases hlane; omega]]
  next lane hlane =>
    have hcode : (byteAt o.body 7).toNat ≤ 1 := by
      by_contra hcode
      rw [if_neg (by omega), if_neg (by omega)] at hlane
      cases hlane
    simp only [Option.isSome_ite, Bool.and_eq_true, within_eq_true_iff, decide_eq_true_eq, Config.maxStationAddress]
    omega

theorem exec_enrol_refused {outcome : OrderOutcome} (h : s.Takes o .enrol) (hcheck : s.checkEnrol o = .error outcome) :
    exec .enrol s = .next (s.finished o outcome 0 (.values [])).settle := by
  change execEnrol s = _
  simp only [execEnrol, State.takes_of_Takes h, hcheck, State.finishOrder_of_Takes h]

end

/-- Settles O23: a record that passes the tests is found at its address, its window takes the default point. -/
theorem enrolment : Obligations.Enrolment := by
  refine ⟨fun s o r htakes hrecord hfresh hapart hroom => ?_, fun s o htakes => ⟨fun hrecord => ?_, fun r hrecord =>
    ⟨fun hthere => ?_, fun hfresh hoverlap => ?_,
      fun hfresh hapart hfull => ?_⟩⟩, fun o => ⟨o.enrolRecord?_isSome_iff, ?_⟩,
    fun r q hr hq => ?_⟩
  · let u := (s.enrolRecord r).finished o .done 0 (.values [])
    have hexec : exec .enrol s = .next u.settle := by
      have hcompleted := State.completeHand_finished (s := s.enrolRecord r) (o := o) htakes.completion .done 0 (.values [])
      change execEnrol s = _
      simp only [execEnrol, State.takes_of_Takes htakes, State.checkEnrol_ok_iff.2 ⟨hrecord, hfresh, hapart, hroom⟩,
        State.answer, hcompleted]
      rfl
    have hstation := State.enrolRecord_station? hfresh
    obtain ⟨head, bulkWait, due, attention, heq⟩ := u.settle_eq
    rw [heq] at hexec
    refine ⟨_, hexec, (hstation r.address).trans (if_pos rfl), fun a ha => (hstation a).trans (if_neg ha),
      length_insertRecord r s.stations, fun slot hslot => State.enrolRecord_point hslot, rfl, rfl, rfl, rfl, rfl,
      rfl, rfl, rfl, rfl, rfl, rfl⟩
  · exact exec_enrol_refused htakes (by simp [State.checkEnrol, hrecord])
  · exact exec_enrol_refused htakes (by simp [State.checkEnrol, hrecord, hthere])
  · have hsome : s.stations.any r.overlaps = true := by simpa using hoverlap
    exact exec_enrol_refused htakes (by simp [State.checkEnrol, hrecord, hfresh, hsome])
  · have hnone : s.stations.any r.overlaps = false := by simpa using hapart
    have hlength : Config.maxStations ≤ s.stations.length := hfull
    exact exec_enrol_refused htakes (by simp [State.checkEnrol, hrecord, hfresh, hnone, hlength])
  · intro r hr
    unfold Order.enrolRecord? at hr
    split at hr
    · cases hr
    next lane hlane =>
      dsimp only at hr
      split at hr
      · cases hr
        have hcode : leNat o.body 7 1 = (byteAt o.body 7).toNat := rfl
        rw [laneOf_eq] at hlane
        refine ⟨rfl, rfl, rfl, rfl, rfl, rfl, rfl, ?_, rfl, rfl, rfl, rfl, rfl, rfl, rfl⟩
        rw [hcode]
        split at hlane
        next hzero => rw [if_pos hzero]; exact (Option.some.inj hlane).symm
        next hzero =>
          rw [if_neg hzero]
          split at hlane <;> [exact (Option.some.inj hlane).symm; cases hlane]
      · cases hr
  · simp only [StationRecord.overlaps, Bool.and_eq_true, decide_eq_true_eq]
    constructor
    · rintro ⟨hleft, hright⟩
      exact ⟨max r.firstSlot q.firstSlot, by omega⟩
    · rintro ⟨slot, hslot⟩
      omega

end Sys2Proof.Machine

/-! RETIRE, and the holds of RETIRE and SHAPE (R8, R63, R139 to R141). -/

namespace Sys2Proof.Machine

section
variable {s : State} {o : Order} {r : StationRecord}

theorem State.answer_finished (hcompletion : s.oru.completion = []) (outcome : OrderOutcome) :
    (s.popOrder.answer o outcome).oru = (s.finished o outcome 0 (.values [])).oru := by
  rw [State.answer, State.completeHand_finished hcompletion]

theorem exec_retire_refused {outcome : OrderOutcome} (h : s.Takes o .retire) (hrefuse : s.refuseRetire o = some outcome) :
    exec .retire s = .next (s.finished o outcome 0 (.values [])).settle := by
  change execRetire s = _
  simp only [execRetire, State.takes_of_Takes h, hrefuse, State.finishOrder_of_Takes h]

theorem exec_retire_taken (h : s.Takes o .retire) (hfirst : 1 ≤ o.station) (hlast : o.station ≤ 125)
    (hr : s.station? o.station = some r) : exec .retire s = .next (s.popOrder.holdOrApply o).settle := by
  have hnone : s.refuseRetire o = none := by simp [State.refuseRetire, Order.stationInRange_of hfirst hlast, hr]
  change execRetire s = _
  simp only [execRetire, State.takes_of_Takes h, hnone]
  rfl

theorem exec_shape_refused {outcome : OrderOutcome} (h : s.Takes o .shape) (hrefuse : s.refuseShape o = some outcome) :
    exec .shape s = .next (s.finished o outcome 0 (.values [])).settle := by
  change execShape s = _
  simp only [execShape, State.takes_of_Takes h, hrefuse, State.finishOrder_of_Takes h]

theorem exec_shape_taken (h : s.Takes o .shape) (hrefuse : s.refuseShape o = none) :
    exec .shape s = .next (s.popOrder.holdOrApply o).settle := by
  change execShape s = _
  simp only [execShape, State.takes_of_Takes h, hrefuse]
  rfl

theorem exec_holdSatisfied (hhand : s.oru.hand = .holdWait o) (hsat : s.holdSatisfied o.station = true) :
    exec .holdSatisfied s = .next (s.applyHeld o).settle := by
  change execHoldSatisfied s = _
  simp only [execHoldSatisfied, hhand, hsat, if_true]
  rfl

theorem Order.stationInRange_eq_false (h : ¬ (1 ≤ o.station ∧ o.station ≤ 125)) : o.stationInRange = false := by
  rw [Bool.eq_false_iff, Order.stationInRange, ne_eq, within_eq_true_iff]
  exact h

/-- A SHAPE of channels within the station's window is not refused (R140). -/
theorem State.refuseShape_eq_none (hr : s.station? o.station = some r) (hfirst : 1 ≤ o.station) (hlast : o.station ≤ 125)
    (hchannel : o.first ≤ 31) (hconversion : o.conversion?.isSome) (hfits : o.first + o.repeats < r.slotCount) :
    s.refuseShape o = none := by
  have hrange : o.firstInRange = true := by simpa [Order.firstInRange, within] using hchannel
  simp [State.refuseShape, Order.stationInRange_of hfirst hlast, hrange, hconversion, hr, hfits]

/-- A station that orders or an exchange address is not yet free of them (R141). -/
theorem State.holdSatisfied_eq_false {a : Nat}
    (h : (∃ e ∈ s.oru.busQueue, e.order.station = a) ∨ ∃ x, s.exu.exchange = some x ∧ x.address = a) :
    s.holdSatisfied a = false := by
  rcases h with ⟨e, he, ha⟩ | ⟨x, hx, ha⟩
  · have hqueue : s.oru.busQueue.all (fun e => e.order.station ≠ a) = false := by
      rw [List.all_eq_false]
      exact ⟨e, he, by simp [ha]⟩
    simp only [State.holdSatisfied, hqueue, Bool.false_and]
  · simp [State.holdSatisfied, State.exchangeAddresses, hx, ha]

theorem State.holdStation_holdSatisfied (s : State) (a b : Nat) :
    (s.holdStation a).holdSatisfied b = s.holdSatisfied b := by
  simp only [State.holdSatisfied, State.exchangeAddresses, State.holdStation_oru, State.holdStation_exu]

theorem State.holdOrApply_of_waits (h : s.holdSatisfied o.station = false) :
    s.holdOrApply o = { s.holdStation o.station with oru.hand := .holdWait o } :=
  if_neg (by simp [State.holdStation_holdSatisfied, h])

theorem State.holdOrApply_of_satisfied (h : s.holdSatisfied o.station = true) :
    s.holdOrApply o = (s.holdStation o.station).applyHeld o :=
  if_pos (by rw [State.holdStation_holdSatisfied, h])

theorem State.applyHeld_of_retire (h : o.kind? = some .retire) :
    s.applyHeld o = (s.retireStation o.station).answer o .done := by
  simp only [State.applyHeld, h]

/-! ### A station retired (R139) -/

theorem State.retired_station? (s : State) (a : Nat) (r : StationRecord) (b : Nat) :
    (s.retired a r).station? b = if b = a then none else s.station? b := by
  split
  next hb =>
    subst hb
    refine List.find?_eq_none.2 fun q hq => ?_
    have hne := (List.mem_filter.1 hq).2
    simpa using hne
  next hb => exact find?_retired hb s.stations

theorem State.retired_point (s : State) (a : Nat) (r : StationRecord) {slot : Nat} (hslot : slot < 384) :
    (s.retired a r).point slot =
      if r.firstSlot ≤ slot ∧ slot < r.firstSlot + r.slotCount then Point.default else s.point slot :=
  updateWindow_at _ _ _ _ _ hslot

theorem State.retired_swe (s : State) (a : Nat) (r : StationRecord) :
    (s.retired a r).swe =
      { s.swe with
        active := s.swe.active.filter (fun b => b ≠ a)
        pendingList := s.swe.pendingList.filter (fun b => b ≠ a)
        cursor :=
          if s.swe.state = .sweeping then
            s.swe.cursor - ((s.swe.active.take s.swe.cursor).filter (fun b => b = a)).length
          else s.swe.cursor } := by
  simp only [State.retired, State.sweeping, decide_eq_true_eq]
  rfl

/-- A station retired with the cursor at its entry has the walk go on from there (R63). -/
theorem State.retireStation_of_found {a : Nat} (h : s.station? a = some r) :
    s.retireStation a =
      if s.swe.state = .sweeping ∧ s.swe.active[s.swe.cursor]? = some a then (s.retired a r).walk else s.retired a r := by
  rw [State.retireStation_eq h]
  simp only [State.sweeping, State.cursorNames, Bool.and_eq_true, decide_eq_true_eq]

/-- A station held keeps its record but for the hold, and every other station is as it was (R8). -/
theorem State.holdStation_station? (s : State) (a b : Nat) :
    (s.holdStation a).station? b =
      (s.station? b).map (fun q => if q.address = a then { q with held := true } else q) := by
  rw [State.station?, State.holdStation_stations]
  exact find?_map_update a b (fun q => { q with held := true }) (fun _ h => h) s.stations

theorem State.holdStation_self (hr : s.station? o.station = some r) :
    (s.holdStation o.station).station? o.station = some { r with held := true } := by
  rw [State.holdStation_station?, hr, Option.map_some, if_pos (State.station?_address hr)]

theorem State.holdStation_other (s : State) {a b : Nat} (hb : b ≠ a) : (s.holdStation a).station? b = s.station? b := by
  rw [State.holdStation_station?]
  cases hq : s.station? b with
  | none => rfl
  | some q => rw [Option.map_some, if_neg (by rwa [State.station?_address hq])]

/-- A station retired beside the cursor, or with an entry to poll behind it, leaves the walk where it is (R58, R63). -/
theorem State.retireStation_of_rests {a : Nat} (h : s.station? a = some r)
    (hrests : s.swe.state ≠ .sweeping ∨ s.swe.active[s.swe.cursor]? ≠ some a ∨
      ∃ b, (s.swe.active.filter (fun c => c ≠ a))[
          s.swe.cursor - ((s.swe.active.take s.swe.cursor).filter (fun c => c = a)).length]? = some b ∧
        b ≠ a ∧ s.skips b = false) : s.retireStation a = s.retired a r := by
  rw [State.retireStation_of_found h]
  split
  next hcursor =>
    obtain ⟨hsweeping, hnames⟩ := hcursor
    rcases hrests with hstate | hname | ⟨b, hb, hne, hskips⟩
    · exact absurd hsweeping hstate
    · exact absurd hnames hname
    · refine State.walk_of_polled _ b ?_ ?_
      · rw [State.retired_swe]
        dsimp only
        rwa [if_pos hsweeping]
      · rw [← hskips]
        unfold State.skips
        rw [State.retired_station?, if_neg hne]
        rfl
  next => rfl

theorem State.skips_eq_false {a : Nat} (hr : s.station? a = some r) (hheld : r.held = false)
    (hhealth : r.health = .unknown ∨ r.health = .online ∨ r.health = .suspect) : s.skips a = false := by
  rcases hhealth with h | h | h <;> simp [State.skips, hr, hheld, h]

end

/-- Settles O24: the station held, then retired at once or as its hold is satisfied, with the walk where the cursor was at
its entry. -/
theorem retireAndHolds : Obligations.RetireAndHolds := by
  refine ⟨fun s o r hr hfirst hlast hbusy => ?_, ?_, ?_, ?_,
    fun s o htakes => ⟨fun hrange => ?_, fun hfirst hlast hnone => ?_⟩⟩
  · intro waits held
    have hwaits : s.popOrder.holdOrApply o = { s.popOrder.holdStation o.station with oru.hand := .holdWait o } :=
      State.holdOrApply_of_waits (State.holdSatisfied_eq_false (s := s.popOrder) hbusy)
    have hall (u : State) (hu : s.popOrder.holdStation o.station = u) : waits u := by
      subst hu
      refine ⟨fun htakes => ?_, fun htakes hconversion hfits hchannel => ?_⟩
      · rw [exec_retire_taken htakes hfirst hlast hr, hwaits]
      · rw [exec_shape_taken htakes (State.refuseShape_eq_none hr hfirst hlast hchannel hconversion hfits), hwaits]
    exact ⟨fun hclaim => hall _ (if_neg hclaim), fun hclaim => hall _ (if_pos hclaim)⟩
  · intro s o r htakes hr hfirst hlast hqueue hexchange hclaim active cursor hcursor
    have hsat : s.holdSatisfied o.station = true := State.holdSatisfied_of hqueue hexchange
    let q : StationRecord := { r with held := true }
    let u : State := s.popOrder.updateStation o.station fun q => { q with held := true }
    have hhold : s.popOrder.holdStation o.station = u := s.popOrder.holdStation_unclaimed o.station hclaim
    have hfound : u.station? o.station = some q := hhold ▸ State.holdStation_self (s := s.popOrder) hr
    have hother (a : Nat) (ha : a ≠ o.station) : u.station? a = s.station? a := hhold ▸ s.popOrder.holdStation_other ha
    have hrests : u.retireStation o.station = u.retired o.station q := by
      refine State.retireStation_of_rests hfound (hcursor.imp_right (Or.imp_right ?_))
      rintro ⟨a, p, ha, hp, hheld, hhealth⟩
      have hne : a ≠ o.station := by simpa using (List.mem_filter.1 (List.mem_of_getElem? ha)).2
      exact ⟨a, ha, hne, State.skips_eq_false ((hother a hne).trans hp) hheld hhealth⟩
    obtain ⟨head, bulkWait, due, attention, heq⟩ :=
      ((u.retired o.station q).answer o .done).settle_eq
    have hexec := exec_retire_taken htakes hfirst hlast hr
    rw [State.holdOrApply_of_satisfied (s := s.popOrder) hsat, State.applyHeld_of_retire htakes.kind, hhold, hrests,
      heq] at hexec
    refine ⟨_, hexec, fun a => ?_, ?_, fun slot hslot => ?_, ?_, ?_⟩
    · refine (u.retired_station? o.station q a).trans ?_
      split
      · rfl
      next ha => exact hother a ha
    · exact u.retired_swe o.station q
    · exact u.retired_point o.station q hslot
    · exact State.answer_finished htakes.completion .done
    · and_intros <;> rfl
  · intro s o r hhand hkind hr hqueue hexchange hstate
    have hsat : s.holdSatisfied o.station = true := State.holdSatisfied_of hqueue hexchange
    obtain ⟨head, bulkWait, due, attention, heq⟩ := ((s.retired o.station r).answer o .done).settle_eq
    have hexec := exec_holdSatisfied hhand hsat
    rw [State.applyHeld_of_retire hkind, State.retireStation_of_rests hr (.inl hstate), heq] at hexec
    refine ⟨_, hexec, s.retired_station? o.station r, ?_, fun slot hslot => s.retired_point o.station r hslot, ?_⟩
    · refine (s.retired_swe o.station r).trans ?_
      rw [if_neg hstate]
    · and_intros <;> rfl
  · intro s o r hr hqueue hexchange removed applied held
    have hsat : s.holdSatisfied o.station = true := State.holdSatisfied_of hqueue hexchange
    have hremoved (u : State) (q : StationRecord) (hq : u.station? o.station = some q) (hfirst : q.firstSlot = r.firstSlot)
        (hcount : q.slotCount = r.slotCount) : removed u (u.retired o.station q) := by
      refine ⟨u.retired_station? o.station q, u.retired_swe o.station q, fun slot hslot => ?_, rfl, rfl, rfl, rfl, rfl,
        rfl, rfl, rfl, rfl⟩
      rw [← hfirst, ← hcount]
      exact u.retired_point o.station q hslot
    have happlied (c : Instr) (u : State) (q : StationRecord) (hq : u.station? o.station = some q)
        (hfirst : q.firstSlot = r.firstSlot) (hcount : q.slotCount = r.slotCount)
        (hexec : exec c s = .next ((u.retireStation o.station).answer o .done).settle) : applied c u := by
      refine ⟨_, hremoved u q hq hfirst hcount, ?_⟩
      rw [hexec, State.retireStation_of_found hq]
      rfl
    refine ⟨fun htakes hfirst hlast => ?_, fun hhand hkind => ?_⟩
    · have hexec : exec .retire s = .next (((s.popOrder.holdStation o.station).retireStation o.station).answer o .done).settle := by
        rw [exec_retire_taken htakes hfirst hlast hr, State.holdOrApply_of_satisfied (s := s.popOrder) hsat,
          State.applyHeld_of_retire htakes.kind]
      have hfound := State.holdStation_self (s := s.popOrder) hr
      rw [State.holdStation_eq] at hexec hfound
      refine ⟨fun hclaim => ?_, fun hclaim => ?_⟩
      · rw [if_neg (by exact hclaim)] at hexec hfound
        exact happlied _ held _ hfound rfl rfl hexec
      · rw [if_pos (by exact hclaim)] at hexec hfound
        exact happlied _ _ _ hfound rfl rfl hexec
    · refine happlied _ s r hr rfl rfl ?_
      rw [exec_holdSatisfied hhand hsat, State.applyHeld_of_retire hkind]
  · exact exec_retire_refused htakes (by simp [State.refuseRetire, Order.stationInRange_eq_false hrange])
  · exact exec_retire_refused htakes (by simp [State.refuseRetire, Order.stationInRange_of hfirst hlast, hnone])

end Sys2Proof.Machine

/-! SHAPE (R25, R140, R141). -/

namespace Sys2Proof.Machine

section
variable {s : State} {o : Order} {r : StationRecord} {c : Conversion}

theorem State.endSweep_popOrder (s : State) : s.popOrder.endSweep = s.endSweep.popOrder := by
  unfold State.endSweep
  dsimp only
  rw [apply_ite State.popOrder, apply_ite State.popOrder]
  rfl

/-- The walk reads nothing of the Order Unit. -/
theorem State.walk_popOrder (s : State) : s.popOrder.walk = s.walk.popOrder := by
  unfold State.walk
  dsimp only
  rw [apply_ite State.popOrder, ← State.endSweep_popOrder]
  rfl

theorem State.skipClaim_popOrder (s : State) : s.popOrder.skipClaim = s.skipClaim.popOrder :=
  State.walk_popOrder { s with swe.claim := none, swe.cursor := s.swe.cursor + 1, swe.skipped := s.swe.skipped + 1 }

theorem State.holdStation_popOrder (s : State) (a : Nat) : s.popOrder.holdStation a = (s.holdStation a).popOrder := by
  rw [State.holdStation_eq, State.holdStation_eq, apply_ite State.popOrder, ← State.skipClaim_popOrder]
  rfl

/-- The end of a sweep writes the Sweep Engine and Staging, and nothing else. -/
theorem State.walk_eq (s : State) : ∃ swe staging, s.walk = { s with swe := swe, rpu.staging := staging } := by
  unfold State.walk State.endSweep
  dsimp only
  (repeat' split) <;> exact ⟨_, _, rfl⟩

theorem State.answer_finished_of_oru {w : State} (horu : w.oru = s.oru) (hcompletion : s.oru.completion = [])
    (outcome : OrderOutcome) : (w.popOrder.answer o outcome).oru = (s.finished o outcome 0 (.values [])).oru := by
  rw [State.answer_finished (by rw [horu, hcompletion])]
  simp only [State.finished, horu]

/-- A SHAPE applied changes the points of its channels, and ends its station's hold (R25, R140). -/
theorem State.applyHeld_of_shape (hkind : o.kind? = some .shape) (hc : o.conversion? = some c) :
    s.applyHeld o = ((s.applyShape o c).clearHeld o.station).answer o .done := by
  simp only [State.applyHeld, hkind, hc]

theorem State.applyShape_eq (hr : s.station? o.station = some r) :
    s.applyShape o c =
      { s with points := updateWindow (Point.shape c) (r.firstSlot + o.first) (o.repeats + 1) s.points } := by
  simp only [State.applyShape, hr]

theorem State.applyShape_point (hr : s.station? o.station = some r) {slot : Nat} (hslot : slot < 384) :
    (s.applyShape o c).point slot =
      if r.firstSlot + o.first ≤ slot ∧ slot ≤ r.firstSlot + o.first + o.repeats then
        { conv := c, image := if (s.point slot).conv.mode = c.mode then (s.point slot).image else Image.default }
      else s.point slot := by
  rw [State.applyShape_eq hr]
  refine (updateWindow_at _ _ _ _ _ hslot).trans (if_congr ?_ rfl rfl)
  omega

/-- A hold that ends leaves the stations as they stood before it, but for the hold (R141). -/
theorem State.clearHeld_holdStation_stations (s : State) (a : Nat) :
    ((s.holdStation a).clearHeld a).stations = s.stations.map (fun q => if q.address = a then { q with held := false } else q) := by
  rw [State.clearHeld, State.updateStation, State.holdStation_stations]
  dsimp only
  rw [List.map_map]
  refine List.map_congr_left fun q _ => ?_
  by_cases hq : q.address = a <;> simp [hq]

theorem modeOf_eq (code : Nat) : modeOf code = [Mode.instant, .total, .flag][code]? := by
  match code with
  | 0 | 1 | 2 => rfl
  | code + 3 => simp [modeOf]

theorem shiftInRange_iff (shift : Byte) : shiftInRange shift = true ↔ -31 ≤ shift.toInt ∧ shift.toInt ≤ 15 := by
  simp only [shiftInRange, Bool.and_eq_true, decide_eq_true_eq]

/-- The settings of a SHAPE, by its mode and shift (R140). -/
theorem Order.conversion?_eq_some_iff {o : Order} {c : Conversion} :
    o.conversion? = some c ↔
      shiftInRange (byteAt o.body 4) = true ∧ [Mode.instant, .total, .flag][(byteAt o.body 0).toNat]? = some c.mode ∧
        c = { mode := c.mode, scale := leHalf o.body 2, shift := byteAt o.body 4, offset := leWord o.body 8
              jumpLimit := leWord o.body 12, notify := (byteAt o.body 1).getLsbD 0 } := by
  unfold Order.conversion?
  rw [modeOf_eq]
  split
  next hnone => simp [hnone]
  next mode hmode =>
    rw [hmode]
    by_cases hshift : shiftInRange (byteAt o.body 4) = true
    · rw [if_pos hshift]
      constructor
      · rintro ⟨⟩
        exact ⟨hshift, rfl, rfl⟩
      · rintro ⟨-, hmode', hc⟩
        rw [hc, Option.some.inj hmode']
    · rw [if_neg hshift]
      exact iff_of_false nofun fun h => hshift h.1

/-- The settings that a SHAPE carries, by its fields (R140). -/
theorem Order.conversion?_isSome_iff (o : Order) :
    o.conversion?.isSome ↔
      (byteAt o.body 0).toNat ≤ 2 ∧ -31 ≤ (byteAt o.body 4).toInt ∧ (byteAt o.body 4).toInt ≤ 15 := by
  have hmode : ([Mode.instant, .total, .flag][(byteAt o.body 0).toNat]?).isSome ↔ (byteAt o.body 0).toNat ≤ 2 := by
    simp [Nat.lt_succ_iff]
  rw [Option.isSome_iff_exists, ← shiftInRange_iff, ← hmode, Option.isSome_iff_exists]
  constructor
  · rintro ⟨c, hc⟩
    obtain ⟨hshift, hc, -⟩ := Order.conversion?_eq_some_iff.1 hc
    exact ⟨⟨_, hc⟩, hshift⟩
  · rintro ⟨⟨mode, hm⟩, hshift⟩
    exact ⟨_, Order.conversion?_eq_some_iff (c := ⟨mode, _, _, _, _, _⟩).2 ⟨hshift, hm, rfl⟩⟩

end

/-- Settles O25: the channels shaped at once or as the hold is satisfied, the refusals, and the fields of the settings. -/
theorem shapeIsApplied : Obligations.ShapeIsApplied := by
  refine ⟨fun s o r c htakes hr hfirst hlast hchannel hc hfits hqueue hexchange => ?_,
    fun s o r c hhand hkind hr hc hqueue hexchange => ?_, fun s o htakes => ?_, fun o c hc => ?_⟩
  · intro withdrawn
    have hsat : s.holdSatisfied o.station = true := State.holdSatisfied_of hqueue hexchange
    let w := s.holdStation o.station
    have hw : w.swe = withdrawn.swe ∧ w.rpu = withdrawn.rpu := by
      dsimp only [w, withdrawn]
      rw [State.holdStation_eq]
      split <;> exact ⟨rfl, rfl⟩
    have hstaging : w.rpu.staging = withdrawn.rpu.staging := by rw [hw.2]
    have hevents : w.rpu.events = s.rpu.events := by
      dsimp only [w]
      rw [State.holdStation_eq]
      split
      · obtain ⟨swe, staging, hwalk⟩ := State.walk_eq _
        rw [State.skipClaim, hwalk]
        rfl
      · rfl
    have hfound : w.popOrder.station? o.station = some { r with held := true } := State.holdStation_self hr
    have hpoint (slot : Nat) : w.popOrder.point slot = s.point slot :=
      congrArg (fun points => pointAt points slot) (s.holdStation_points o.station)
    have hexec := exec_shape_taken htakes (State.refuseShape_eq_none hr hfirst hlast hchannel (by rw [hc]; rfl) hfits)
    obtain ⟨head, bulkWait, due, attention, heq⟩ :=
      (((w.popOrder.applyShape o c).clearHeld o.station).answer o .done).settle_eq
    rw [State.holdOrApply_of_satisfied (s := s.popOrder) hsat, State.applyHeld_of_shape htakes.kind hc,
      State.holdStation_popOrder, heq, State.applyShape_eq hfound] at hexec
    refine ⟨_, hexec, fun slot hslot => ?_, s.clearHeld_holdStation_stations o.station, ?_, s.holdStation_ctl _,
      s.holdStation_xpt _, hw.1, s.holdStation_exu _, s.holdStation_lanes _, s.holdStation_bar _, s.holdStation_msu _,
      hstaging, hevents, s.holdStation_pending _⟩
    · rw [← hpoint]
      have hshaped := State.applyShape_point (c := c) hfound hslot
      rw [State.applyShape_eq hfound] at hshaped
      exact hshaped
    · exact State.answer_finished_of_oru (s.holdStation_oru o.station) htakes.completion .done
  · have hsat : s.holdSatisfied o.station = true := State.holdSatisfied_of hqueue hexchange
    have hexec := exec_holdSatisfied hhand hsat
    obtain ⟨head, bulkWait, due, attention, heq⟩ := (((s.applyShape o c).clearHeld o.station).answer o .done).settle_eq
    rw [State.applyHeld_of_shape hkind hc, heq, State.applyShape_eq hr] at hexec
    refine ⟨_, hexec, fun slot hslot => ?_, ?_⟩
    · have hshaped := State.applyShape_point (c := c) hr hslot
      rw [State.applyShape_eq hr] at hshaped
      exact hshaped
    · and_intros <;> rfl
  · intro inRange ends
    have hconversion := o.conversion?_isSome_iff
    have hin : (o.stationInRange && o.firstInRange && o.conversion?.isSome) = true ↔ inRange := by
      simp only [Bool.and_eq_true, hconversion, Order.stationInRange, Order.firstInRange, within_eq_true_iff, Nat.zero_le,
        true_and, and_assoc, inRange, Config.maxStationAddress]
    refine ⟨hconversion, fun hrange => ?_, fun hrange hnone => ?_, fun hrange r hr hfits => ?_⟩
    · exact exec_shape_refused htakes (by rw [State.refuseShape, Bool.eq_false_iff.2 (mt hin.1 hrange)]; rfl)
    · exact exec_shape_refused htakes (by simp only [State.refuseShape, hin.2 hrange, hnone]; rfl)
    · exact exec_shape_refused htakes (by simp only [State.refuseShape, hin.2 hrange, hr, Nat.not_lt.2 hfits]; rfl)
  · obtain ⟨-, hmode, hfields⟩ := Order.conversion?_eq_some_iff.1 hc
    have hnotify : c.notify = (byteAt o.body 1).getLsbD 0 := congrArg Conversion.notify hfields
    have hbyte : leNat o.body 1 1 = (byteAt o.body 1).toNat := rfl
    refine ⟨hmode, ?_, ?_, congrArg Conversion.shift hfields, ?_, ?_⟩
    · rw [hnotify, hbyte, BitVec.getLsbD, Nat.testBit_zero, decide_eq_true_eq]
    · exact (congrArg (fun c => c.scale.toNat) hfields).trans ((BitVec.toNat_ofNat _ _).trans (Nat.mod_eq_of_lt (leNat_lt _ 2 2)))
    · exact (congrArg (fun c => c.offset.toNat) hfields).trans (leWord_toNat _ _)
    · exact (congrArg (fun c => c.jumpLimit.toNat) hfields).trans (leWord_toNat _ _)

end Sys2Proof.Machine

/-! SCAN orders, the orders that poll stations, and the orders that read images (R56, R142 to R147, R151, R152). -/

namespace Sys2Proof.Machine

section
variable {s : State} {o : Order} {r : StationRecord} {outcome : OrderOutcome}

theorem State.answer_eq_finished (hcompletion : s.oru.completion = []) :
    s.popOrder.answer o outcome = s.finished o outcome 0 (.values []) :=
  State.completeHand_finished hcompletion outcome 0 (.values [])

theorem exec_read_refused (h : s.Takes o .read) (hrefuse : s.refuseRead o = some outcome) :
    exec .read s = .next (s.finished o outcome 0 (.values [])).settle := by
  change execRead s = _
  simp only [execRead, State.takes_of_Takes h, hrefuse, State.finishOrder_of_Takes h]

theorem exec_read_taken (h : s.Takes o .read) (hrefuse : s.refuseRead o = none) :
    exec .read s = .next (s.popOrder.joinQueue o).settle := by
  change execRead s = _
  simp only [execRead, State.takes_of_Takes h, hrefuse]
  rfl

theorem exec_write_refused (h : s.Takes o .write) (hrefuse : s.refuseWrite o = some outcome) :
    exec .write s = .next (s.finished o outcome 0 (.values [])).settle := by
  change execWrite s = _
  simp only [execWrite, State.takes_of_Takes h, hrefuse, State.finishOrder_of_Takes h]

theorem exec_write_taken (h : s.Takes o .write) (hrefuse : s.refuseWrite o = none) :
    exec .write s = .next (s.popOrder.joinQueue o).settle := by
  change execWrite s = _
  simp only [execWrite, State.takes_of_Takes h, hrefuse]
  rfl

theorem exec_latch_refused (h : s.Takes o .latch) (hrefuse : s.refuseLatch o = some outcome) :
    exec .latch s = .next (s.finished o outcome 0 (.values [])).settle := by
  change execLatch s = _
  simp only [execLatch, State.takes_of_Takes h, hrefuse, State.finishOrder_of_Takes h]

theorem exec_latch_taken (h : s.Takes o .latch) (hrefuse : s.refuseLatch o = none) :
    exec .latch s = .next (s.popOrder.joinQueue o).settle := by
  change execLatch s = _
  simp only [execLatch, State.takes_of_Takes h, hrefuse]
  rfl

end

/-- Settles O27: each SCAN order completes as it is taken. -/
theorem scanBeginAndCommit : Obligations.ScanBeginAndCommit := by
  refine ⟨fun s o htakes => ?_, fun s o htakes => ⟨fun hrests => ?_, fun hsweeping => ?_⟩⟩
  · rw [← State.answer_eq_finished (by exact htakes.completion)]
    change execScanBegin s = _
    simp only [execScanBegin, State.takes_of_Takes htakes]
    rfl
  · rw [← State.answer_eq_finished (by exact htakes.completion)]
    change execScanCommit s = _
    simp only [execScanCommit, State.takes_of_Takes htakes, State.sweeping, decide_eq_true_eq, if_neg hrests]
    rfl
  · rw [← State.answer_eq_finished (by exact htakes.completion)]
    change execScanCommit s = _
    simp only [execScanCommit, State.takes_of_Takes htakes, State.sweeping, decide_eq_true_eq, if_pos hsweeping]
    rfl

/-! ### READ, WRITE and LATCH (R144 to R147) -/

section
variable {s : State} {o : Order} {r : StationRecord}

theorem Order.orderInRange_iff (o : Order) (n : Nat) :
    (o.stationInRange && o.firstInRange && within 1 n o.count) = true ↔
      1 ≤ o.station ∧ o.station ≤ 125 ∧ o.first ≤ 31 ∧ 1 ≤ o.count ∧ o.count ≤ n := by
  simp only [Bool.and_eq_true, Order.stationInRange, Order.firstInRange, within_eq_true_iff, Nat.zero_le, true_and,
    and_assoc, Config.maxStationAddress]

theorem Order.fitsWindow_iff : o.fitsWindow r = true ↔ o.first + o.count ≤ r.slotCount := by simp [Order.fitsWindow]

/-- A point that a WRITE names accumulates totals, and so may not be written (R145). -/
theorem State.namesTotal_iff :
    (s.namedPoints o r).any (fun p => p.conv.mode = .total) = true ↔
      ∃ i, i < o.count ∧ (s.point (r.firstSlot + o.first + i)).conv.mode = .total := by
  simp only [State.namedPoints, List.any_map, List.any_eq_true, List.mem_range'_1, Function.comp_apply, decide_eq_true_eq]
  constructor
  · rintro ⟨slot, ⟨hfirst, hlast⟩, hmode⟩
    exact ⟨slot - (r.firstSlot + o.first), by omega, by rwa [Nat.add_sub_cancel' hfirst]⟩
  · rintro ⟨i, hi, hmode⟩
    exact ⟨_, ⟨by omega, by omega⟩, hmode⟩

/-- READ by its tests, in their order. -/
theorem State.refuseRead_cases (s : State) (o : Order) :
    let inRange := 1 ≤ o.station ∧ o.station ≤ 125 ∧ o.first ≤ 31 ∧ 1 ≤ o.count ∧ o.count ≤ 8
    (¬ inRange → s.refuseRead o = some .badOrder) ∧
      (inRange → s.station? o.station = none → s.refuseRead o = some .notFound) ∧
      (inRange → ∀ r, s.station? o.station = some r →
        (r.health = .mismatch → s.refuseRead o = some .mismatch) ∧
        (r.health ≠ .mismatch → r.slotCount < o.first + o.count → s.refuseRead o = some .badOrder) ∧
        (r.health ≠ .mismatch → o.first + o.count ≤ r.slotCount →
          s.refuseRead o = if s.msu.role ≠ .active then some .notActive else none)) := by
  intro inRange
  have hin := o.orderInRange_iff 8
  refine ⟨fun hout => ?_, fun hrange hnone => ?_,
    fun hrange r hr => ⟨fun hmismatch => ?_, fun hhealth hout => ?_, fun hhealth hfits => ?_⟩⟩
  · rw [State.refuseRead, Bool.eq_false_iff.2 (mt hin.1 hout)]
    rfl
  · simp only [State.refuseRead, hin.2 hrange, hnone]
    rfl
  · simp only [State.refuseRead, hin.2 hrange, hr, hmismatch]
    rfl
  · have hno : o.fitsWindow r = false := Bool.eq_false_iff.2 (mt Order.fitsWindow_iff.1 (by omega))
    simp only [State.refuseRead, hin.2 hrange, hr, if_neg hhealth, hno]
    rfl
  · simp only [State.refuseRead, hin.2 hrange, hr, if_neg hhealth, Order.fitsWindow_iff.2 hfits]
    rfl

/-- WRITE by its tests, in their order. -/
theorem State.refuseWrite_cases (s : State) (o : Order) :
    let inRange := 1 ≤ o.station ∧ o.station ≤ 125 ∧ o.first ≤ 31 ∧ 1 ≤ o.count ∧ o.count ≤ 4
    (¬ inRange → s.refuseWrite o = some .badOrder) ∧
      (inRange → s.station? o.station = none → s.refuseWrite o = some .notFound) ∧
      (inRange → ∀ r, s.station? o.station = some r →
        let total := ∃ i, i < o.count ∧ (s.point (r.firstSlot + o.first + i)).conv.mode = .total
        (r.health = .mismatch → s.refuseWrite o = some .mismatch) ∧
        (r.health ≠ .mismatch → r.slotCount < o.first + o.count ∨ total → s.refuseWrite o = some .badOrder) ∧
        (r.health ≠ .mismatch → o.first + o.count ≤ r.slotCount → ¬ total →
          s.refuseWrite o = if s.msu.role ≠ .active then some .notActive else none)) := by
  intro inRange
  have hin := o.orderInRange_iff 4
  refine ⟨fun hout => ?_, fun hrange hnone => ?_,
    fun hrange r hr => ⟨fun hmismatch => ?_, fun hhealth hout => ?_, fun hhealth hfits htotal => ?_⟩⟩
  · rw [State.refuseWrite, Bool.eq_false_iff.2 (mt hin.1 hout)]
    rfl
  · simp only [State.refuseWrite, hin.2 hrange, hnone]
    rfl
  · simp only [State.refuseWrite, hin.2 hrange, hr, hmismatch]
    rfl
  · have hno : (!o.fitsWindow r || (s.namedPoints o r).any (fun p => p.conv.mode = .total)) = true := by
      rw [Bool.or_eq_true, Bool.not_eq_true', ← Bool.not_eq_true, Order.fitsWindow_iff, Nat.not_le, State.namesTotal_iff]
      exact hout
    simp only [State.refuseWrite, hin.2 hrange, hr, if_neg hhealth, hno]
    rfl
  · have hno : (s.namedPoints o r).any (fun p => p.conv.mode = .total) = false :=
      Bool.eq_false_iff.2 (mt State.namesTotal_iff.1 htotal)
    simp only [State.refuseWrite, hin.2 hrange, hr, if_neg hhealth, Order.fitsWindow_iff.2 hfits, hno]
    rfl

/-- LATCH by its tests, in their order; address 126 is every station. -/
theorem State.refuseLatch_cases (s : State) (o : Order) :
    (o.station = 0 ∨ 126 < o.station → s.refuseLatch o = some .badOrder) ∧
      (o.station = 126 → s.refuseLatch o = if s.msu.role ≠ .active then some .notActive else none) ∧
      (1 ≤ o.station → o.station ≤ 125 → s.station? o.station = none → s.refuseLatch o = some .notFound) ∧
      (1 ≤ o.station → o.station ≤ 125 → ∀ r, s.station? o.station = some r →
        (r.health = .mismatch → s.refuseLatch o = some .mismatch) ∧
        (r.health ≠ .mismatch → s.refuseLatch o = if s.msu.role ≠ .active then some .notActive else none)) := by
  have hrange : within 1 Config.allStations o.station = true ↔ 1 ≤ o.station ∧ o.station ≤ 126 := within_eq_true_iff _ _ _
  refine ⟨fun hout => ?_, fun hall => ?_, fun hfirst hlast hnone => ?_,
    fun hfirst hlast r hr => ⟨fun hmismatch => ?_, fun hhealth => ?_⟩⟩
  · rw [State.refuseLatch, Bool.eq_false_iff.2 (mt hrange.1 (by omega))]
    rfl
  · have hall' : o.station = Config.allStations := hall
    rw [State.refuseLatch, hrange.2 (by omega), if_pos hall']
    rfl
  · have hone : o.station ≠ Config.allStations := by simp only [Config.allStations]; omega
    simp only [State.refuseLatch, hrange.2 ⟨hfirst, by omega⟩, if_neg hone, hnone]
    rfl
  · have hone : o.station ≠ Config.allStations := by simp only [Config.allStations]; omega
    simp only [State.refuseLatch, hrange.2 ⟨hfirst, by omega⟩, if_neg hone, hr, hmismatch]
    rfl
  · have hone : o.station ≠ Config.allStations := by simp only [Config.allStations]; omega
    simp only [State.refuseLatch, hrange.2 ⟨hfirst, by omega⟩, if_neg hone, hr, if_neg hhealth]
    rfl

end

/-- Settles O28: what is not refused joins the queue, or waits for a place in it. -/
theorem busOrdersAreValidatedAndQueued : Obligations.BusOrdersAreValidatedAndQueued := by
  refine ⟨fun s o r hrole hr hhealth hfirst hlast => ?_, fun s o htakes => ?_, fun s o htakes hall hrole => ?_,
    fun s o htakes => ?_, fun s o htakes => ?_⟩
  · intro entry t fits
    obtain ⟨-, -, hread⟩ := s.refuseRead_cases o
    obtain ⟨-, -, hwrite⟩ := s.refuseWrite_cases o
    obtain ⟨-, -, -, hlatch⟩ := s.refuseLatch_cases o
    have hactive : (if s.msu.role ≠ .active then some OrderOutcome.notActive else none) = none :=
      if_neg (not_not.2 hrole)
    refine ⟨fun htakes hfits hcount => ?_, fun htakes hfits hcount hmodes => ?_, fun htakes => ?_⟩
    · obtain ⟨hchannel, hone, hwindow⟩ := hfits
      obtain ⟨-, -, hgood⟩ := hread ⟨hfirst, hlast, hchannel, hone, hcount⟩ r hr
      exact exec_read_taken htakes ((hgood hhealth hwindow).trans hactive)
    · obtain ⟨hchannel, hone, hwindow⟩ := hfits
      obtain ⟨-, -, hgood⟩ := hwrite ⟨hfirst, hlast, hchannel, hone, hcount⟩ r hr
      refine exec_write_taken htakes ((hgood hhealth hwindow ?_).trans hactive)
      rintro ⟨i, hi, htotal⟩
      exact hmodes i hi htotal
    · obtain ⟨-, hgood⟩ := hlatch hfirst hlast r hr
      exact exec_latch_taken htakes ((hgood hhealth).trans hactive)
  · obtain ⟨hout, hnone, hfound⟩ := s.refuseRead_cases o
    intro inRange ends
    refine ⟨fun h => exec_read_refused htakes (hout h), fun h hn => exec_read_refused htakes (hnone h hn),
      fun h r hr => ?_⟩
    obtain ⟨hmismatch, hbad, hgood⟩ := hfound h r hr
    exact ⟨fun hm => exec_read_refused htakes (hmismatch hm), fun hm hb => exec_read_refused htakes (hbad hm hb),
      fun hm hfits hrole => exec_read_refused htakes ((hgood hm hfits).trans (if_pos hrole))⟩
  · intro entry t
    obtain ⟨-, hlatch, -⟩ := s.refuseLatch_cases o
    exact exec_latch_taken htakes ((hlatch hall).trans (if_neg (not_not.2 hrole)))
  · obtain ⟨hout, hnone, hfound⟩ := s.refuseWrite_cases o
    intro inRange ends
    refine ⟨fun h => exec_write_refused htakes (hout h), fun h hn => exec_write_refused htakes (hnone h hn),
      fun h r hr => ?_⟩
    obtain ⟨hmismatch, hbad, hgood⟩ := hfound h r hr
    exact ⟨fun hm => exec_write_refused htakes (hmismatch hm), fun hm hb => exec_write_refused htakes (hbad hm hb),
      fun hm hfits htotal hrole => exec_write_refused htakes ((hgood hm hfits htotal).trans (if_pos hrole))⟩
  · obtain ⟨hout, hall, hnone, hfound⟩ := s.refuseLatch_cases o
    intro ends
    refine ⟨fun h => exec_latch_refused htakes (hout h),
      fun h hrole => exec_latch_refused htakes ((hall h).trans (if_pos hrole)),
      fun hfirst hlast hn => exec_latch_refused htakes (hnone hfirst hlast hn), fun hfirst hlast r hr => ?_⟩
    obtain ⟨hmismatch, hgood⟩ := hfound hfirst hlast r hr
    exact ⟨fun hm => exec_latch_refused htakes (hmismatch hm),
      fun hm hrole => exec_latch_refused htakes ((hgood hm).trans (if_pos hrole))⟩

/-! ### SNAP and TAKE_TOTALS (R148, R150) -/

section
variable {s : State} {o : Order} {r : StationRecord}

/-- The window that a SNAP or a TAKE_TOTALS names, by its tests, in their order. -/
theorem State.checkWindow_cases (s : State) (o : Order) :
    let inRange := 1 ≤ o.station ∧ o.station ≤ 125 ∧ o.first ≤ 31 ∧ 1 ≤ o.count ∧ o.count ≤ 32
    (¬ inRange → s.checkWindow o = .error .badOrder) ∧
      (inRange → s.station? o.station = none → s.checkWindow o = .error .notFound) ∧
      (inRange → ∀ r, s.station? o.station = some r →
        (r.slotCount < o.first + o.count → s.checkWindow o = .error .badOrder) ∧
        (o.first + o.count ≤ r.slotCount → s.checkWindow o = .ok r)) := by
  intro inRange
  have hin := o.orderInRange_iff 32
  refine ⟨fun hout => ?_, fun hrange hnone => ?_, fun hrange r hr => ⟨fun hout => ?_, fun hfits => ?_⟩⟩
  · rw [State.checkWindow, Bool.eq_false_iff.2 (mt hin.1 hout)]
    rfl
  · simp only [State.checkWindow, hin.2 hrange, hnone]
    rfl
  · have hno : o.fitsWindow r = false := Bool.eq_false_iff.2 (mt Order.fitsWindow_iff.1 (by omega))
    simp only [State.checkWindow, hin.2 hrange, hr, hno]
    rfl
  · simp only [State.checkWindow, hin.2 hrange, hr, Order.fitsWindow_iff.2 hfits]
    rfl

end

/-- Settles O29: the entries read from the points, and the totals taken from them. -/
theorem snapAndTakeTotals : Obligations.SnapAndTakeTotals := by
  refine ⟨fun s o r htakes hr hfirst hlast hchannel hone hcount hfits => ?_,
    fun s o r htakes hr hfirst hlast hchannel hone hcount hfits => ?_, fun s o c hc => ?_⟩
  · obtain ⟨-, -, hfound⟩ := s.checkWindow_cases o
    obtain ⟨-, hok⟩ := hfound ⟨hfirst, hlast, hchannel, hone, hcount⟩ r hr
    change execSnap s = _
    simp only [execSnap, State.takes_of_Takes htakes, hok hfits, State.completeHand_finished htakes.completion]
    rfl
  · obtain ⟨-, -, hfound⟩ := s.checkWindow_cases o
    obtain ⟨-, hok⟩ := hfound ⟨hfirst, hlast, hchannel, hone, hcount⟩ r hr
    let u : State := { s with points := updateWindow Point.takeTotal (r.firstSlot + o.first) o.count s.points }
    have hexec : exec .takeTotals s = .next (u.finished o .done 0 (.totals (s.totalEntries o r))).settle := by
      rw [← State.completeHand_finished (by exact htakes.completion)]
      change execTakeTotals s = _
      simp only [execTakeTotals, State.takes_of_Takes htakes, hok hfits]
      rfl
    obtain ⟨head, bulkWait, due, attention, heq⟩ := (u.finished o .done 0 (.totals (s.totalEntries o r))).settle_eq
    rw [heq] at hexec
    refine ⟨_, hexec, rfl, fun slot hslot => ?_, ?_⟩
    · refine (updateWindow_at Point.takeTotal _ _ s.points slot hslot).trans ?_
      change (if _ then (s.point slot).takeTotal else s.point slot) = _
      rw [Point.takeTotal, ← ite_and]
      exact if_congr and_assoc rfl rfl
    · and_intros <;> rfl
  · obtain ⟨hout, hnone, hfound⟩ := s.checkWindow_cases o
    intro inRange ends
    have hends {outcome : OrderOutcome} (h : s.checkWindow o = .error outcome) : ends outcome := by
      rcases hc with ⟨htakes, rfl⟩ | ⟨htakes, rfl⟩
      · change execSnap s = _
        simp only [execSnap, State.takes_of_Takes htakes, h, State.finishOrder_of_Takes htakes]
      · change execTakeTotals s = _
        simp only [execTakeTotals, State.takes_of_Takes htakes, h, State.finishOrder_of_Takes htakes]
    refine ⟨fun h => hends (hout h), fun h hn => hends (hnone h hn), fun h r hr hbad => ?_⟩
    obtain ⟨hbad', -⟩ := hfound h r hr
    exact hends (hbad' hbad)

end Sys2Proof.Machine

/-! The roles: CLAIM, YIELD, takeover and wind-down (R113 to R126, R154). -/

namespace Sys2Proof.Machine

/-! ### Entry to ACTIVE (R113, R125) -/

section
variable {s : State} {o : Order} {reason : RoleReason}

/-- A result staged takes the last place of Staging, and sets the event it carries (R176). -/
theorem State.stage_eq (s : State) (r : Result) :
    ∃ changed holdTimer,
      s.stage r =
        { s with
          rpu.staging := s.rpu.staging ++ [r], rpu.events := (r.event?.map s.rpu.events.with).getD s.rpu.events
          rpu.changed := changed, rpu.holdTimer := holdTimer } := by
  unfold State.stage
  cases r.event? with
  | none => exact ⟨_, _, rfl⟩
  | some e => exact State.setEvent_eq e { s with rpu.staging := s.rpu.staging ++ [r] }

/-- The role change that entry to ACTIVE stages or leaves due. -/
def State.activeChange (s : State) (reason : RoleReason) : RoleChange :=
  { role := .active, previous := .listen, reason := reason, shift := s.msu.shift, foreignTag := none }

/-- Entry to ACTIVE before its result is staged (R113). -/
def State.activeEntered (s : State) : State :=
  { s with
    swe.state := .idle, swe.startDue := true
    msu.role := .active, msu.takeoverTimer := false, msu.markTimer := true, exu.overheard := none }

/-- The result of entry to ACTIVE is staged at once where no earlier one is due and a place is free. -/
theorem State.enterActive_of_room (hdue : s.msu.roleDue = []) (hroom : s.rpu.staging.length + s.bar.reserved < 6) :
    ∃ changed holdTimer,
      s.enterActive reason =
        { s.activeEntered with
          rpu.staging := s.rpu.staging ++ [.role ((s.activeChange reason).result s.msu.contestCount)]
          rpu.events := s.rpu.events.with .role, rpu.changed := changed, rpu.holdTimer := holdTimer } := by
  obtain ⟨changed, holdTimer, hstage⟩ :=
    s.activeEntered.stage_eq (.role ((s.activeChange reason).result s.msu.contestCount))
  exact ⟨changed, holdTimer, (if_pos ⟨s.freePlaces_pos_iff.2 hroom, hdue⟩).trans hstage⟩

theorem State.enterActive_of_due (h : s.msu.roleDue ≠ [] ∨ 6 ≤ s.rpu.staging.length + s.bar.reserved) :
    s.enterActive reason =
      { s.activeEntered with msu.roleDue := s.msu.roleDue ++ [s.activeChange reason] } := by
  refine if_neg ?_
  rintro ⟨hroom, hdue⟩
  rcases h with h | h
  · exact h hdue
  · exact absurd (s.freePlaces_pos_iff.1 hroom) (by omega)

theorem State.carryOutClaim_of_room (hdue : s.msu.roleDue = []) (hroom : s.rpu.staging.length + s.bar.reserved < 6) :
    s.carryOutClaim o = (State.enterActive .claimed { s with msu.shift := 0 }).answer o .done := by
  obtain ⟨changed, holdTimer, henter⟩ :=
    State.enterActive_of_room (s := { s with msu.shift := 0 }) (reason := .claimed) hdue hroom
  refine if_pos ?_
  rw [henter]
  exact hdue

theorem State.carryOutClaim_of_due (h : s.msu.roleDue ≠ [] ∨ 6 ≤ s.rpu.staging.length + s.bar.reserved) :
    s.carryOutClaim o = { State.enterActive .claimed { s with msu.shift := 0 } with oru.hand := .claimStaging o } := by
  refine if_neg ?_
  rw [State.enterActive_of_due (s := { s with msu.shift := 0 }) h]
  simp

end

/-- Settles O30: CLAIM and YIELD by the role they find. -/
theorem claimAndYield : Obligations.ClaimAndYield := by
  refine ⟨fun s o htakes hbody => ?_, fun s o htakes hbody => ?_⟩
  · have htaken : s.takesRole .claim = some o := State.takesRole_of htakes (if_pos hbody)
    have hclaim (hrole : s.msu.role = .listen) (hwound : s.msu.windDown = none) :
        exec .claim s = .next (s.popOrder.carryOutClaim o).settle := by
      have hrole' : s.popOrder.msu.role = .listen := hrole
      have hwound' : s.popOrder.msu.windDown.isSome = false := by rw [State.popOrder, hwound]; rfl
      change execClaim s = _
      simp only [execClaim, htaken, hrole', hwound']
      rfl
    refine ⟨fun hrole => ?_, fun hrole hwound => ?_, fun hrole hwound hdue hroom => ?_, fun hrole hwound hlate => ?_⟩
    · have hrole' : s.popOrder.msu.role = .active := hrole
      rw [← State.answer_eq_finished (by exact htakes.completion)]
      change execClaim s = _
      simp only [execClaim, htaken, hrole']
      rw [hrole]
      rfl
    · have hrole' : s.popOrder.msu.role = .listen := hrole
      change execClaim s = _
      simp only [execClaim, htaken, hrole']
      exact if_pos hwound
    · have hexec := hclaim hrole hwound
      obtain ⟨changed, holdTimer, henter⟩ :=
        State.enterActive_of_room (s := { s.popOrder with msu.shift := 0 }) (reason := .claimed) hdue hroom
      obtain ⟨head, bulkWait, due, attention, heq⟩ := (s.popOrder.carryOutClaim o).settle_eq
      rw [heq, State.carryOutClaim_of_room (s := s.popOrder) hdue hroom, henter] at hexec
      exact ⟨_, hexec, rfl, rfl, rfl, rfl, rfl, State.answer_finished htakes.completion .done, rfl, rfl, rfl, rfl, rfl,
        rfl, rfl⟩
    · have hexec := hclaim hrole hwound
      obtain ⟨head, bulkWait, due, attention, heq⟩ := (s.popOrder.carryOutClaim o).settle_eq
      rw [heq, State.carryOutClaim_of_due (s := s.popOrder) hlate,
        State.enterActive_of_due (s := { s.popOrder with msu.shift := 0 }) hlate] at hexec
      exact ⟨_, hexec, by and_intros <;> rfl⟩
  · have htaken : s.takesRole .yield = some o :=
      State.takesRole_of htakes (by simp [Order.roleRequest, hbody])
    refine ⟨fun hrole => ?_, fun hrole => ?_⟩
    · have hrole' : s.popOrder.msu.role = .active := hrole
      have hhosting : s.hosting = true := s.hosting_of_Hosting (.inl htakes.running)
      let w : State := { s.popOrder with oru.hand := .yieldStaging o }
      let u := w.roleLeft .yielded none
      have hexec : exec .yield s = .next (u.endClosedEntries .notActive).settle := by
        have hleft := State.leaveActive_of_running (s := w) .yielded none htakes.running
        have hhand : ∀ p, u.oru.hand ∉ [.queueWait p, .markerWait p] := fun p => by
          rw [(w.roleLeft_leftTo .yielded none).oru]
          simp [w]
        rw [u.endNotActive_of_stays hhand] at hleft
        rw [← hleft]
        change execYield s = _
        simp only [execYield, htaken, hrole']
        rfl
      have hleft : w.LeftTo u .yielded none := w.roleLeft_leftTo .yielded none
      obtain ⟨head, bulkWait, due, attention, heq⟩ := (u.endClosedEntries .notActive).settle_eq
      rw [heq] at hexec
      refine ⟨_, hexec, ?_⟩
      simp only [State.endClosedEntries, hleft.msu, hleft.exu, hleft.stopped, hleft.ctl, hleft.xpt, hleft.stations,
        hleft.points, hleft.lanes,
        hleft.bar, hleft.oru, hleft.pending]
      refine ⟨trivial, rfl, trivial, trivial, rfl, if_pos hhosting, rfl, rfl, rfl, rfl, ?_, rfl, trivial,
        hleft.sweepCount,
        rfl, rfl, rfl, rfl, rfl, rfl, rfl⟩
      exact congrArg (· ++ _) htakes.completion
    · have hrole' : s.popOrder.msu.role = .listen := hrole
      rw [← State.answer_eq_finished htakes.completion]
      change execYield s = _
      simp only [execYield, htaken, hrole']
      rfl

end Sys2Proof.Machine

/-! Takeover, and the results of role changes (R113, R121, R122, R125, R126). -/

namespace Sys2Proof.Machine

section
variable {s : State} {c : RoleChange} {rest : List RoleChange}

theorem State.windDownReady_iff :
    s.windDownReady = true ↔
      s.exu.exchange = none ∧ s.oru.busQueue = [] ∧ (∀ e ∈ s.oru.completion, e.fromHand = true) ∧
        s.msu.windDown ≠ some { awaitHand := true } ∧ s.swe.abandoning = false := by
  have hwound : s.msu.windDown.any (fun w => w.awaitHand) = true ↔ s.msu.windDown = some { awaitHand := true } := by
    cases s.msu.windDown with
    | none => simp
    | some w => cases w; simp
  simp only [State.windDownReady, Bool.and_eq_true, Option.isNone_iff_eq_none, List.isEmpty_iff, List.all_eq_true,
    Bool.not_eq_true', ← Bool.not_eq_true, hwound, and_assoc, ne_eq]

/-- A wind-down that ends in a drain, or out of LISTEN, starts no takeover (R121, R122). -/
theorem State.endWindDown_of_rests (h : s.ctl.exchangeState ≠ .running ∨ s.msu.role ≠ .listen) :
    s.endWindDown = { s with msu.windDown := none } := by
  refine if_neg ?_
  rcases h with h | h <;> simp [State.running, h]

theorem State.endWindDown_of_listen (hrunning : s.ctl.exchangeState = .running) (hrole : s.msu.role = .listen)
    (hhand : ∀ o, s.oru.hand ≠ .claimDeferred o) :
    s.endWindDown = { s with msu.windDown := none, msu.takeoverTimer := true } := by
  refine (if_pos (by simp [State.running, hrunning, hrole])).trans ?_
  dsimp only
  split
  next o ho => exact absurd ho (hhand o)
  next => rfl

/-- A CLAIM that waited for the wind-down is carried out as it ends (R121, R154). -/
theorem State.endWindDown_of_claim {o : Order} (hrunning : s.ctl.exchangeState = .running) (hrole : s.msu.role = .listen)
    (hhand : s.oru.hand = .claimDeferred o) :
    s.endWindDown = ({ s with msu.windDown := none, msu.takeoverTimer := true } : State).carryOutClaim o := by
  refine (if_pos (by simp [State.running, hrunning, hrole])).trans ?_
  dsimp only
  rw [hhand]

/-- The result of a role change that is due has been staged, and the order that waited for it completes (R125, R154). -/
def State.roleTold (s : State) (c : RoleChange) (rest : List RoleChange) : State :=
  ({ s with msu.roleDue := rest }.stageRole c).roleStaged c.reason

theorem exec_roleResultStage_of_blocked (hdue : s.msu.roleDue = c :: rest)
    (h : 6 ≤ s.rpu.staging.length + s.bar.reserved ∨ (c.role ≠ .active ∧ s.windDownReady = false)) :
    exec .roleResultStage s = .next s := by
  change execRoleResultStage s = _
  simp only [execRoleResultStage, hdue]
  refine if_neg ?_
  rintro ⟨-, hroom, hstageable⟩
  rcases h with h | ⟨hrole, hnot⟩
  · exact absurd (s.freePlaces_pos_iff.1 hroom) (by omega)
  · simp [State.roleStageable, hrole, hnot] at hstageable

theorem exec_roleResultStage_of_room (hhosting : s.Hosting) (hdue : s.msu.roleDue = c :: rest)
    (hroom : s.rpu.staging.length + s.bar.reserved < 6) (hstageable : s.roleStageable c = true) :
    exec .roleResultStage s =
      .next (if c.role = .listen then (s.roleTold c rest).endWindDown else s.roleTold c rest).settle := by
  change execRoleResultStage s = _
  simp only [execRoleResultStage, hdue]
  exact if_pos ⟨s.hosting_of_Hosting hhosting, s.freePlaces_pos_iff.2 hroom, hstageable⟩

/-- A staged role change is the end of the order that waits for it, and of no other. -/
theorem State.roleStaged_eq (s : State) (reason : RoleReason) :
    s.roleStaged reason = { s with oru := (s.roleStaged reason).oru } := by
  unfold State.roleStaged
  split <;> rfl

theorem State.roleStaged_not_deferred (h : ∀ o, s.oru.hand ≠ .claimDeferred o) {reason : RoleReason} :
    ∀ o, (s.roleStaged reason).oru.hand ≠ .claimDeferred o := by
  unfold State.roleStaged
  split
  · exact fun _ => nofun
  · exact fun _ => nofun
  · exact h

theorem State.roleStaged_oru_congr {w : State} (hw : w.oru = s.oru) {reason : RoleReason} :
    (w.roleStaged reason).oru = (s.roleStaged reason).oru := by
  unfold State.roleStaged
  rw [hw]
  split <;> simp only [State.answer, State.completeHand, hw]

theorem State.roleTold_eq (s : State) (c : RoleChange) (rest : List RoleChange) :
    ∃ changed holdTimer,
      s.roleTold c rest =
        { s with
          msu.roleDue := rest, rpu.staging := s.rpu.staging ++ [.role (c.result s.msu.contestCount)]
          rpu.events := s.rpu.events.with .role, rpu.changed := changed, rpu.holdTimer := holdTimer
          oru := (s.roleStaged c.reason).oru } := by
  obtain ⟨changed, holdTimer, hstage⟩ := State.stage_eq { s with msu.roleDue := rest } (.role (c.result s.msu.contestCount))
  refine ⟨changed, holdTimer, ?_⟩
  change State.roleStaged c.reason (State.stage (.role (c.result s.msu.contestCount)) { s with msu.roleDue := rest }) = _
  rw [State.roleStaged_eq, State.roleStaged_oru_congr (s := s) (by simp), hstage]
  rfl

end

/-- Settles O43: entry to ACTIVE by the takeover timer, and each role change that is due, with the CLAIM it lets in. -/
theorem takeoverAndWindDown : Obligations.TakeoverAndWindDown := by
  refine ⟨fun s htimer hrunning hrole hwound => ?_, fun s c rest hhosting hdue => ?_⟩
  · have hexec : exec .takeoverTimerExpiry s = .next (s.enterActive .takeover).settle :=
      if_pos ⟨htimer, by simp [State.running, hrunning], hrole, hwound⟩
    obtain ⟨head, bulkWait, due, attention, heq⟩ := (s.enterActive .takeover).settle_eq
    by_cases hroom : s.msu.roleDue = [] ∧ s.rpu.staging.length + s.bar.reserved < 6
    · obtain ⟨changed, holdTimer, henter⟩ := State.enterActive_of_room (reason := .takeover) hroom.1 hroom.2
      rw [heq, henter] at hexec
      refine ⟨_, hexec, rfl, rfl, rfl, rfl, rfl, hwound, rfl, rfl, fun _ _ => ⟨rfl, rfl, hroom.1⟩, fun hlate => ?_, ?_⟩
      · rcases hlate with h | h
        · exact absurd hroom.1 h
        · exact absurd hroom.2 (by omega)
      · and_intros <;> rfl
    · have hlate : s.msu.roleDue ≠ [] ∨ 6 ≤ s.rpu.staging.length + s.bar.reserved := by
        rw [not_and_or, not_lt] at hroom
        exact hroom
      rw [heq, State.enterActive_of_due hlate] at hexec
      exact ⟨_, hexec, rfl, rfl, rfl, rfl, rfl, hwound, rfl, rfl, fun h hr => absurd ⟨h, hr⟩ hroom, fun _ => ⟨rfl, rfl⟩,
        by and_intros <;> rfl⟩
  · intro places woundDown staged behind released frame
    have hready : s.windDownReady = true ↔ woundDown := s.windDownReady_iff
    have hreleased : (s.roleStaged c.reason).oru = released := by
      dsimp only [released, behind]
      unfold State.roleStaged
      cases s.oru.hand <;> cases c.reason <;> rfl
    obtain ⟨changed, holdTimer, htold⟩ := s.roleTold_eq c rest
    rw [hreleased] at htold
    refine ⟨fun hblocked => ?_, fun hroom => ⟨fun hrole => ?_, fun hrole hwound => ?_⟩⟩
    · refine exec_roleResultStage_of_blocked hdue (hblocked.imp_right fun ⟨hrole, hnot⟩ => ⟨hrole, ?_⟩)
      exact Bool.eq_false_iff.2 (mt hready.1 hnot)
    · have hexec := exec_roleResultStage_of_room hhosting hdue hroom (by simp [State.roleStageable, hrole])
      obtain ⟨head, bulkWait, due, attention, heq⟩ := (s.roleTold c rest).settle_eq
      rw [if_neg (by rw [hrole]; nofun), heq, htold] at hexec
      exact ⟨_, hexec, by and_intros <;> rfl⟩
    · have hexec := exec_roleResultStage_of_room hhosting hdue hroom (by simp [State.roleStageable, hready.2 hwound])
      rw [if_pos hrole] at hexec
      obtain ⟨head, bulkWait, due, attention, heq⟩ := (s.roleTold c rest).endWindDown.settle_eq
      refine ⟨fun hrests => ?_, fun hrunning hlisten => ⟨fun hnot => ?_, fun o hhand => ?_⟩⟩
      · rw [heq, State.endWindDown_of_rests (by rw [htold]; exact hrests.imp_left fun h => by rw [h]; nofun),
          htold] at hexec
        exact ⟨_, hexec, by and_intros <;> rfl⟩
      · rw [heq, State.endWindDown_of_listen (by rw [htold]; exact hrunning) (by rw [htold]; exact hlisten)
            (by rw [htold]; exact hreleased ▸ State.roleStaged_not_deferred hnot), htold] at hexec
        exact ⟨_, hexec, by and_intros <;> rfl⟩
      · intro entered second
        have hkept : released = s.oru := by
          rw [← hreleased]
          simp [State.roleStaged, hhand]
        rw [hkept] at htold
        let w : State :=
          { s with
            msu.roleDue := rest, msu.windDown := none, msu.takeoverTimer := true, rpu.staging := s.rpu.staging ++ [staged]
            rpu.events := s.rpu.events.with .role, rpu.changed := changed, rpu.holdTimer := holdTimer }
        have hended : (s.roleTold c rest).endWindDown = w.carryOutClaim o := by
          rw [State.endWindDown_of_claim (o := o) (by rw [htold]; exact hrunning) (by rw [htold]; exact hlisten)
            (by rw [htold]; exact hhand), htold]
          rfl
        have hplaces : w.rpu.staging.length + w.bar.reserved = places + 1 := by
          simp only [w, places, List.length_append, List.length_singleton]
          omega
        rw [heq, hended] at hexec
        by_cases hclaimed : rest = [] ∧ places < 5
        · obtain ⟨hrest, hfree⟩ := hclaimed
          have hroom' : w.rpu.staging.length + w.bar.reserved < 6 := by omega
          obtain ⟨changed', holdTimer', henter⟩ :=
            State.enterActive_of_room (s := { w with msu.shift := 0 }) (reason := .claimed) hrest hroom'
          rw [State.carryOutClaim_of_room hrest hroom', henter] at hexec
          refine ⟨_, hexec, ?_, rfl, rfl, fun _ _ => ⟨rfl, rfl, List.append_assoc _ _ _⟩, fun hlate => ?_⟩
          · and_intros <;> rfl
          · rcases hlate with h | h
            · exact absurd hrest h
            · exact absurd hfree (by omega)
        · have hlate : w.msu.roleDue ≠ [] ∨ 6 ≤ w.rpu.staging.length + w.bar.reserved := by
            rw [not_and_or, not_lt] at hclaimed
            exact hclaimed.imp_right fun h => by omega
          rw [State.carryOutClaim_of_due hlate, State.enterActive_of_due (s := { w with msu.shift := 0 }) hlate] at hexec
          exact ⟨_, hexec, by and_intros <;> rfl, rfl, rfl, fun h hfree => absurd ⟨h, hfree⟩ hclaimed,
            fun _ => ⟨rfl, rfl, rfl⟩⟩

end Sys2Proof.Machine

/-! The results of orders (R134, R142, R144 to R149, R166). -/

namespace Sys2Proof.Machine

section
variable {s : State} {x : Exchange} {r : StationRecord} {front back : List BusEntry} {e : BusEntry}

theorem BusEntry.readOutcome_cases (e : BusEntry) :
    (0 < e.good → e.busy + e.refused + e.miss = 0 → e.readOutcome = .done) ∧
      (0 < e.good → 0 < e.busy + e.refused + e.miss → e.readOutcome = .partialReads) ∧
      (e.good = 0 → 0 < e.refused → e.readOutcome = .refused) ∧
      (e.good = 0 → e.refused = 0 → 0 < e.busy → e.readOutcome = .busy) ∧
      (e.good = 0 → e.refused = 0 → e.busy = 0 → e.readOutcome = .noReply) := by
  unfold BusEntry.readOutcome
  refine ⟨fun hgood hclean => ?_, fun hgood hmixed => ?_, fun hgood hrefused => ?_, fun hgood hrefused hbusy => ?_,
    fun hgood hrefused hbusy => ?_⟩
  · rw [if_pos hgood, if_pos (by omega)]
  · rw [if_pos hgood, if_neg (by omega)]
  · rw [if_neg (by omega), if_pos hrefused]
  · rw [if_neg (by omega), if_neg (by omega), if_pos hbusy]
  · rw [if_neg (by omega), if_neg (by omega), if_neg (by omega)]

theorem Order.repeatIgnored_iff (o : Order) :
    o.repeatIgnored = true ↔ o.repeats ≠ 0 ∧ o.kind?.isSome ∧ o.kind? ≠ some .read ∧ o.kind? ≠ some .shape := by
  unfold Order.repeatIgnored
  cases hkind : o.kind? with
  | none => simp
  | some k => cases k <;> simp [OrderKind.repeatable]

theorem Order.resultStation_eq (o : Order) :
    o.resultStation =
      if o.kind? ∈ [some .enrol, some .retire, some .shape, some .read, some .write, some .latch, some .snap,
          some .takeTotals] then o.station else 0 := by
  unfold Order.resultStation
  cases hkind : o.kind? with
  | none => simp
  | some k => cases k <;> simp [OrderKind.usesStation]

/-- The end of an entry, in any state with the same Order Unit and the same exchange state. -/
theorem State.endEntry_ends {t : State} (horu : t.oru = s.oru) (hctl : t.ctl = s.ctl)
    (hqueue : s.oru.busQueue = front ++ e :: back) (f : BusEntry) (outcome : OrderOutcome) :
    (t.endEntry front.length f outcome).oru = s.entryEnds front f back outcome := by
  rw [State.endEntry_oru f outcome (by rw [horu, hqueue]), horu, hctl]
  rfl

theorem State.continueEntry_goesOn {t : State} (horu : t.oru = s.oru) (hctl : t.ctl = s.ctl) (hmsu : t.msu = s.msu)
    (hqueue : s.oru.busQueue = front ++ e :: back) (f : BusEntry) :
    (t.continueEntry front.length f).oru = s.entryGoesOn front f back := by
  rw [State.continueEntry_oru f (by rw [horu, hqueue])]
  simp only [State.entryGoesOn, horu, hctl, hmsu]

/-- The record of a queried station as the close of the QUERY leaves it. -/
theorem State.deliver_query_station? (hverb : x.verb = .query) (hr : s.station? x.address = some r) (q : Reply) :
    (s.deliver x (.reply q)).1.station? x.address = some (r.queried q) := by
  have haddress := State.station?_address hr
  have hstations : (s.deliver x (.reply q)).1.stations =
      s.stations.map (fun p => if p.address = r.address then r.queried q else p) := by
    simp only [State.deliver, hr, hverb, State.changeRecord_stations]
  rw [State.station?, hstations, ← haddress]
  have hkeeps : ∀ p : StationRecord, p.address = r.address → (r.queried q).address = r.address := fun _ _ => by
    unfold StationRecord.queried
    dsimp only
    (repeat' split) <;> rfl
  rw [find?_map_update r.address r.address (fun _ => r.queried q) hkeeps]
  have hfound : s.stations.find? (fun p => p.address = r.address) = some r := haddress ▸ hr
  simp [hfound]

theorem StationRecord.queried_verified {q : Reply} {kind : Byte} {channels : Nat} (hverified : r.verified = false)
    (hgood : q.cls = .good) (hidentity : q.identity = some (kind, channels)) :
    (r.queried q).verified = true ↔ kind = r.kind ∧ r.slotCount ≤ channels := by
  simp only [StationRecord.queried, hgood, StationRecord.identityMatches, hidentity, Bool.and_eq_true, decide_eq_true_eq]
  split
  next h => simp [h]
  next h => simp [h, hverified]

end

/-- Settles O31: the result staged, the fields of a result, and what each close of an entry's exchange makes of it. -/
theorem orderResults : Obligations.OrderResults := by
  refine ⟨fun s c rest hhosting hcompletion hroom => ?_, fun o outcome detail entries => ?_, BusEntry.readOutcome_cases,
    fun e outcome => ⟨fun hread => ?_, fun hread => ?_⟩, fun s x front back e hhosting hclaimant hopen => ?_⟩
  · let u : State := { s with oru.completion := rest }
    have hexec : exec .orderResultStage s =
        done (if c.fromHand then (u.stage (.order c.result)).releaseHand else u.stage (.order c.result)) := by
      change execOrderResultStage s = _
      simp only [execOrderResultStage, hcompletion]
      exact if_pos ⟨s.hosting_of_Hosting hhosting, s.freePlaces_pos_iff.2 hroom⟩
    obtain ⟨changed, holdTimer, hstage⟩ := u.stage_eq (.order c.result)
    have hevents : ((Result.order c.result).event?.map s.rpu.events.with).getD s.rpu.events =
        if c.result.outcome = .badOrder then { s.rpu.events with orderErr := true } else s.rpu.events := by
      simp only [Result.event?]
      split <;> rfl
    cases hhand : c.fromHand with
    | true =>
      obtain ⟨head, bulkWait, due, attention, heq⟩ := (u.stage (.order c.result)).releaseHand.settle_eq
      have hnext : exec .orderResultStage s = .next (u.stage (.order c.result)).releaseHand.settle := by rw [hexec, hhand]; rfl
      rw [heq, hstage] at hnext
      exact ⟨_, hnext, rfl, rfl, hevents, rfl, rfl, rfl, rfl, rfl, rfl, rfl, rfl, rfl, rfl, rfl⟩
    | false =>
      obtain ⟨head, bulkWait, due, attention, heq⟩ := (u.stage (.order c.result)).settle_eq
      have hnext : exec .orderResultStage s = .next (u.stage (.order c.result)).settle := by rw [hexec, hhand]; rfl
      rw [heq, hstage] at hnext
      exact ⟨_, hnext, rfl, rfl, hevents, rfl, rfl, rfl, rfl, rfl, rfl, rfl, rfl, rfl, rfl, rfl⟩
  · exact ⟨rfl, rfl, rfl, rfl, rfl, rfl, rfl, o.repeatIgnored_iff, o.resultStation_eq⟩
  · simp only [BusEntry.result, hread]
  · unfold BusEntry.result
    split
    next h => exact absurd h hread
    next => rfl
  · have hqueue := hopen.queue
    refine ⟨fun hverb o f hf => ?_, fun hverb r hr hverified => ?_, fun hverb => ?_⟩
    · obtain ⟨t, hclose, horu, hctl, hmsu, -⟩ := s.closeExchange_busEntry x o hclaimant hopen
      have htally : e.tally o (s.deliver x o).2 = f ∧ f.nextInstance = e.nextInstance + 1 ∧ f.order = e.order := by
        rcases hf with ⟨q, rfl, hcls, rfl⟩ | ⟨q, rfl, hcls, rfl⟩ | ⟨q, rfl, hcls, rfl⟩ | ⟨rfl, rfl⟩
        · exact ⟨by simp only [BusEntry.tally, hcls], rfl, rfl⟩
        · exact ⟨by simp only [BusEntry.tally, hcls], rfl, rfl⟩
        · exact ⟨by simp only [BusEntry.tally, hcls], rfl, rfl⟩
        · exact ⟨rfl, rfl, rfl⟩
      obtain ⟨htallied, hnext, horder⟩ := htally
      rw [hverb] at hclose
      dsimp only at hclose
      rw [htallied, horder, hnext] at hclose
      refine ⟨fun hlast => ?_, fun hmore => ?_⟩
      · rw [hclose, if_pos (by omega), State.endEntry_ends horu hctl hqueue]
      · rw [hclose, if_neg (by omega), State.continueEntry_goesOn horu hctl hmsu hqueue]
    · have hreply (q : Reply) : ∃ t : State,
          (s.closeExchange x (.reply q)).oru = (t.settleQuery front.length e x.address (.reply q)).oru ∧ t.oru = s.oru ∧
            t.ctl = s.ctl ∧ t.msu = s.msu ∧ t.station? x.address = some (r.queried q) := by
        obtain ⟨t, hclose, horu, hctl, hmsu, hstations⟩ := s.closeExchange_busEntry x (.reply q) hclaimant hopen
        rw [hverb] at hclose
        refine ⟨t, hclose, horu, hctl, hmsu, ?_⟩
        rw [State.station?, hstations]
        exact State.deliver_query_station? hverb hr q
      refine ⟨fun q kind channels hgood hidentity => ?_, fun q hrefused => ?_, fun q hbusy => ?_, ?_⟩
      · obtain ⟨t, hclose, horu, hctl, hmsu, hfound⟩ := hreply q
        have hmatch := StationRecord.queried_verified hverified hgood hidentity
        simp only [State.settleQuery, hgood, hfound, Option.any_some] at hclose
        refine ⟨fun hkind hchannels => ?_, fun hother => ?_⟩
        · rw [hclose, if_pos (hmatch.2 ⟨hkind, hchannels⟩), State.continueEntry_goesOn horu hctl hmsu hqueue]
        · rw [hclose, if_neg (mt hmatch.1 (by rintro ⟨hkind, hchannels⟩; rcases hother with h | h <;> [exact h hkind; omega])),
            State.endEntry_ends horu hctl hqueue]
      · obtain ⟨t, hclose, horu, hctl, -, -⟩ := hreply q
        simp only [State.settleQuery, hrefused] at hclose
        rw [hclose, State.endEntry_ends horu hctl hqueue]
      · obtain ⟨t, hclose, horu, hctl, -, -⟩ := hreply q
        simp only [State.settleQuery, hbusy] at hclose
        rw [hclose, State.endEntry_ends horu hctl hqueue]
      · obtain ⟨t, hclose, horu, hctl, -, -⟩ := s.closeExchange_busEntry x .miss hclaimant hopen
        rw [hverb] at hclose
        exact hclose.trans (State.endEntry_ends horu hctl hqueue e .noReply)
    · have hstore (o : ExchangeOutcome) : (s.closeExchange x o).oru = s.entryEnds front e back o.storeOutcome := by
        obtain ⟨t, hclose, horu, hctl, -, -⟩ := s.closeExchange_busEntry x o hclaimant hopen
        rw [hverb] at hclose
        exact hclose.trans (State.endEntry_ends horu hctl hqueue e o.storeOutcome)
      refine ⟨fun q hgood => ?_, fun q hbusy => ?_, fun q hrefused => ?_, hstore .miss⟩
      · simpa only [ExchangeOutcome.storeOutcome, hgood] using hstore (.reply q)
      · simpa only [ExchangeOutcome.storeOutcome, hbusy] using hstore (.reply q)
      · simpa only [ExchangeOutcome.storeOutcome, hrefused] using hstore (.reply q)

end Sys2Proof.Machine

/-! The arbiter and the lanes of an attempt (R84, R87, R88, R99 to R107). -/

namespace Sys2Proof.Machine

/-! ### The lanes of an attempt (R84, R87) -/

section
variable {s : State} {address : Nat} {pref : LaneId} {verb : Verb} {probe : Bool}

theorem State.firstLanes_of_mirror (h : s.dir.laneMode = .mirror) :
    s.firstLanes verb address pref probe = (true, true) := by
  simp [State.firstLanes, h]

theorem State.firstLanes_of_singleA (h : s.dir.laneMode = .singleA) (hverb : verb ≠ .mark) :
    s.firstLanes verb address pref probe = (true, false) := by
  simp [State.firstLanes, h, hverb]

theorem State.firstLanes_of_singleB (h : s.dir.laneMode = .singleB) (hverb : verb ≠ .mark) :
    s.firstLanes verb address pref probe = (false, true) := by
  simp [State.firstLanes, h, hverb]

theorem State.firstLanes_of_alternate (h : s.dir.laneMode = .alternate) (hverb : verb ≠ .mark)
    (haddress : address ≠ 126) :
    s.firstLanes verb address pref probe = onLane (s.alternateLane pref probe) := by
  have hall : address ≠ Config.allStations := haddress
  simp [State.firstLanes, h, hverb, hall]

end

/-- Settles O34: each lane mode by its case. -/
theorem lanesOfAttempts : Obligations.LanesOfAttempts := by
  refine ⟨fun s address pref verb probe => ⟨rfl, State.firstLanes_of_mirror, State.firstLanes_of_singleA,
    State.firstLanes_of_singleB, fun hmode => by simp [State.firstLanes, hmode, Config.allStations],
    fun hmode hverb haddress => ?_⟩, fun s x => ⟨fun hmode => ?_, fun hmode => ?_⟩⟩
  · have hlane (p : LaneId) (b : Bool) : s.firstLanes verb address p b = onLane (s.alternateLane p b) :=
      State.firstLanes_of_alternate hmode hverb haddress
    simp only [hlane]
    refine ⟨fun ha hb => ⟨?_, ?_⟩, fun ha hb => ⟨?_, ?_⟩, fun ha hb => ⟨?_, ?_⟩, fun ha hb => ⟨?_, ?_⟩⟩
    · simp [State.alternateLane, ha, hb, onLane]
    · cases pref <;> simp [State.alternateLane, ha, hb, onLane, Lanes.get, otherLane]
    · simp [State.alternateLane, ha, hb, onLane]
    · cases pref <;> simp [State.alternateLane, ha, hb, onLane, Lanes.get, otherLane]
    · simp [State.alternateLane, ha, hb, onLane, Lanes.get]
    · simp [State.alternateLane, ha, hb, onLane, Lanes.get]
    · simp [State.alternateLane, ha, hb, onLane, Lanes.get, otherLane]
    · simp [State.alternateLane, ha, hb, onLane, Lanes.get, otherLane]
  · simp [State.retryLanes, hmode]
  · simp [State.retryLanes, hmode]

/-! ### The arbiter's choice (R102, R104) -/

theorem findIdx?_eq_of_forall {α : Type} {p q : α → Bool} {l : List α} (h : ∀ a ∈ l, p a = q a) :
    l.findIdx? p = l.findIdx? q := by
  induction l with
  | nil => rfl
  | cons a rest ih =>
    obtain ⟨hhead, hrest⟩ := List.forall_mem_cons.1 h
    rw [List.findIdx?_cons, List.findIdx?_cons, hhead, ih hrest]

section
variable {s : State}

theorem State.chooseClaim_of_urgent {i : Nat}
    (h : s.oru.busQueue.findIdx? (fun e => e.order.urgent && !e.exchangeOpen) = some i) :
    s.chooseClaim = some (.entry i) := by
  simp only [State.chooseClaim, h]

/-- With no urgent entry waiting, every entry waiting is a normal one. -/
theorem findIdx?_waiting {queue : List BusEntry}
    (h : queue.findIdx? (fun e => e.order.urgent && !e.exchangeOpen) = none) :
    queue.findIdx? (fun e => !e.exchangeOpen) = queue.findIdx? (fun e => !e.order.urgent && !e.exchangeOpen) := by
  refine findIdx?_eq_of_forall fun e he => ?_
  have hnot := List.findIdx?_eq_none_iff.1 h e he
  cases hurgent : e.order.urgent <;> simp_all

theorem exec_busGrant_of_choice {g : Grant} (hopen : s.grantOpen = true) (hchoice : s.chooseClaim = some g) :
    exec .busGrant s = .next (s.grant g).settle := by
  change execBusGrant s = _
  simp only [execBusGrant, hopen, hchoice, if_true]
  rfl

/-- The bus may be granted (R102). -/
theorem State.grantOpen_iff_room :
    s.grantOpen = true ↔
      s.msu.role = .active ∧ s.ctl.exchangeState = .running ∧ s.exu.exchange = none ∧
        s.rpu.staging.length + s.bar.reserved ≤ 3 ∧ s.msu.roleDue = [] := by
  have hroom : Config.grantPlaces ≤ s.freePlaces ↔ s.rpu.staging.length + s.bar.reserved ≤ 3 := by
    simp only [Config.grantPlaces, State.freePlaces, Config.stagingResults]
    omega
  rw [State.grantOpen_iff, hroom]

end

/-- An exchange as it opens: its sequence is the counter's, and its first attempt goes out on the lanes it takes (R82 to
R84, R103). -/
theorem State.openExchange_eq (x : Exchange) (probe : Bool) (s : State) :
    s.openExchange x probe =
      { s with
        exu.seqCounter := s.exu.seqCounter + 1, bar.reserved := 2
        exu.exchange := some
          { x with
            seq := s.exu.seqCounter
            partA := if (s.firstLanes x.verb x.address x.lanePref probe).1 then .sending else .unused
            partB := if (s.firstLanes x.verb x.address x.lanePref probe).2 then .sending else .unused }
        lanes.a :=
          if (s.firstLanes x.verb x.address x.lanePref probe).1 then
            { s.lanes.a with tx := .starting (s.request { x with seq := s.exu.seqCounter }).telegram, rx := .quiet }
          else s.lanes.a
        lanes.b :=
          if (s.firstLanes x.verb x.address x.lanePref probe).2 then
            { s.lanes.b with tx := .starting (s.request { x with seq := s.exu.seqCounter }).telegram, rx := .quiet }
          else s.lanes.b } := rfl

/-- Settles O32: the choice by the claims raised, and the poll of a sweep as it is granted. -/
theorem busIsGranted : Obligations.BusIsGranted := by
  refine ⟨fun s => ?_, fun s => ⟨State.grantOpen_iff_room, fun hblocked => ?_⟩,
    fun s r a hrole hrunning hexchange hroom hdue hchoice hr hhealth => ?_⟩
  · intro urgent normal
    refine ⟨fun i hi => State.chooseClaim_of_urgent hi, fun hnone => ?_⟩
    have hurgent : s.oru.busQueue.findIdx? (fun e => e.order.urgent && !e.exchangeOpen) = none := hnone
    have hwaiting : s.oru.busQueue.findIdx? (fun e => !e.exchangeOpen) = normal := findIdx?_waiting hnone
    refine ⟨fun i a hi ha => ?_, fun i hi ha => ?_, fun a hi ha => ?_, fun hi ha => ?_⟩
    · simp only [State.chooseClaim, hurgent, hwaiting, hi, ha]
      split <;> rfl
    · simp only [State.chooseClaim, hurgent, hwaiting, hi, ha]
    · simp only [State.chooseClaim, hurgent, hwaiting, hi, ha]
    · simp only [State.chooseClaim, hurgent, hwaiting, hi, ha]
  · change execBusGrant s = _
    rcases hblocked with hclosed | hnone
    · simp only [execBusGrant, hclosed, Bool.false_eq_true, if_false]
    · simp only [execBusGrant, hnone, ite_self]
  · intro first count verb telegram lanes
    have hopen : s.grantOpen = true := State.grantOpen_iff_room.2 ⟨hrole, hrunning, hexchange, hroom, hdue⟩
    let u : State := { s with swe.claim := none, swe.firstPoll := false, bar.token := .busQueue }
    have hexec : exec .busGrant s = .next (u.openExchange (sweepExchange r) s.swe.firstPoll).settle := by
      rw [exec_busGrant_of_choice hopen hchoice, State.grant, State.grantSweep, hr]
      exact congrArg (fun u : State => Host.Outcome.next u.settle) (if_neg hhealth)
    have hx : sweepExchange r = Exchange.new .sweep r.address verb first count [] (1 + r.retryLimit) r.lanePref := by
      dsimp only [verb, first, count]
      unfold sweepExchange
      split <;> rfl
    obtain ⟨head, bulkWait, due, attention, heq⟩ := (u.openExchange (sweepExchange r) s.swe.firstPoll).settle_eq
    rw [heq, hx, State.openExchange_eq] at hexec
    have hverb : verb ≠ .mark := by
      dsimp only [verb]
      split <;> nofun
    have hparts {l : Bool × Bool} (h : lanes = l) :
        (if lanes.1 then LanePart.sending else .unused) = (if l.1 then .sending else .unused) ∧
          (if lanes.2 then LanePart.sending else .unused) = (if l.2 then .sending else .unused) := by
      rw [h]
      exact ⟨rfl, rfl⟩
    exact ⟨_, _, hexec, rfl, rfl, rfl, rfl, rfl, rfl, rfl, rfl, rfl, rfl, rfl, rfl, rfl, rfl, rfl,
      fun hmode => hparts (State.firstLanes_of_mirror hmode), fun hmode => hparts (State.firstLanes_of_singleA hmode hverb),
      fun hmode => hparts (State.firstLanes_of_singleB hmode hverb), rfl, rfl, rfl, rfl, rfl, rfl, rfl, rfl, rfl, rfl, rfl,
      rfl, rfl, rfl, rfl⟩

/-! ### Entries and marks are granted (R99, R105, R106, R144) -/

/-- What every exchange for an entry has in common, whatever its order asks (R105). -/
theorem entryExchange_common (o : Order) (r : StationRecord) :
    (entryExchange o r).claimant = .busEntry ∧ (entryExchange o r).attempt = 1 ∧ (entryExchange o r).noRetry = false ∧
      ((entryExchange o r).failedA = false ∧ (entryExchange o r).failedB = false) ∧
      (entryExchange o r).lanePref = r.lanePref ∧ (entryExchange o r).address = r.address := by
  unfold entryExchange
  split <;> exact ⟨rfl, rfl, rfl, ⟨rfl, rfl⟩, rfl, rfl⟩

theorem queue_split {queue : List BusEntry} {i : Nat} {e : BusEntry} (h : queue[i]? = some e) :
    ∃ front back, queue = front ++ e :: back ∧ i = front.length := by
  obtain ⟨hi, hat⟩ := List.getElem?_eq_some_iff.1 h
  refine ⟨queue.take i, queue.drop (i + 1), ?_, by simp [Nat.min_eq_left hi.le]⟩
  rw [← hat, ← List.drop_eq_getElem_cons hi, List.take_append_drop]

/-- Settles O33: the grant's branches (R105, R106, R144), each opening an exchange as `openExchange` does, or ending the
entry of a station in MISMATCH. -/
theorem entriesAndMarksAreGranted : Obligations.EntriesAndMarksAreGranted := by
  refine ⟨fun s i e hopen hchoice he => ?_, fun s hopen hchoice => ?_, fun s a r hopen hchoice hr hhealth => ?_⟩
  · intro begins
    have hexec := exec_busGrant_of_choice hopen hchoice
    have hbegins (x : Exchange) (hx : exec .busGrant s = .next (s.openEntry i e x).settle)
        (hclaimant : x.claimant = .busEntry) (hattempt : x.attempt = 1) (hretry : x.noRetry = false)
        (hfailed : x.failedA = false ∧ x.failedB = false) :
        ∃ t y, exec .busGrant s = .next t ∧ begins x.lanePref y t ∧ y.address = x.address ∧ y.verb = x.verb ∧
          y.first = x.first ∧ y.count = x.count ∧ y.attempts = x.attempts ∧ y.values = x.values := by
      obtain ⟨head, bulkWait, due, attention, heq⟩ := (s.openEntry i e x).settle_eq
      rw [heq, State.openEntry, State.openExchange_eq] at hx
      let lanes := s.firstLanes x.verb x.address x.lanePref false
      let y : Exchange :=
        { x with
          seq := s.exu.seqCounter
          partA := if lanes.1 then .sending else .unused
          partB := if lanes.2 then .sending else .unused }
      exact ⟨_, y, hx, ⟨hclaimant, rfl, hattempt, hretry, rfl, hfailed.1, hfailed.2, by and_intros <;> rfl⟩,
        rfl, rfl, rfl, rfl, rfl, rfl⟩
    have hgranted (r : StationRecord) (hone : e.order.station ≠ 126) (hr : s.station? e.order.station = some r) :
        exec .busGrant s =
          .next (if r.health = .mismatch then s.endEntry i e .mismatch
            else if r.verified then s.openEntry i e (entryExchange e.order r)
            else s.openEntry i e (queryExchange .busEntry r) : State).settle := by
      have hone' : e.order.station ≠ Config.allStations := hone
      rw [hexec]
      simp only [State.grant, State.grantEntry, he, if_neg hone', hr]
    refine ⟨fun r hone hr hhealth => ?_, fun hall => ?_, fun r hone hr hhealth => ?_⟩
    · have hopened := hgranted r hone hr
      rw [if_neg hhealth] at hopened
      cases hverified : r.verified with
      | false =>
        rw [if_neg (by simp [hverified])] at hopened
        obtain ⟨t, y, ht, hy, haddress, hverb, -, -, hattempts, -⟩ :=
          hbegins (queryExchange .busEntry r) hopened rfl rfl rfl ⟨rfl, rfl⟩
        exact ⟨t, y, ht, hy, haddress, fun _ => ⟨hverb, hattempts⟩, nofun, nofun, nofun⟩
      | true =>
        rw [if_pos hverified] at hopened
        obtain ⟨hclaimant, hattempt, hretry, hfailed, hpref, hstation⟩ := entryExchange_common e.order r
        obtain ⟨t, y, ht, hy, haddress, hverb, hfirst, hcount, hattempts, hvalues⟩ :=
          hbegins (entryExchange e.order r) hopened hclaimant hattempt hretry hfailed
        rw [hpref] at hy
        refine ⟨t, y, ht, hy, haddress.trans hstation, nofun, fun _ hkind => ?_, fun _ hkind => ?_, fun _ hkind => ?_⟩
        all_goals simp only [entryExchange, hkind, Exchange.new] at hverb hfirst hcount hattempts hvalues
        · exact ⟨hverb, hfirst, hcount, hattempts⟩
        · exact ⟨hverb, hfirst, hcount, hattempts, hvalues⟩
        · exact ⟨hverb, hattempts⟩
    · have hall' : e.order.station = Config.allStations := hall
      have hopened : exec .busGrant s = .next (s.openEntry i e latchAllExchange).settle := by
        rw [hexec]
        simp only [State.grant, State.grantEntry, he, if_pos hall']
      obtain ⟨t, y, ht, hy, haddress, hverb, -, -, hattempts, -⟩ :=
        hbegins latchAllExchange hopened rfl rfl rfl ⟨rfl, rfl⟩
      exact ⟨t, y, ht, hy, hverb, haddress, hattempts⟩
    · have hrunning := (State.grantOpen_iff_room.1 hopen).2.1
      have hended := hgranted r hone hr
      rw [if_pos hhealth] at hended
      obtain ⟨front, back, hqueue, hfront⟩ := queue_split he
      have horu : (s.endEntry i e .mismatch).oru = s.oru.leaves false (s.oru.busQueue.eraseIdx i) (e.result .mismatch) :=
        by
        subst hfront
        rw [State.endEntry_oru e .mismatch hqueue, hqueue, busQueue_eraseIdx, hrunning]
        rfl
      exact ⟨_, hended, by simp [horu], by and_intros <;> simp⟩
  · have hexec := exec_busGrant_of_choice hopen hchoice
    obtain ⟨head, bulkWait, due, attention, heq⟩ := (s.grant .mark).settle_eq
    rw [heq, State.grant, State.grantMark, State.openExchange_eq] at hexec
    exact ⟨_, _, hexec, rfl, by and_intros <;> rfl⟩
  · rw [exec_busGrant_of_choice hopen hchoice, State.grant, State.grantSweep, hr]
    exact congrArg (fun u : State => Host.Outcome.next u.settle) (if_pos hhealth)

end Sys2Proof.Machine

/-! Delimiters, and the receiver's holds (R69, R80, R86, R119). -/

namespace Sys2Proof.Machine

section
variable {s : State} {lane : LaneId}

/-- Line activity touches the timers of the Mastership Unit and nothing else (R111, R119). -/
theorem State.lineActivity_eq (s : State) : s.lineActivity = { s with msu := s.lineActivity.msu } := by
  unfold State.lineActivity
  (repeat' split) <;> rfl

theorem State.lineActivity_msu_of_active (hrunning : s.ctl.exchangeState = .running) (hrole : s.msu.role = .active) :
    s.lineActivity.msu = { s.msu with markTimer := true, markClaim := false } := by
  simp only [State.lineActivity, State.running, hrunning, decide_true, if_true]
  split <;> simp_all

theorem State.lineActivity_msu_of_listen (hrunning : s.ctl.exchangeState = .running) (hrole : s.msu.role = .listen) :
    s.lineActivity.msu = { s.msu with takeoverTimer := s.msu.windDown.isNone } := by
  simp only [State.lineActivity, State.running, hrunning, decide_true, if_true]
  split <;> simp_all

theorem State.lineActivity_msu_of_off (h : s.ctl.exchangeState ≠ .running ∨ s.msu.role = .off) : s.lineActivity.msu = s.msu := by
  unfold State.lineActivity
  rcases h with h | h
  · simp [State.running, h]
  · simp [h]

/-- An update of a lane touches nothing but that lane. -/
theorem State.updateLane_eq (s : State) (lane : LaneId) (f : LaneController → LaneController) :
    s.updateLane lane f = { s with lanes := (s.updateLane lane f).lanes } := by
  cases lane <;> rfl

theorem State.updateLane_counts (s : State) (lane : LaneId) (f : LaneController → LaneController) :
    (s.updateLane lane f).lanes.silentWindows = s.lanes.silentWindows ∧
      (s.updateLane lane f).lanes.disagreements = s.lanes.disagreements := by
  cases lane <;> exact ⟨rfl, rfl⟩

theorem State.hears_iff {d : Directory} (hd : s.xpt.directory = some d) :
    s.hears lane = true ↔ (s.lanes.get lane).tx = .idle ∧ (s.lanes.get lane).rx = .quiet := by
  simp [State.hears, hd]

theorem isDelimiter_iff {bitTime holdNs : Nat} :
    isDelimiter bitTime holdNs = true ↔ 3 * bitTime ≤ 2 * holdNs ∧ 2 * holdNs ≤ 5 * bitTime := by
  simp [isDelimiter]

theorem isNoDelimiter_iff {bitTime holdNs : Nat} : isNoDelimiter bitTime holdNs = true ↔ 2 * holdNs < 3 * bitTime := by
  simp [isNoDelimiter]

/-- What line activity does to the Mastership Unit of a state with the same role and exchange state. -/
theorem State.lineActivity_msu_cases {u : State} (hctl : u.ctl = s.ctl) (hmsu : u.msu = s.msu) :
    (s.ctl.exchangeState = .running → s.msu.role = .active →
        u.lineActivity.msu = { s.msu with markTimer := true, markClaim := false }) ∧
      (s.ctl.exchangeState = .running → s.msu.role = .listen →
        u.lineActivity.msu = { s.msu with takeoverTimer := s.msu.windDown.isNone }) ∧
      (s.ctl.exchangeState ≠ .running ∨ s.msu.role = .off → u.lineActivity.msu = s.msu) := by
  rw [← hctl, ← hmsu]
  exact ⟨State.lineActivity_msu_of_active, State.lineActivity_msu_of_listen, State.lineActivity_msu_of_off⟩

theorem Exchange.delimiter_of_waiting {x : Exchange} (hverb : x.verb ≠ .latch) (hpart : x.part lane = .waiting) :
    x.delimiter lane = x.setPart lane .receiving := if_pos ⟨hverb, hpart⟩

theorem Exchange.delimiter_of_not_waiting {x : Exchange} (h : x.verb = .latch ∨ x.part lane ≠ .waiting) :
    x.delimiter lane = x := if_neg (by rintro ⟨hverb, hpart⟩; exact h.elim hverb (· hpart))

theorem Overheard.delimiter_of_open {w : Overheard} {l : OverLane} (hl : w.lane lane = some l) (hresult : l.result = .waiting)
    (hopen : l.windowExpired = false) : w.delimiter lane = w.setLane lane { l with receiving := true } := by
  simp [Overheard.delimiter, hl, OverLane.isWaiting, hresult, hopen]

theorem Overheard.delimiter_of_closed {w : Overheard} {l : OverLane} (hl : w.lane lane = some l)
    (h : l.result ≠ .waiting ∨ l.windowExpired = true) : w.delimiter lane = w := by
  rcases h with h | h <;> simp [Overheard.delimiter, hl, OverLane.isWaiting, h]

theorem Overheard.delimiter_of_first {w : Overheard} {l : OverLane} (hout : w.lane lane = none)
    (hl : w.lane w.firstLane = some l) : w.delimiter lane = w.setLate lane l.windowExpired := by
  simp [Overheard.delimiter, hout, hl]

end

/-- Settles O35: the delimiter sent, the delimiter heard, and the two holds that are none. -/
theorem delimitersAndHolds : Obligations.DelimitersAndHolds := by
  refine ⟨fun s lane telegram htx => ?_, fun s lane d holdNs hd htx => ⟨fun hrx hlow hhigh => ?_, fun hrx hshort => ?_, fun hrx => ?_⟩⟩
  · let u : State := s.updateLane lane (fun l => { l with tx := .sending telegram, sent := l.sent + 1 })
    have hexec : exec (.startDelimiter lane .sent) s = .next u.lineActivity.settle := by
      change execStartDelimiter lane .sent s = _
      simp only [execStartDelimiter, State.delimiterSent, htx]
      rfl
    have hmsu := State.lineActivity_msu_cases (s := s) (u := u) (by simp [u]) (by simp [u])
    have hlanes : u.lineActivity.settle.lanes = u.lanes := by simp
    refine ⟨_, hexec, ?_⟩
    rw [hlanes, State.settle_msu]
    obtain ⟨hsilent, hdisagree⟩ := s.updateLane_counts lane (fun l => { l with tx := .sending telegram, sent := l.sent + 1 })
    exact ⟨s.updateLane_get lane _, s.updateLane_get_other lane _, hsilent, hdisagree, hmsu.1, hmsu.2.1, hmsu.2.2,
      by and_intros <;> simp [u]⟩
  · let u : State := s.updateLane lane (fun l => { l with rx := .receiving })
    have hexec : exec (.startDelimiter lane (.heard holdNs)) s = .next (s.delimiterHeard lane).settle := by
      refine if_pos ⟨(State.hears_iff hd).2 ⟨htx, hrx⟩, ?_⟩
      rw [State.dir_of_directory hd]
      exact isDelimiter_iff.2 ⟨hlow, hhigh⟩
    have hmsu := State.lineActivity_msu_cases (s := s) (u := u) (by simp [u]) (by simp [u])
    have hlanes : (s.delimiterHeard lane).settle.lanes = u.lanes := by simp [State.delimiterHeard, u]
    have hheard : (s.delimiterHeard lane).settle.msu = u.lineActivity.msu := by simp [State.delimiterHeard, u]
    have hexu : (s.delimiterHeard lane).settle.exu =
        { s.exu with
          exchange := s.exu.exchange.map (fun x => x.delimiter lane)
          overheard := s.exu.overheard.map (fun o => o.delimiter lane) } := by
      simp [State.delimiterHeard]
    refine ⟨_, hexec, ?_⟩
    rw [hlanes, hheard, hexu]
    refine ⟨s.updateLane_get lane _, s.updateLane_get_other lane _, rfl, fun x hx hverb hpart => ?_, fun x hx h => ?_,
      fun hx => ?_, fun w l hw hl => ⟨fun hresult hopen => ?_, fun h => ?_⟩, fun w l hw hout hl => ?_, fun hw => ?_,
      hmsu.1, hmsu.2.1, hmsu.2.2, ?_⟩
    · rw [hx, Option.map_some, Exchange.delimiter_of_waiting hverb hpart]
      cases lane <;> rfl
    · rw [hx, Option.map_some, Exchange.delimiter_of_not_waiting h]
    · rw [hx, Option.map_none]
    · rw [hw, Option.map_some, Overheard.delimiter_of_open hl hresult hopen]
    · rw [hw, Option.map_some, Overheard.delimiter_of_closed hl h]
    · rw [hw, Option.map_some, Overheard.delimiter_of_first hout hl]
    · rw [hw, Option.map_none]
    · and_intros <;> simp [State.delimiterHeard]
  · refine if_pos ⟨(State.hears_iff hd).2 ⟨htx, hrx⟩, ?_⟩
    rw [State.dir_of_directory hd]
    exact isNoDelimiter_iff.2 hshort
  · exact if_pos hrx

end Sys2Proof.Machine

/-! The parts of an attempt, and the telegram sent (R80, R83, R123). -/

namespace Sys2Proof.Machine

/-! ### The parts of an attempt (R80) -/

section
variable {x : Exchange} {lane : LaneId} {p : LanePart}

@[simp] theorem Exchange.setPart_part : (x.setPart lane p).part lane = p := by cases lane <;> rfl
@[simp] theorem Exchange.setPart_part_other : (x.setPart lane p).part (otherLane lane) = x.part (otherLane lane) := by
  cases lane <;> rfl
@[simp] theorem Exchange.setPart_verb : (x.setPart lane p).verb = x.verb := by cases lane <;> rfl
@[simp] theorem Exchange.setPart_claimant : (x.setPart lane p).claimant = x.claimant := by cases lane <;> rfl

/-- The attempt with a part ended is over when the other lane's part is. -/
theorem Exchange.attemptOver_setPart :
    (x.setPart lane p).attemptOver = (p.finished && (x.part (otherLane lane)).finished) := by
  cases lane
  · rfl
  · exact Bool.and_comm _ _

end

section
variable {s : State} {x : Exchange} {lane : LaneId}

theorem State.setPart_of_exchange (hx : s.exu.exchange = some x) (lane : LaneId) (p : LanePart) :
    s.setPart lane p = { s with exu.exchange := some (x.setPart lane p) } := by
  simp [State.setPart, hx]

theorem State.checkAttempt_of_over (hx : s.exu.exchange = some x) (hover : x.attemptOver = true) :
    s.checkAttempt = s.attemptEnd x := by
  simp only [State.checkAttempt, hx]
  exact if_pos hover

theorem State.checkAttempt_of_open (hx : s.exu.exchange = some x) (hopen : x.attemptOver = false) :
    s.checkAttempt = s := by
  simp only [State.checkAttempt, hx]
  exact if_neg (Bool.eq_false_iff.1 hopen)

/-- The close ends the wait of a role and, in FAULTED, a wind-down; the rest stays (R121, R123). -/
theorem State.afterClose_state (s : State) :
    s.afterClose =
      { s with
        msu := s.mastershipAtClose, exu.overheard := if s.msu.offAtClose then none else s.exu.overheard } := by
  unfold State.afterClose State.mastershipAtClose
  cases hoff : s.msu.offAtClose <;> simp only [Bool.false_eq_true, if_true, if_false] <;> split <;> rfl

/-- A LATCH and a MARK bring nothing to the tables (R83). -/
theorem State.deliver_of_quiet {o : ExchangeOutcome} (h : s.station? x.address = none ∨ o = .quiet ∨ o = .complete) :
    s.deliver x o = (s, []) := by
  unfold State.deliver
  split
  next => rfl
  next => rfl
  next => rfl
  next hr => simp [hr] at h
  next hr => simp [hr] at h

/-- The close of a MARK exchange frees the Exchange Unit (R83). -/
theorem State.closeExchange_mark (hclaimant : x.claimant = .mark) :
    s.closeExchange x .complete =
      { s with
        exu.exchange := none, exu.overheard := if s.msu.offAtClose then none else s.exu.overheard
        bar.reserved := 0, msu := s.mastershipAtClose } := by
  rw [State.closeExchange_eq, State.closed, State.deliver_of_quiet (.inr (.inr rfl)), State.told]
  simp only [hclaimant]
  exact State.afterClose_state _

theorem exec_telegramSent {telegram : List Byte} (htx : (s.lanes.get lane).tx = .sending telegram)
    (hx : s.exu.exchange = some x) :
    exec (.telegramSent lane) s =
      .next
        (let t := s.updateLane lane (fun l => { l with tx := .idle, rx := .quiet })
        if x.verb = .mark then (t.setPart lane .closed).checkAttempt else t.setPart lane .waiting : State).settle := by
  change execTelegramSent lane s = _
  simp only [execTelegramSent, htx, State.updateLane_exu, hx]
  split <;> rfl

end

/-- Settles O36: a window opens, or the lane's part of a MARK is over and with the second part the MARK. -/
theorem telegramSent : Obligations.TelegramSent := by
  intro s lane telegram x htx hx hpart frame
  have hexec := exec_telegramSent htx hx
  let t : State := s.updateLane lane (fun l => { l with tx := .idle, rx := .quiet })
  have ht : t.exu.exchange = some x := by simp [t, hx]
  have hclosed := State.setPart_of_exchange ht lane .closed
  refine ⟨fun hverb => ?_, fun hverb hother => ?_, fun hverb hclaimant hother => ?_⟩
  · rw [if_neg hverb, State.setPart_of_exchange ht] at hexec
    exact ⟨_, hexec, by and_intros <;> simp [t], by simp [t], by simp [t], by simp [t]⟩
  · have hopen : (x.setPart lane .closed).attemptOver = false := by
      rw [Exchange.attemptOver_setPart, hother]
      rfl
    rw [if_pos hverb, State.checkAttempt_of_open (x := x.setPart lane .closed) (by rw [hclosed]) hopen, hclosed] at hexec
    exact ⟨_, hexec, by and_intros <;> simp [t], by simp [t], by simp [t], by simp [t]⟩
  · have hover : (x.setPart lane .closed).attemptOver = true := by
      rw [Exchange.attemptOver_setPart, hother]
      rfl
    rw [if_pos hverb, State.checkAttempt_of_over (x := x.setPart lane .closed) (by rw [hclosed]) hover,
      State.attemptEnd] at hexec
    simp only [Exchange.setPart_verb, hverb] at hexec
    rw [State.closeExchange_mark (by simp [hclaimant]), hclosed] at hexec
    have hmsu : State.mastershipAtClose { t with exu.exchange := some (x.setPart lane .closed) } = s.mastershipAtClose :=
      by
      simp [State.mastershipAtClose, t]
    exact ⟨_, hexec, by and_intros <;> simp [t], by simp [t], by simp [t], by simpa using hmsu⟩

end Sys2Proof.Machine

/-! The count of a telegram (R74, R100). -/

namespace Sys2Proof.Machine

/-- A lane's counters stay, and a quiet receiver stays quiet. -/
structure LaneController.Counts (l m : LaneController) : Prop where
  sent : m.sent = l.sent
  damaged : m.damaged = l.damaged
  quiet : l.rx = .quiet → m.rx = .quiet

theorem LaneController.Counts.refl (l : LaneController) : l.Counts l := ⟨rfl, rfl, id⟩

theorem LaneController.Counts.trans {l m n : LaneController} (h : l.Counts m) (k : m.Counts n) : l.Counts n :=
  ⟨k.sent.trans h.sent, k.damaged.trans h.damaged, fun hq => k.quiet (h.quiet hq)⟩

/-- Both lanes keep their counters. -/
def Lanes.Counts (l m : Lanes) : Prop := l.a.Counts m.a ∧ l.b.Counts m.b

theorem Lanes.Counts.refl (l : Lanes) : l.Counts l := ⟨.refl _, .refl _⟩

theorem Lanes.Counts.trans {l m n : Lanes} (h : l.Counts m) (k : m.Counts n) : l.Counts n :=
  ⟨h.1.trans k.1, h.2.trans k.2⟩

theorem Lanes.Counts.get {l m : Lanes} (h : l.Counts m) (lane : LaneId) : (l.get lane).Counts (m.get lane) := by
  cases lane
  · exact h.1
  · exact h.2

section
variable {s : State} {x : Exchange}

/-- An update of a lane that keeps its counters. -/
theorem State.updateLane_counted (lane : LaneId) {f : LaneController → LaneController}
    (hf : ∀ l : LaneController, l.Counts (f l)) :
    s.lanes.Counts (s.updateLane lane f).lanes := by
  cases lane
  · exact ⟨hf _, .refl _⟩
  · exact ⟨.refl _, hf _⟩

theorem State.blame_counted (lane : LaneId) : s.lanes.Counts (s.blame lane).lanes := by
  unfold State.blame
  dsimp only
  split
  · rw [State.setEvent_lanes]
    exact State.updateLane_counted lane fun _ => ⟨rfl, rfl, id⟩
  · exact State.updateLane_counted lane fun _ => ⟨rfl, rfl, id⟩

theorem State.credit_counted (lane : LaneId) : s.lanes.Counts (s.credit lane).lanes := by
  unfold State.credit
  split
  · exact State.updateLane_counted lane fun _ => ⟨rfl, rfl, id⟩
  · rw [State.setEvent_lanes]
    exact State.updateLane_counted lane fun _ => ⟨rfl, rfl, id⟩

theorem State.laneOutcome_counted (lane : LaneId) (o : Option LaneOutcome) :
    s.lanes.Counts (s.laneOutcome lane o).lanes := by
  unfold State.laneOutcome
  split
  · exact ⟨.refl _, .refl _⟩
  · exact State.credit_counted lane
  · exact .refl _
  · exact .refl _

theorem State.Charges.counted {t : State} (h : s.Charges x t) : s.lanes.Counts t.lanes := by
  cases h with
  | spared => exact .refl _
  | disagreed => exact ⟨.refl _, .refl _⟩
  | blamed lane | turned lane => exact State.blame_counted lane

theorem State.weighed_counted (s : State) (x : Exchange) : s.lanes.Counts (s.weighed x).lanes :=
  ((State.laneOutcome_counted .a _).trans (State.laneOutcome_counted .b _)).trans (State.charges_charged _ x _).counted

theorem State.beginAttempt_counted (x : Exchange) (lanes : Bool × Bool) :
    s.lanes.Counts (s.beginAttempt x lanes).lanes := by
  have hsend (used : Bool) (l : LaneController) (telegram : List Byte) : l.Counts (if used then l.send telegram else l) := by
    cases used
    · exact .refl l
    · exact ⟨rfl, rfl, fun _ => rfl⟩
  exact ⟨hsend _ _ _, hsend _ _ _⟩

theorem State.checkAttempt_counted (s : State) : s.lanes.Counts s.checkAttempt.lanes := by
  rcases s.checkAttempt_cases with he | ⟨x, -, -, he⟩
  · rw [he]
    exact .refl _
  · rw [he]
    rcases s.attemptEnd_cases x with ⟨w, o, hw, hclose⟩ | ⟨-, -, hretry⟩
    · rw [hclose, State.closeExchange_lanes]
      cases hw with
      | latch | mark => exact .refl _
      | reply | miss => exact s.weighed_counted x
    · rw [hretry]
      exact (s.weighed_counted x).trans (State.beginAttempt_counted _ _)

/-- After a telegram is counted, nothing that it brings about counts again. -/
theorem State.telegram_counted (s : State) (lane : LaneId) (t : Option Telegram) :
    (s.counted lane t).lanes.Counts (s.telegram lane t).lanes := by
  rcases s.telegram_cases lane t with ht | ht
  · rw [ht, State.heard_lanes]
    exact .refl _
  · rw [ht]
    have hcheck := State.checkAttempt_counted (((s.counted lane t).judgeReply lane t).heard lane t)
    rwa [State.heard_lanes, State.judgeReply_lanes] at hcheck

theorem exec_telegramReceived {d : Directory} {lane : LaneId} {intervals : List Nat} (hd : s.xpt.directory = some d)
    (htx : (s.lanes.get lane).tx = .idle) (hrx : (s.lanes.get lane).rx = .receiving) :
    exec (.telegramReceived lane intervals) s = .next (s.telegram lane (receive d.bitRate intervals)).settle := by
  rw [← State.dir_of_directory hd]
  exact if_pos ⟨by simp [hd], htx, hrx⟩

end

/-- Settles O37: the count is made as the telegram ends, and what follows counts nothing. -/
theorem telegramIsCounted : Obligations.TelegramIsCounted := by
  intro s lane d intervals hd htx hrx
  let t := receive d.bitRate intervals
  have hlanes : (s.telegram lane t).settle.lanes = (s.telegram lane t).lanes := by simp
  have hkept := s.telegram_counted lane t
  have hcounted : (s.counted lane t).lanes.get lane = _ := s.updateLane_get lane _
  have hother : (s.counted lane t).lanes.get (otherLane lane) = _ := s.updateLane_get_other lane _
  have hsent (l : LaneId) : ((s.counted lane t).lanes.get l).sent = (s.lanes.get l).sent := by
    cases l <;> cases lane <;> rfl
  have hlane := hkept.get lane
  rw [hcounted] at hlane
  have hotherLane := hkept.get (otherLane lane)
  rw [hother] at hotherLane
  refine ⟨_, exec_telegramReceived hd htx hrx, ?_⟩
  rw [hlanes]
  refine ⟨hlane.quiet rfl, hlane.damaged.trans ?_, hotherLane.damaged, fun l => (hkept.get l).sent.trans (hsent l),
    by and_intros <;> simp⟩
  change (s.lanes.get lane).damaged + (if countsDamaged (s.receivingReply lane) (receive d.bitRate intervals) then 1 else 0) = _
  cases receive d.bitRate intervals with
  | none => rfl
  | some q => cases q <;> rfl

end Sys2Proof.Machine

/-! The Station Table and the Point Table at the close of an exchange (R10 to R22, R28 to R30, R39, R42, R43). -/

namespace Sys2Proof.Machine

/-! ### What an outcome makes of a record (R10 to R16, R22) -/

section
variable {r : StationRecord} {q : Reply} {kind : Byte} {channels : Nat}

theorem StationRecord.missed_of_limit (h : r.missLimit ≤ min 15 (r.missCount + 1)) (hhealth : r.health ≠ .mismatch) :
    r.missed.health = .offline := by
  cases hr : r.health with
  | mismatch => exact absurd hr hhealth
  | unknown | online | suspect => simp only [StationRecord.missed, hr, if_pos h]
  | offline => simp only [StationRecord.missed, hr]

theorem StationRecord.missed_of_below (h : min 15 (r.missCount + 1) < r.missLimit) :
    r.missed.health = if r.health = .online then .suspect else r.health := by
  have hnot : ¬ r.missLimit ≤ min 15 (r.missCount + 1) := Nat.not_le.2 h
  cases hr : r.health with
  | unknown | online | suspect =>
    simp only [StationRecord.missed, hr, if_neg hnot]
    rfl
  | offline | mismatch => simp [StationRecord.missed, hr]

theorem StationRecord.identityMatches_iff (hidentity : q.identity = some (kind, channels)) :
    r.identityMatches q = true ↔ kind = r.kind ∧ r.slotCount ≤ channels := by
  simp [StationRecord.identityMatches, hidentity]

/-- A QUERY reply takes the condition byte and clears the misses, whatever its class (R10, R11). -/
theorem StationRecord.queried_common :
    (r.queried q).missCount = 0 ∧ (r.queried q).lastCondition = some q.condition ∧
      (r.queried q).readCursor = r.readCursor ∧ (r.queried q).address = r.address := by
  unfold StationRecord.queried
  dsimp only
  (repeat' split) <;> exact ⟨rfl, rfl, rfl, rfl⟩

theorem StationRecord.queried_of_match (hgood : q.cls = .good) (h : r.identityMatches q = true) :
    (r.queried q).verified = true ∧ (r.queried q).health = .online := by
  simp [StationRecord.queried, hgood, h]

theorem StationRecord.queried_of_mismatch (h : q.cls = .refused ∨ (q.cls = .good ∧ r.identityMatches q = false)) :
    (r.queried q).verified = r.verified ∧ (r.queried q).health = .mismatch := by
  rcases h with h | ⟨hgood, h⟩
  · simp [StationRecord.queried, h]
  · simp [StationRecord.queried, hgood, h]

theorem StationRecord.queried_of_busy (h : q.cls = .busy) :
    (r.queried q).verified = r.verified ∧ (r.queried q).health = r.health := by
  simp [StationRecord.queried, h]

theorem StationRecord.answered_eq (r : StationRecord) (c : Byte) :
    r.answered c =
      { r with
        missCount := 0, lastCondition := some c
        health := if r.health = .suspect ∨ r.health = .offline then .online else r.health } := by
  cases hr : r.health <;> simp [StationRecord.answered, hr]

theorem StationRecord.advance_of_sweep {x : Exchange} (hclaimant : x.claimant = .sweep)
    (h : q.cls = .good ∨ q.cls = .refused) :
    r.advance x q = { r with readCursor := (r.readCursor + x.count) % r.slotCount } :=
  if_pos ⟨hclaimant, by rcases h with h | h <;> rw [h] <;> nofun⟩

theorem StationRecord.advance_of_rests {x : Exchange} (h : x.claimant ≠ .sweep ∨ q.cls = .busy) : r.advance x q = r :=
  if_neg (by rintro ⟨hclaimant, hcls⟩; exact h.elim (· hclaimant) hcls)

end

/-! ### The record applied (R12, R14, R18, R19) -/

section
variable {s : State} {old new : StationRecord} {identity : Option (Byte × Nat)} {learned : Bool}

theorem producesStationResult_iff :
    producesStationResult old.health new.health = true ↔
      (new.health = .online ∧ (old.health = .unknown ∨ old.health = .offline)) ∨
        (new.health = .offline ∧ old.health ≠ .offline) ∨ (new.health = .mismatch ∧ old.health ≠ .mismatch) := by
  cases hnew : new.health <;> simp [producesStationResult]

/-- The qualities of the window follow the change of health (R10, R14). -/
theorem State.markHealth_of_offline (hnew : new.health = .offline) (hold : old.health ≠ .offline) :
    s.markHealth old new = s.updateStationWindow Point.markStale new := by
  simp [State.markHealth, producesStationResult, hnew, hold]

theorem State.markHealth_of_mismatch (hnew : new.health = .mismatch) (hold : old.health ≠ .mismatch) :
    s.markHealth old new = s.updateStationWindow Point.markBad new := by
  simp [State.markHealth, producesStationResult, hnew, hold]

theorem State.markHealth_of_neither (hoffline : ¬ (new.health = .offline ∧ old.health ≠ .offline))
    (hmismatch : ¬ (new.health = .mismatch ∧ old.health ≠ .mismatch)) : s.markHealth old new = s := by
  unfold State.markHealth
  split
  next hproduces =>
    rcases producesStationResult_iff.1 hproduces with ⟨h, -⟩ | h | h
    · rw [h]
    · exact absurd h hoffline
    · exact absurd h hmismatch
  next => rfl

/-- The state with the record changed and its window's qualities, before the STATION result (R12). -/
def State.recorded (old new : StationRecord) (s : State) : State :=
  (s.updateStation old.address (fun _ => new)).markHealth old new

theorem State.recorded_hosting : (s.recorded old new).hosting = s.hosting := by
    simp [State.recorded, State.hosting, State.running, State.draining]

theorem State.changeRecord_of_rests (h : producesStationResult old.health new.health = false ∨ ¬ s.Hosting) :
    s.changeRecord old new identity learned = s.recorded old new := by
  refine if_neg ?_
  rw [← State.recorded, State.recorded_hosting, Bool.and_eq_true, s.hosting_iff]
  rintro ⟨hproduces, hhosting⟩
  rcases h with h | h
  · simp [h] at hproduces
  · exact h hhosting

theorem State.changeRecord_of_produced (h : producesStationResult old.health new.health = true) (hhosting : s.Hosting) :
    s.changeRecord old new identity learned =
      if learned then (s.recorded old new).stage (.station (stationResult old new identity learned))
      else (s.recorded old new).stageReserved (.station (stationResult old new identity learned)) := by
  refine if_pos ?_
  rw [← State.recorded, State.recorded_hosting, Bool.and_eq_true, s.hosting_iff]
  exact ⟨h, hhosting⟩

theorem State.changeRecord_points : (s.changeRecord old new identity learned).points = (s.recorded old new).points := by
  unfold State.changeRecord
  rw [← State.recorded]
  dsimp only
  split
  · split <;> simp
  · rfl

/-- What the change of a record does to each point (R10, R14). -/
theorem State.recorded_point (s : State) (old new : StationRecord) {slot : Nat} (hslot : slot < 384) :
    let inside : Prop := new.firstSlot ≤ slot ∧ slot < new.firstSlot + new.slotCount
    let toOffline : Prop := new.health = .offline ∧ old.health ≠ .offline
    let toMismatch : Prop := new.health = .mismatch ∧ old.health ≠ .mismatch
    (toOffline → inside → (s.recorded old new).point slot = (s.point slot).markStale) ∧
      (toMismatch → inside → (s.recorded old new).point slot = (s.point slot).markBad) ∧
      (¬ toOffline → ¬ toMismatch → (s.recorded old new).point slot = s.point slot) ∧
      (¬ inside → (s.recorded old new).point slot = s.point slot) := by
  intro inside toOffline toMismatch
  have hwindowed (f : Point → Point) :
      ((s.updateStation old.address (fun _ => new)).updateStationWindow f new).point slot =
        if inside then f (s.point slot) else s.point slot := updateWindow_at f _ _ _ _ hslot
  have hrests (hoffline : ¬ toOffline) (hmismatch : ¬ toMismatch) : (s.recorded old new).point slot = s.point slot := by
    rw [State.recorded, State.markHealth_of_neither hoffline hmismatch]
    rfl
  refine ⟨fun ⟨hnew, hold⟩ hin => ?_, fun ⟨hnew, hold⟩ hin => ?_, hrests, fun hout => ?_⟩
  · rw [State.recorded, State.markHealth_of_offline hnew hold, hwindowed, if_pos hin]
  · rw [State.recorded, State.markHealth_of_mismatch hnew hold, hwindowed, if_pos hin]
  · by_cases hoffline : toOffline
    · rw [State.recorded, State.markHealth_of_offline hoffline.1 hoffline.2, hwindowed, if_neg hout]
    · by_cases hmismatch : toMismatch
      · rw [State.recorded, State.markHealth_of_mismatch hmismatch.1 hmismatch.2, hwindowed, if_neg hout]
      · exact hrests hoffline hmismatch

end

/-! ### The readings of a reply (R28, R42, R43) -/

section
variable {s : State} {station : Nat} {learned : Bool} {sweepCount : Word} {changes : List Change}

theorem State.stageChanges_of_rests
    (h : changes = [] ∨ ¬ s.Hosting ∨ (learned = true ∧ 6 ≤ s.rpu.staging.length + s.bar.reserved)) :
    s.stageChanges station learned changes = s := by
  unfold State.stageChanges
  rcases h with rfl | h | ⟨rfl, hfull⟩
  · rfl
  · exact if_pos (by rw [← s.hosting_iff] at h; simp [h])
  · have hroom : ¬ 0 < s.freePlaces := by
      rw [s.freePlaces_pos_iff]
      omega
    simp only [if_neg hroom, if_true, ite_self]

theorem State.stageChanges_of_staged (hchanges : changes ≠ []) (hhosting : s.Hosting)
    (h : learned = false ∨ s.rpu.staging.length + s.bar.reserved < 6) :
    s.stageChanges station learned changes =
      { s with
        rpu.staging := s.rpu.staging ++ [.change (changeResult station learned s.swe.sweepCount changes)]
        bar.reserved := if learned then s.bar.reserved else s.bar.reserved - 1 } := by
  refine (if_neg (by simp [hchanges, s.hosting_iff.2 hhosting])).trans ?_
  cases learned with
  | false => rfl
  | true =>
    have hroom : 0 < s.freePlaces := s.freePlaces_pos_iff.2 (h.resolve_left nofun)
    dsimp only
    rw [if_pos rfl, if_pos hroom]
    rfl

theorem changeResult_oldValue (h : 2 ≤ changes.length) :
    (changeResult station learned sweepCount changes).oldValue = none := by
  unfold changeResult
  dsimp only
  split
  next => simp at h
  next => rfl

/-! No outcome moves the turn token (R104). -/

@[simp] theorem State.stageReserved_token (s : State) (r : Result) : (s.stageReserved r).bar.token = s.bar.token := by
  simp [State.stageReserved]

@[simp] theorem State.changeRecord_token (s : State) (old new : StationRecord) (identity : Option (Byte × Nat))
    (learned : Bool) :
    (s.changeRecord old new identity learned).bar.token = s.bar.token := by
  unfold State.changeRecord
  dsimp only
  (repeat' split) <;> simp

@[simp] theorem State.stageChanges_token (s : State) (station : Nat) (learned : Bool) (changes : List Change) :
    (s.stageChanges station learned changes).bar.token = s.bar.token := by
  unfold State.stageChanges
  dsimp only
  (repeat' split) <;> simp

@[simp] theorem State.conditionReply_token (s : State) (r : StationRecord) (learned : Bool)
    (readings : List (Nat × Word)) :
    (s.conditionReply r learned readings).1.bar.token = s.bar.token := by
  simp [State.conditionReply]

@[simp] theorem State.deliver_token (s : State) (x : Exchange) (o : ExchangeOutcome) :
    (s.deliver x o).1.bar.token = s.bar.token := by
  unfold State.deliver
  dsimp only
  (repeat' split) <;> simp [State.markRefused]

theorem State.closed_bar (x : Exchange) (o : ExchangeOutcome) : (s.closed x o).bar = { s.bar with reserved := 0 } :=
  congrArg (fun token => ({ token := token, reserved := 0 } : Arbiter)) (s.deliver_token x o)

theorem State.told_bar (x : Exchange) (o : ExchangeOutcome) (reports : List ValueEntry) :
    (s.told x o reports).bar = s.bar := by
  unfold State.told
  split <;> simp

theorem State.told_rpu {x : Exchange} (h : x.claimant ≠ .sweep) (o : ExchangeOutcome) (reports : List ValueEntry) :
    (s.told x o reports).rpu = s.rpu := by
  unfold State.told
  split
  next => simp
  next hclaimant => exact absurd hclaimant h
  next => rfl

end

/-- The points after the readings of a reply: each mapped one conditioned by its own value (R28). -/
theorem State.conditionReply_point (s : State) {r : StationRecord} (learned : Bool) (first : Nat) (values : List Word)
    (hwindow : r.firstSlot + r.slotCount ≤ 384) {slot : Nat} (hslot : slot < 384) :
    (s.conditionReply r learned (readingsOf first values)).1.point slot =
      if r.firstSlot + first ≤ slot ∧ slot < r.firstSlot + min (first + values.length) r.slotCount then
        (conditionPoint s.swe.sweepCount (s.point slot) (values.getD (slot - (r.firstSlot + first)) 0)).point
      else s.point slot := by
  have hpoint : (s.conditionReply r learned (readingsOf first values)).1.point slot =
      pointAt ((readingsOf first values).foldl (Conditioned.step s.swe.sweepCount r)
        { points := s.points, reports := [], changes := [] }).points slot := by
    simp [State.conditionReply, State.point_eq]
  rw [hpoint]
  exact (Conditioned.foldl_step s.swe.sweepCount r hwindow values first _).1 slot hslot

/-- Settles O42: the record's equations, the change applied, and the readings conditioned, up to the close. -/
theorem missesAndQueries : Obligations.MissesAndQueries := by
  refine ⟨fun r => ⟨rfl, StationRecord.missed_of_limit, StationRecord.missed_of_below, rfl⟩, fun r q => ?_,
    StationRecord.answered_eq, fun r x q => ⟨StationRecord.advance_of_sweep, StationRecord.advance_of_rests⟩,
    fun s old new identity learned hwindow => ?_, fun s r learned first values hwindow => ?_,
    fun s x o h => State.deliver_of_quiet h, fun s x r hr => ?_, fun s x o => ?_⟩
  · obtain ⟨hmisses, hcondition, hcursor, haddress⟩ := r.queried_common (q := q)
    refine ⟨hmisses, hcondition, hcursor, haddress, fun kind channels hgood hidentity hkind hchannels => ?_,
      fun kind channels hgood hidentity hother => ?_, fun hrefused => ?_, StationRecord.queried_of_busy⟩
    · exact StationRecord.queried_of_match hgood ((StationRecord.identityMatches_iff hidentity).2 ⟨hkind, hchannels⟩)
    · refine StationRecord.queried_of_mismatch (.inr ⟨hgood, Bool.eq_false_iff.2 ?_⟩)
      rw [Ne, StationRecord.identityMatches_iff hidentity]
      exact fun ⟨hkind, hchannels⟩ => hother.elim (· hkind) (Nat.not_lt.2 hchannels)
    · exact StationRecord.queried_of_mismatch (.inl hrefused)
  · intro toOnline toOffline toMismatch produced t
    refine ⟨by simp [t], fun slot hslot => ?_, fun hproduced hhosting => ?_, fun h => ?_, by and_intros <;> simp [t]⟩
    · intro inside
      have hpoint : t.point slot = (s.recorded old new).point slot := by
        rw [State.point_eq, State.changeRecord_points]
        rfl
      obtain ⟨hstale, hbad, hneither, houtside⟩ := s.recorded_point old new hslot
      rw [hpoint]
      refine ⟨fun hoff hin hfresh => (hstale hoff hin).trans (if_pos hfresh), fun hmis hin => hbad hmis hin, fun h => ?_⟩
      rcases h with ⟨hoff, hmis⟩ | hout | ⟨hoff, hstays⟩
      · exact hneither hoff hmis
      · exact houtside hout
      · by_cases hin : inside
        · exact (hstale hoff hin).trans (if_neg hstays)
        · exact houtside hin
    · have hchanged := State.changeRecord_of_produced (identity := identity) (learned := learned)
        (producesStationResult_iff.2 hproduced) hhosting
      obtain ⟨changed, holdTimer, hstage⟩ := (s.recorded old new).stage_eq (.station (stationResult old new identity learned))
      cases learned with
      | true =>
        rw [if_pos rfl, hstage] at hchanged
        simp only [t, hchanged, State.recorded]
        exact ⟨by simp; rfl, by simp [Result.event?, EventSummary.with], by simp⟩
      | false =>
        rw [if_neg (by nofun), State.stageReserved, hstage] at hchanged
        simp only [t, hchanged, State.recorded]
        exact ⟨by simp; rfl, by simp [Result.event?, EventSummary.with], by simp⟩
    · have hrests := State.changeRecord_of_rests (identity := identity) (learned := learned) (old := old) (new := new)
        (h.imp_left fun h => Bool.eq_false_iff.2 (mt producesStationResult_iff.1 h))
      simp only [t, hrests, State.recorded]
      simp
  · intro t mapped reading entry changes
    let c :=
      (readingsOf first values).foldl (Conditioned.step s.swe.sweepCount r)
        { points := s.points, reports := [], changes := [] }
    let u : State := { s with points := c.points }
    have ht : t = u.stageChanges r.address learned c.changes := rfl
    obtain ⟨-, hreports, hchanges⟩ := Conditioned.foldl_step s.swe.sweepCount r hwindow values first
      { points := s.points, reports := [], changes := [] }
    have hcollected : c.changes = changes := by
      refine hchanges.trans ((List.nil_append _).trans ?_)
      refine Eq.trans (List.flatMap_congr fun p _ => ?_) (List.filterMap_eq_flatMap_toList _ _).symm
      change (reading p.1 p.2).collected p.1 p.2 = _
      rcases hchange : (reading p.1 p.2).change with _ | ⟨cause, old⟩
      · simp only [Reading.collected, hchange]
        rfl
      · cases cause <;>
        · simp only [Reading.collected, hchange]
          rfl
    refine ⟨fun slot hslot => s.conditionReply_point learned first values hwindow hslot, hreports, fun h => ?_,
      fun hsome hhosting h => ?_, by and_intros <;> simp [t]⟩
    · rw [ht, hcollected, State.stageChanges_of_rests (s := u) h]
      exact ⟨rfl, rfl⟩
    · rw [ht, hcollected, State.stageChanges_of_staged (s := u) hsome hhosting h]
      refine ⟨changeResult r.address learned s.swe.sweepCount changes, rfl, rfl, rfl, ?_, ?_, rfl, fun k hk => ?_, rfl,
        rfl, fun k hk => ?_, fun hmany => ?_, rfl⟩
      · simp [changeResult]
      · simp [changeResult]
      · simp [changeResult, hk]
      · simp [changeResult, hk]
      · exact changeResult_oldValue hmany
  · refine ⟨by simp only [State.deliver, hr], fun hverb q => by simp only [State.deliver, hr, hverb], fun hverb q => ?_,
      fun hverb q => ?_⟩
    · intro t
      refine ⟨fun hcls => by simp only [State.deliver, hr, hverb, hcls, t],
        fun hcls => by simp only [State.deliver, hr, hverb, hcls, t],
        fun hcls hwindow hnamed => ?_⟩
      have hdeliver : s.deliver x (.reply q) = (t.markRefused r x.first x.count, []) := by
        simp only [State.deliver, hr, hverb, hcls, t]
      rw [hdeliver]
      refine ⟨rfl, rfl, rfl, rfl, fun slot hslot => ?_⟩
      have hcount : min x.count (r.slotCount - x.first) = x.count := by omega
      rw [State.point_eq, State.markRefused, hcount]
      exact updateWindow_at Point.markBad _ _ _ _ hslot
    · intro t
      refine ⟨fun hcls => by simp only [State.deliver, hr, hverb, hcls, t], fun hcls => ?_⟩
      rcases hcls with hcls | hcls <;> simp only [State.deliver, hr, hverb, hcls, t]
  · intro t
    have ht : t = _ := s.closeExchange_eq x o
    refine ⟨by simp [ht, State.closed_stations], by simp [ht, State.closed_points], by simp [ht], ?_,
      fun hclaimant => ?_, by simp [t]⟩
    · rw [ht, State.afterClose_bar, State.told_bar, State.closed_bar]
    · rw [ht, State.afterClose_rpu, State.told_rpu hclaimant]
      rfl

end Sys2Proof.Machine

/-! The overheard exchange (R86, R87, R127, R128). -/

namespace Sys2Proof.Machine

section
variable {s : State} {o : Overheard} {lane : LaneId} {l m : OverLane} {q r p : Reply}

@[simp] theorem Overheard.setLane_lane : (o.setLane lane l).lane lane = some l := by cases lane <;> rfl
@[simp] theorem Overheard.setLane_lane_other : (o.setLane lane l).lane (otherLane lane) = o.lane (otherLane lane) := by
  cases lane <;> rfl
@[simp] theorem Overheard.setLane_request : (o.setLane lane l).request = o.request := by cases lane <;> rfl

/-- The reply recorded on a lane of the overheard exchange, if the lane is in it. -/
def Overheard.reply? (o : Overheard) (lane : LaneId) : Option Reply := (o.lane lane).bind OverLane.recorded?

theorem OverLane.recorded?_eq_some_iff : l.recorded? = some r ↔ l.result = .recorded r := by
  cases hl : l.result <;> simp [OverLane.recorded?, hl]

theorem OverLane.recorded?_eq_none_iff : l.recorded? = none ↔ ∀ r, l.result ≠ .recorded r := by
  cases hl : l.result <;> simp [OverLane.recorded?, hl]

theorem Overheard.reply?_of_lane (h : o.lane lane = some l) : o.reply? lane = l.recorded? := by simp [Overheard.reply?, h]

theorem Overheard.reply?_of_none (h : o.lane lane = none) : o.reply? lane = none := by simp [Overheard.reply?, h]

theorem Overheard.reply?_eq_some_iff : o.reply? lane = some r ↔ ∃ m, o.lane lane = some m ∧ m.result = .recorded r := by
  simp only [Overheard.reply?, Option.bind_eq_some_iff, OverLane.recorded?_eq_some_iff]

/-- One reply, or the same on both lanes, is handed on (R87). -/
theorem Overheard.pair?_of_reply (h : o.reply? lane = some r) (hother : ∀ p, o.reply? (otherLane lane) = some p → p = r) :
    o.pair? = some r := by
  unfold Overheard.pair?
  cases lane with
  | a =>
    change o.laneA.bind OverLane.recorded? = some r at h
    cases hb : o.laneB.bind OverLane.recorded? with
    | none => simp only [h]
    | some p => simp only [h, hother p hb, if_true]
  | b =>
    change o.laneB.bind OverLane.recorded? = some r at h
    cases ha : o.laneA.bind OverLane.recorded? with
    | none => simp only [h]
    | some p => simp only [h, hother p ha, if_true]

theorem Overheard.pair?_of_disagreement (h : o.reply? lane = some r) (hother : o.reply? (otherLane lane) = some p)
    (hne : p ≠ r) : o.pair? = none := by
  unfold Overheard.pair?
  cases lane with
  | a =>
    change o.laneA.bind OverLane.recorded? = some r at h
    change o.laneB.bind OverLane.recorded? = some p at hother
    simp only [h, hother, if_neg hne.symm]
  | b =>
    change o.laneB.bind OverLane.recorded? = some r at h
    change o.laneA.bind OverLane.recorded? = some p at hother
    simp only [h, hother, if_neg hne]

theorem Overheard.pair?_of_silence (h : o.reply? lane = none) (hother : o.reply? (otherLane lane) = none) : o.pair? = none := by
  unfold Overheard.pair?
  cases lane with
  | a =>
    change o.laneA.bind OverLane.recorded? = none at h
    change o.laneB.bind OverLane.recorded? = none at hother
    simp only [h, hother]
  | b =>
    change o.laneB.bind OverLane.recorded? = none at h
    change o.laneA.bind OverLane.recorded? = none at hother
    simp only [h, hother]

theorem State.closeOverheard_of_pair (h : o.pair? = some r) :
    s.closeOverheard o = { s with exu.overheard := none }.overheardPair o.request r := by
  simp only [State.closeOverheard, h]

theorem State.closeOverheard_of_none (h : o.pair? = none) : s.closeOverheard o = { s with exu.overheard := none } := by
  simp only [State.closeOverheard, h]

theorem OverLane.isWaiting_iff : l.isWaiting = true ↔ l.result = .waiting := by simp [OverLane.isWaiting]

theorem Overheard.settled_setLane :
    (o.setLane lane l).settled = (!l.isWaiting && !(o.lane (otherLane lane)).any OverLane.isWaiting) := by
  cases lane
  · rfl
  · exact Bool.and_comm _ _

/-- While the other lane waits, the overheard exchange stays open (R87). -/
theorem State.setOverResult_of_waiting (hm : o.lane (otherLane lane) = some m) (hresult : m.result = .waiting) :
    s.setOverResult o lane l = { s with exu.overheard := some (o.setLane lane l) } := by
  refine if_neg ?_
  simp [Overheard.settled_setLane, hm, OverLane.isWaiting_iff.2 hresult]

/-- The last result closes the overheard exchange (R87). -/
theorem State.setOverResult_of_last (hl : l.result ≠ .waiting)
    (hother : ∀ m, o.lane (otherLane lane) = some m → m.result ≠ .waiting) :
    s.setOverResult o lane l = s.closeOverheard (o.setLane lane l) := by
  refine if_pos ?_
  rw [Overheard.settled_setLane, Bool.and_eq_true, Bool.not_eq_true', Bool.not_eq_true', ← Bool.not_eq_true,
    ← Bool.not_eq_true, OverLane.isWaiting_iff]
  refine ⟨hl, fun hany => ?_⟩
  cases hm : o.lane (otherLane lane) with
  | none => simp [hm] at hany
  | some m => exact hother m hm (OverLane.isWaiting_iff.1 (by simpa [hm] using hany))

theorem Overheard.reply?_set : (o.setLane lane l).reply? lane = l.recorded? := Overheard.reply?_of_lane Overheard.setLane_lane

theorem Overheard.reply?_set_other : (o.setLane lane l).reply? (otherLane lane) = o.reply? (otherLane lane) := by
  simp [Overheard.reply?]

theorem Overheard.none_waits (h : o.lane lane = none) : ∀ m, o.lane lane = some m → m.result ≠ .waiting := by simp [h]

theorem Overheard.one_rests (h : o.lane lane = some m) (hresult : m.result ≠ .waiting) :
    ∀ n, o.lane lane = some n → n.result ≠ .waiting := by simp [h, hresult]

theorem Overheard.reply?_of_recorded (h : o.lane lane = some m) (hresult : m.result = .recorded r) : o.reply? lane = some r :=
  Overheard.reply?_eq_some_iff.2 ⟨m, h, hresult⟩

theorem Overheard.reply?_of_unrecorded (h : o.lane lane = some m) (hresult : m.result = .silent ∨ m.result = .spoiled) :
    o.reply? lane = none := by
  rw [Overheard.reply?_of_lane h, OverLane.recorded?_eq_none_iff]
  rcases hresult with hresult | hresult <;> rw [hresult] <;> nofun

/-- The last lane records a reply: handed on unless the other lane's differs (R87). -/
theorem State.setOverResult_of_recorded (hl : l.result = .recorded q)
    (hother : ∀ m, o.lane (otherLane lane) = some m → m.result ≠ .waiting) :
    ((∀ p, o.reply? (otherLane lane) = some p → p = q) →
        s.setOverResult o lane l = { s with exu.overheard := none }.overheardPair o.request q) ∧
      (∀ p, o.reply? (otherLane lane) = some p → p ≠ q → s.setOverResult o lane l = { s with exu.overheard := none }) := by
  have hlast : s.setOverResult o lane l = s.closeOverheard (o.setLane lane l) :=
    State.setOverResult_of_last (by rw [hl]; nofun) hother
  have hreply : (o.setLane lane l).reply? lane = some q := Overheard.reply?_set.trans (OverLane.recorded?_eq_some_iff.2 hl)
  refine ⟨fun hsame => ?_, fun p hp hne => ?_⟩
  · rw [hlast, State.closeOverheard_of_pair (Overheard.pair?_of_reply hreply (by rwa [Overheard.reply?_set_other])),
      Overheard.setLane_request]
  · rw [hlast, State.closeOverheard_of_none
      (Overheard.pair?_of_disagreement hreply (Overheard.reply?_set_other.trans hp) hne)]

/-- The last lane records nothing: the other lane's reply, if any, is handed on (R87). -/
theorem State.setOverResult_of_unrecorded (hl : l.result = .silent ∨ l.result = .spoiled)
    (hother : ∀ m, o.lane (otherLane lane) = some m → m.result ≠ .waiting) :
    (o.reply? (otherLane lane) = none → s.setOverResult o lane l = { s with exu.overheard := none }) ∧
      (∀ p, o.reply? (otherLane lane) = some p →
        s.setOverResult o lane l = { s with exu.overheard := none }.overheardPair o.request p) := by
  have hlast : s.setOverResult o lane l = s.closeOverheard (o.setLane lane l) :=
    State.setOverResult_of_last (by rcases hl with hl | hl <;> rw [hl] <;> nofun) hother
  have hreply : (o.setLane lane l).reply? lane = none :=
    Overheard.reply?_set.trans (OverLane.recorded?_eq_none_iff.2 (by rcases hl with hl | hl <;> rw [hl] <;> nofun))
  refine ⟨fun hnone => ?_, fun p hp => ?_⟩
  · rw [hlast, State.closeOverheard_of_none (Overheard.pair?_of_silence hreply (Overheard.reply?_set_other.trans hnone))]
  · have hback : otherLane (otherLane lane) = lane := by cases lane <;> rfl
    rw [hlast, State.closeOverheard_of_pair (r := p)
      (Overheard.pair?_of_reply (lane := otherLane lane) (Overheard.reply?_set_other.trans hp) (by rw [hback, hreply]; nofun)),
      Overheard.setLane_request]

end

/-! ### What is learned (R127) -/

section
variable {s : State} {q : Request} {r : Reply} {rec : StationRecord}

theorem State.learns_iff :
    s.learns q r rec = true ↔
      s.dir.listenLearn = true ∧ q.verb = .fetch ∧ r.cls = .good ∧ rec.verified = true ∧ rec.health ≠ .mismatch ∧
        (s.Hosting → s.rpu.staging.length + s.bar.reserved < 6) := by
  rw [← s.hosting_iff, ← s.freePlaces_pos_iff]
  cases hhosting : s.hosting <;> simp [State.learns, hhosting, and_assoc]

theorem State.overheardPair_of_unknown (h : s.station? q.address = none) : s.overheardPair q r = s := by
  simp only [State.overheardPair, h]

theorem State.overheardPair_of_station (h : s.station? q.address = some rec) :
    s.overheardPair q r =
      if s.learns q r rec then
        ((s.changeRecord rec (rec.answered r.condition) none true).conditionReply rec true (readingsOf q.first r.values)).1
      else s := by
  simp only [State.overheardPair, h]

end

/-! ### What is heard in LISTEN (R86) -/

section
variable {s : State} {lane : LaneId}

theorem State.receivingReply_eq_false (h : ∀ x, s.exu.exchange = some x → x.part lane ≠ .receiving) :
    s.receivingReply lane = false := by
  cases hx : s.exu.exchange with
  | none => simp [State.receivingReply, hx]
  | some x => simp [State.receivingReply, hx, h x hx]

/-- A telegram outside an own reply window is heard, in LISTEN, by the overheard exchange (R74, R86). -/
theorem State.telegram_of_listen (hrole : s.msu.role = .listen) (h : ∀ x, s.exu.exchange = some x → x.part lane ≠ .receiving)
    (t : Option Telegram) :
    s.telegram lane t =
      (s.updateLane lane (fun c => { c with rx := .quiet, damaged := c.damaged + if t = none then 1 else 0 })).overhear
        lane t := by
  have hown := State.receivingReply_eq_false h
  have hdamage : (if countsDamaged false t then (1 : Word) else 0) = if t = none then 1 else 0 := by
    cases t with
    | none => rfl
    | some q => cases q <;> rfl
  have hcounted : s.counted lane t =
      s.updateLane lane (fun c => { c with rx := .quiet, damaged := c.damaged + if t = none then 1 else 0 }) := by
    rw [State.counted, hown, hdamage]
  rw [State.telegram_eq, hown, if_neg (by nofun), hcounted]
  simp only [State.heard, State.updateLane_msu, hrole]

/-- The first telegram of a lane's overheard window decides the lane's result (R86). -/
theorem State.overhearReply_of_first {o : Overheard} {l : OverLane} (ho : s.exu.overheard = some o)
    (hl : o.lane lane = some l) (hresult : l.result = .waiting) (hreceiving : l.receiving = true) (t : Option Reply) :
    s.overhearReply lane t =
      s.setOverResult o lane
        { l with
          result :=
            (t.filter (replyMatches o.request.address o.request.seq o.request.verb o.request.count)).elim .spoiled .recorded
          receiving := false } := by
  simp only [State.overhearReply, ho, hl, hreceiving, OverLane.isWaiting_iff.2 hresult, Bool.and_self, if_true]
  cases t with
  | none => rfl
  | some r =>
    cases hmatch : replyMatches o.request.address o.request.seq o.request.verb o.request.count r <;>
      simp [Option.filter, hmatch]

theorem replyMatches_iff {address : Nat} {seq : BitVec 3} {verb : Verb} {count : Nat} {q : Reply} :
    replyMatches address seq verb count q = true ↔
      q.address = address ∧ q.seq = seq ∧ q.verb = verb ∧ q.count = count := by
  simp [replyMatches, and_assoc]

theorem replyMatches_eq_false_iff {address : Nat} {seq : BitVec 3} {verb : Verb} {count : Nat} {q : Reply} :
    replyMatches address seq verb count q = false ↔
      q.address ≠ address ∨ q.seq ≠ seq ∨ q.verb ≠ verb ∨ q.count ≠ count := by
  rw [← Bool.not_eq_true, replyMatches_iff]
  tauto

end

/-- Settles O40: a window that runs out, the telegram heard in one, a request heard, and what a pair teaches. -/
theorem overheardWindowExpires : Obligations.OverheardWindowExpires := by
  refine ⟨fun s o lane l ho hl hresult hopen => ?_, fun s d o lane l intervals hd htx hrx hrole hown ho hl hresult hreceiving hreply => ?_,
    fun s d lane intervals q hd htx hrx hrole hown hq => ?_, fun s lane q => ?_, fun s q r => ?_⟩
  · intro other closed
    have hexec : exec (.overheardWindowExpiry lane) s =
        if l.receiving then .next { s with exu.overheard := some (o.setLane lane { l with windowExpired := true }) }
        else .next (s.setOverResult o lane { l with result := .silent, windowExpired := true }).settle := by
      change execOverheardWindowExpiry lane s = _
      simp only [execOverheardWindowExpiry, ho, hl, hopen, OverLane.isWaiting_iff.2 hresult]
      rfl
    refine ⟨fun hreceiving => ?_, fun hreceiving => by rw [hexec, if_pos hreceiving]⟩
    rw [hexec, if_neg (by simp [hreceiving])]
    have hlast (hother : ∀ m, other = some m → m.result ≠ .waiting) :=
      State.setOverResult_of_unrecorded (s := s) (l := { l with result := .silent, windowExpired := true }) (.inl rfl) hother
    refine ⟨fun hnone => ?_, fun m hm => ⟨fun hm' => ?_, fun q hq => ?_, fun hwaits => ?_⟩⟩
    · rw [(hlast (Overheard.none_waits hnone)).1 (Overheard.reply?_of_none hnone)]
    · rw [(hlast (Overheard.one_rests hm (by rcases hm' with h | h <;> rw [h] <;> nofun))).1
        (Overheard.reply?_of_unrecorded hm hm')]
    · rw [(hlast (Overheard.one_rests hm (by rw [hq]; nofun))).2 q (Overheard.reply?_of_recorded hm hq)]
    · rw [State.setOverResult_of_waiting hm hwaits]
  · intro other heard closed outcome
    have hexec : exec (.telegramReceived lane intervals) s = .next (heard.overhear lane (receive d.bitRate intervals)).settle := by
      rw [exec_telegramReceived hd htx hrx, State.telegram_of_listen hrole hown]
    have hfirst := State.overhearReply_of_first (s := heard) (by simp [heard, ho]) hl hresult hreceiving
    refine ⟨fun q hq haddress hseq hverb hcount => ?_, fun hspoiled => ?_⟩
    · let k : OverLane := { l with result := .recorded q, receiving := false }
      have hset : outcome (heard.setOverResult o lane k) := by
        change _ = _
        rw [hexec, hq, State.overhear, hfirst, Option.filter_some, if_pos (replyMatches_iff.2 ⟨haddress, hseq, hverb, hcount⟩)]
        rfl
      have hlast (hother : ∀ m, other = some m → m.result ≠ .waiting) :=
        State.setOverResult_of_recorded (s := heard) (l := k) (q := q) rfl hother
      refine ⟨fun hnone => ?_, fun m hm => ⟨fun hwaits => ?_, fun hm' => ?_, fun p hp hne => ?_⟩⟩
      · rwa [(hlast (Overheard.none_waits hnone)).1 (by rw [Overheard.reply?_of_none hnone]; nofun)] at hset
      · rwa [State.setOverResult_of_waiting hm hwaits] at hset
      · have hsame : ∀ p, o.reply? (otherLane lane) = some p → p = q := by
          intro p hp
          rcases hm' with h | h | h
          · simp [Overheard.reply?_of_unrecorded hm (.inl h)] at hp
          · simp [Overheard.reply?_of_unrecorded hm (.inr h)] at hp
          · exact Option.some.inj (hp.symm.trans (Overheard.reply?_of_recorded hm h))
        rwa [(hlast (Overheard.one_rests hm (by rcases hm' with h | h | h <;> rw [h] <;> nofun))).1 hsame] at hset
      · rwa [(hlast (Overheard.one_rests hm (by rw [hp]; nofun))).2 p (Overheard.reply?_of_recorded hm hp) hne] at hset
    · let k : OverLane := { l with result := .spoiled, receiving := false }
      have hset : outcome (heard.setOverResult o lane k) := by
        change _ = _
        rcases hspoiled with hdamaged | ⟨q, hq, hdiffers⟩
        · rw [hexec, hdamaged, State.overhear, hfirst]
          rfl
        · rw [hexec, hq, State.overhear, hfirst, Option.filter_some,
            if_neg (Bool.eq_false_iff.1 (replyMatches_eq_false_iff.2 hdiffers))]
          rfl
      have hlast (hother : ∀ m, other = some m → m.result ≠ .waiting) :=
        State.setOverResult_of_unrecorded (s := heard) (l := k) (.inr rfl) hother
      refine ⟨fun hnone => ?_, fun m hm => ⟨fun hwaits => ?_, fun hm' => ?_, fun p hp => ?_⟩⟩
      · rwa [(hlast (Overheard.none_waits hnone)).1 (Overheard.reply?_of_none hnone)] at hset
      · rwa [State.setOverResult_of_waiting hm hwaits] at hset
      · rwa [(hlast (Overheard.one_rests hm (by rcases hm' with h | h <;> rw [h] <;> nofun))).1
          (Overheard.reply?_of_unrecorded hm hm')] at hset
      · rwa [(hlast (Overheard.one_rests hm (by rw [hp]; nofun))).2 p (Overheard.reply?_of_recorded hm hp)] at hset
  · rw [exec_telegramReceived hd htx hrx, hq, State.telegram_of_listen hrole hown]
    simp [State.overhear]
  · intro fresh anew opens closed
    have hopen (t : State) : t.openOverheard lane q = opens t := by
      have hanew : ({ request := q, firstLane := lane, laneA := none, laneB := none, lateA := false, lateB := false } :
          Overheard).setLane lane fresh = anew := by
        cases lane <;> rfl
      have hwithin : within 1 Config.maxStationAddress q.address = true ↔ 1 ≤ q.address ∧ q.address ≤ 125 :=
        within_eq_true_iff _ _ _
      simp only [State.openOverheard, OverLane.fresh, hwithin]
      rw [hanew]
    refine ⟨fun hnone => ?_, fun o ho => ?_⟩
    · simp only [State.overhearRequest, hnone, hopen]
    · intro copy recorded
      have hcopy : o.isCopy lane q = true ↔ copy := by
        simp [Overheard.isCopy, copy, and_assoc]
      refine ⟨fun h => ?_, fun hnot => ?_⟩
      · simp only [State.overhearRequest, ho, if_pos (hcopy.2 h)]
        rfl
      · have hclose : s.overhearRequest lane q = opens (s.closeOverheard o) := by
          simp only [State.overhearRequest, ho, if_neg (mt hcopy.1 hnot), hopen]
        have hreply (l : LaneId) (r : Reply) : o.reply? l = some r ↔ recorded l r := Overheard.reply?_eq_some_iff
        refine ⟨fun l r hr hother => ?_, fun r p hr hp hne => ?_, fun hsilent => ?_⟩
        · rw [hclose, State.closeOverheard_of_pair
            (Overheard.pair?_of_reply ((hreply l r).2 hr) fun p hp => hother p ((hreply _ p).1 hp))]
        · rw [hclose, State.closeOverheard_of_none
            (Overheard.pair?_of_disagreement (lane := .a) ((hreply .a r).2 hr) ((hreply .b p).2 hp) hne.symm)]
        · have hnone (l : LaneId) : o.reply? l = none :=
            Option.eq_none_iff_forall_ne_some.2 fun r hr => hsilent l r ((hreply l r).1 hr)
          rw [hclose, State.closeOverheard_of_none (Overheard.pair?_of_silence (lane := .a) (hnone .a) (hnone .b))]
  · intro passes
    refine ⟨State.overheardPair_of_unknown, fun rec hrec => ⟨fun hnot => ?_, fun hpasses => ?_⟩⟩
    · rw [State.overheardPair_of_station hrec, if_neg (mt State.learns_iff.1 hnot)]
    · rw [State.overheardPair_of_station hrec, if_pos (State.learns_iff.2 hpasses)]

end Sys2Proof.Machine

/-! The verdict of an attempt, the faults of the lanes, and how an attempt ends (R80, R85, R90 to R93, R97, R117). -/

namespace Sys2Proof.Machine

/-! ### The verdict (R80, R92) -/

theorem verdict_of_equal (r : Reply) : verdict (some (.goodReply r)) (some (.goodReply r)) = .accepted r .a := if_pos rfl

theorem verdict_of_different {r q : Reply} (h : r ≠ q) :
    verdict (some (.goodReply r)) (some (.goodReply q)) = .failed true := if_neg h

theorem verdict_of_one (r : Reply) {o : Option LaneOutcome} (h : ∀ q, o ≠ some (.goodReply q)) :
    verdict (some (.goodReply r)) o = .accepted r .a ∧ verdict o (some (.goodReply r)) = .accepted r .b := by
  rcases o with _ | (_ | _ | q)
  case some.goodReply => exact absurd rfl (h _)
  all_goals exact ⟨rfl, rfl⟩

theorem verdict_of_none {o p : Option LaneOutcome} (ho : ∀ q, o ≠ some (.goodReply q))
    (hp : ∀ q, p ≠ some (.goodReply q)) :
    verdict o p = .failed false := by
  rcases o with _ | (_ | _ | q)
  case some.goodReply => exact absurd rfl (ho _)
  all_goals
    rcases p with _ | (_ | _ | q)
    case some.goodReply => exact absurd rfl (hp _)
    all_goals rfl

/-! ### The lane logic (R90, R91) -/

section
variable {s : State} {x : Exchange} {lane : LaneId}

theorem failure_iff {o : Option LaneOutcome} : failure o = true ↔ o = some .silent ∨ o = some .damaged := by
  rcases o with _ | (_ | _ | q) <;> simp [failure]

/-- All that crediting a lane does (R91). -/
theorem State.credit_cases (s : State) (lane : LaneId) :
    let t := s.credit lane
    t.lanes.get lane = { s.lanes.get lane with up := true, faults := 0 } ∧
      t.lanes.get (otherLane lane) = s.lanes.get (otherLane lane) ∧
      t.lanes.silentWindows = s.lanes.silentWindows ∧ t.lanes.disagreements = s.lanes.disagreements ∧
      t.rpu.events = (if (s.lanes.get lane).up then s.rpu.events else { s.rpu.events with lane := true }) ∧
      t.stations = s.stations ∧ t.exu = s.exu ∧ t.msu = s.msu ∧ t.rpu.staging = s.rpu.staging := by
  intro t
  cases hup : (s.lanes.get lane).up with
  | true =>
    have ht : t = s.updateLane lane (fun l => { l with faults := 0 }) := if_pos hup
    rw [ht, s.updateLane_get, s.updateLane_get_other, if_pos rfl]
    obtain ⟨hsilent, hdisagree⟩ := s.updateLane_counts lane fun l => { l with faults := 0 }
    exact ⟨by rw [← hup], rfl, hsilent, hdisagree, by simp⟩
  | false =>
    have ht : t = (s.updateLane lane (fun l => { l with faults := 0, up := true })).setEvent .lane :=
      if_neg (by simp [hup])
    obtain ⟨hsilent, hdisagree⟩ := s.updateLane_counts lane fun l => { l with faults := 0, up := true }
    rw [ht, State.setEvent_lanes, s.updateLane_get, s.updateLane_get_other, State.setEvent_events, if_neg (by nofun)]
    exact ⟨rfl, rfl, hsilent, hdisagree, by simp [EventSummary.with], by simp⟩

theorem State.charged_of_mirror_failed (hmode : s.dir.laneMode = .mirror) (disagree : Bool) :
    s.charged x (.failed disagree) =
      if disagree then { s with lanes.disagreements := s.lanes.disagreements + 1 } else s := by
  simp only [State.charged, hmode]

theorem State.charged_of_mirror_accepted (hmode : s.dir.laneMode = .mirror) (r : Reply) :
    s.charged x (.accepted r lane) =
      if failure (x.part (otherLane lane)).outcome? then s.blame (otherLane lane) else s := by
  simp only [State.charged, hmode]

theorem State.charged_of_alternate_failed (hmode : s.dir.laneMode = .alternate) (disagree : Bool) :
    s.charged x (.failed disagree) = s := by
  simp only [State.charged, hmode]

theorem State.charged_of_alternate_accepted (hmode : s.dir.laneMode = .alternate) (r : Reply) :
    s.charged x (.accepted r lane) =
      if x.failedOn (otherLane lane) then
        if x.lanePref = otherLane lane then
          (s.blame (otherLane lane)).updateStation x.address (fun q => { q with lanePref := lane })
        else s.blame (otherLane lane)
      else s := by
  simp only [State.charged, hmode]

theorem State.charged_of_singleA (hmode : s.dir.laneMode = .singleA) (v : Verdict) :
    s.charged x v = if x.partA.outcome? = some .damaged then s.blame .a else s := by
  simp only [State.charged, hmode]

theorem State.charged_of_singleB (hmode : s.dir.laneMode = .singleB) (v : Verdict) :
    s.charged x v = if x.partB.outcome? = some .damaged then s.blame .b else s := by
  simp only [State.charged, hmode]

end

/-! ### The end of an attempt (R79, R80) -/

section
variable {s : State} {x y : Exchange} {lane : LaneId} {o : LaneOutcome}

theorem State.mayRetry_iff :
    s.mayRetry x = true ↔ s.msu.role = .active ∧ x.noRetry = false ∧ x.attempt < x.attempts := by
  simp [State.mayRetry, and_assoc]

theorem State.weighAttempt_of_accepted {q : Reply} {on : LaneId}
    (hv : verdict x.partA.outcome? x.partB.outcome? = .accepted q on) :
    s.weighAttempt x = (s.weighed x).closeExchange x (.reply q) := by
  simp only [State.weighAttempt, State.weighed, hv]
  rfl

theorem State.weighAttempt_of_failed {disagree : Bool}
    (hv : verdict x.partA.outcome? x.partB.outcome? = .failed disagree) :
    s.weighAttempt x =
      if s.msu.role = .active ∧ x.noRetry = false ∧ x.attempt < x.attempts then (s.weighed x).retry x
      else (s.weighed x).closeExchange x .miss := by
  have hretry : (s.weighed x).mayRetry x = true ↔ s.msu.role = .active ∧ x.noRetry = false ∧ x.attempt < x.attempts := by
    rw [State.mayRetry_iff, State.weighed_msu]
  have hweigh : s.weighAttempt x =
      if (s.weighed x).mayRetry x then (s.weighed x).retry x else (s.weighed x).closeExchange x .miss := by
    simp only [State.weighAttempt, State.weighed, hv]
    rfl
  rw [hweigh]
  exact if_congr hretry rfl rfl

theorem State.attemptEnd_of_weighed (hverb : x.verb = .fetch ∨ x.verb = .store ∨ x.verb = .query) :
    s.attemptEnd x = s.weighAttempt x := by
  rcases hverb with h | h | h <;> simp only [State.attemptEnd, h]

/-- The part of a lane goes on. -/
theorem LanePart.finished_of_open {p : LanePart} (h : p = .sending ∨ p = .waiting ∨ p = .receiving) :
    p.finished = false := by
  rcases h with rfl | rfl | rfl <;> rfl

theorem LanePart.finished_of_ended {p : LanePart} (h : p = .unused ∨ ∃ o, p = .ended o) : p.finished = true := by
  rcases h with rfl | ⟨o, rfl⟩ <;> rfl

/-- An attempt whose part on a lane has ended goes on with the other, or is weighed (R80). -/
theorem State.checkAttempt_of_ended (hy : s.exu.exchange = some y)
    (hverb : y.verb = .fetch ∨ y.verb = .store ∨ y.verb = .query)
    (hended : y.part lane = .ended o) :
    (y.part (otherLane lane) = .sending ∨ y.part (otherLane lane) = .waiting ∨ y.part (otherLane lane) = .receiving →
        s.checkAttempt = s) ∧
      (y.part (otherLane lane) = .unused ∨ (∃ o, y.part (otherLane lane) = .ended o) →
        s.checkAttempt = s.weighAttempt y) := by
  have hover : y.attemptOver = (y.part (otherLane lane)).finished := by
    cases lane with
    | a =>
      change y.partA = _ at hended
      simp [Exchange.attemptOver, hended, LanePart.finished, otherLane, Exchange.part]
    | b =>
      change y.partB = _ at hended
      simp [Exchange.attemptOver, hended, LanePart.finished, otherLane, Exchange.part]
  refine ⟨fun hopen => ?_, fun hends => ?_⟩
  · exact State.checkAttempt_of_open hy (hover.trans (LanePart.finished_of_open hopen))
  · rw [State.checkAttempt_of_over hy (hover.trans (LanePart.finished_of_ended hends)), State.attemptEnd_of_weighed hverb]

theorem exec_replyWindowExpiry (hx : s.exu.exchange = some x) (hpart : x.part lane = .waiting) :
    exec (.replyWindowExpiry lane) s =
      .next (s.setPart lane (if x.verb = .latch then .closed else .ended .silent)).checkAttempt.settle := by
  change execReplyWindowExpiry lane s = _
  have hopen : s.windowOpen lane = some x := by simp [State.windowOpen, hx, hpart]
  simp only [execReplyWindowExpiry, hopen]
  rfl

/-- A foreign request during a retried exchange forbids the retries where the device yields (R117). -/
theorem State.contest_exchange_of {tag : BitVec 1} (hy : s.exu.exchange = some y) :
    (s.contest tag).exu.exchange =
      some { y with noRetry := y.noRetry || decide (s.dir.masterTag = 1#1 ∧ tag = 0#1) } := by
  unfold State.contest
  dsimp only
  split
  next h => simp [State.leaveActive_exchange, hy, h.1, h.2]
  next h => simp [hy, h]

end

/-- The exchange as a telegram in its own reply window leaves it, counted and judged (R74, R80). -/
theorem State.telegram_of_own {s : State} {x : Exchange} {lane : LaneId} (hx : s.exu.exchange = some x)
    (hpart : x.part lane = .receiving) (t : Option Telegram) :
    s.telegram lane t =
      (({ s.updateLane lane (fun c =>
            { c with rx := .quiet, damaged := c.damaged + if countsDamaged true t then 1 else 0 }) with
          exu.exchange := some (x.setPart lane (.ended (x.judge t))) } : State).heard lane t).checkAttempt := by
  have hown : s.receivingReply lane = true := by simp [State.receivingReply, hx, hpart]
  have hjudged : (s.counted lane t).judgeReply lane t =
      { s.counted lane t with exu.exchange := some (x.setPart lane (.ended (x.judge t))) } := by
    simp [State.judgeReply, hx]
  rw [State.telegram_eq, if_pos hown, hjudged, State.counted, hown]

/-- A matching reply is GOOD, any other telegram DAMAGED (R80). -/
theorem Exchange.judge_of_match {x : Exchange} {q : Reply}
    (h : q.address = x.address ∧ q.seq = x.seq ∧ q.verb = x.verb ∧ q.count = x.count) :
    x.judge (some (.reply q)) = .goodReply q := if_pos (replyMatches_iff.2 h)

theorem Exchange.judge_of_other {x : Exchange} {q : Reply}
    (h : q.address ≠ x.address ∨ q.seq ≠ x.seq ∨ q.verb ≠ x.verb ∨ q.count ≠ x.count) :
    x.judge (some (.reply q)) = .damaged := if_neg (Bool.eq_false_iff.1 (replyMatches_eq_false_iff.2 h))

/-- What a telegram other than a request is to the Mastership Unit (R86, R116). -/
theorem State.heard_of_reply {s : State} {lane : LaneId} {t : Option Telegram} {r : Option Reply}
    (ht : t = r.map .reply) :
    s.heard lane t = if s.msu.role = .listen then s.overhearReply lane r else s := by
  subst ht
  cases r with
  | none => cases hrole : s.msu.role <;> simp [State.heard, State.overhear, hrole]
  | some q => cases hrole : s.msu.role <;> simp [State.heard, State.overhear, hrole]

theorem State.overhearReply_of_none {s : State} (h : s.exu.overheard = none) (lane : LaneId) (r : Option Reply) :
    s.overhearReply lane r = s := by
  simp only [State.overhearReply, h]

/-- Settles O41: the verdict by the outcomes, the attribution by the lane mode, and the end of an attempt by the part that
ends. -/
theorem verdictAndFaults : Obligations.VerdictAndFaults := by
  refine ⟨⟨fun r q h => h ▸ verdict_of_equal r, fun r q h => verdict_of_different h, fun r o h => verdict_of_one r h,
    fun o p ho hp => verdict_of_none ho hp⟩, fun s x => ?_, fun s lane => ⟨fun q => s.credit_cases lane, rfl, rfl, rfl⟩,
    fun s x => rfl, fun s x lane hx hverb => ?_⟩
  · intro blamed failed
    have hblamed (lane : LaneId) : blamed lane (s.blame lane) ∧ (s.blame lane).stations = s.stations := by
      obtain ⟨hlane, hother, hsilent, hdisagree, hevents, hstations⟩ := s.blame_cases lane
      exact ⟨⟨hlane, hother, hsilent, hdisagree, hevents⟩, hstations⟩
    refine ⟨fun hmode => ⟨fun r lane => ⟨fun h => ?_, fun h => ?_⟩, ?_, ?_⟩,
      fun hmode => ⟨fun r lane => ⟨fun h => ?_, fun h => ?_⟩, State.charged_of_alternate_failed hmode⟩,
      fun v hmode => ⟨fun h => ?_, fun h => ?_⟩, fun v hmode => ⟨fun h => ?_, fun h => ?_⟩⟩
    · change blamed (otherLane lane) (s.charged x (.accepted r lane)) ∧
        (s.charged x (.accepted r lane)).stations = s.stations
      rw [State.charged_of_mirror_accepted hmode, if_pos (failure_iff.2 h)]
      exact hblamed _
    · exact (State.charged_of_mirror_accepted hmode r).trans (if_neg (mt failure_iff.1 h))
    · exact State.charged_of_mirror_failed hmode false
    · exact State.charged_of_mirror_failed hmode true
    · exact (State.charged_of_alternate_accepted hmode r).trans (if_neg (Bool.eq_false_iff.1 h))
    · change blamed (otherLane lane) (s.charged x (.accepted r lane)) ∧ (s.charged x (.accepted r lane)).stations = _
      rw [State.charged_of_alternate_accepted hmode, if_pos h]
      obtain ⟨hlane, hstations⟩ := hblamed (otherLane lane)
      by_cases hpref : x.lanePref = otherLane lane
      · rw [if_pos hpref, if_pos hpref]
        exact ⟨hlane, by simp [State.updateStation]⟩
      · rw [if_neg hpref, if_neg hpref]
        exact ⟨hlane, hstations⟩
    · change blamed .a (s.charged x v) ∧ (s.charged x v).stations = s.stations
      rw [State.charged_of_singleA hmode, if_pos h]
      exact hblamed .a
    · exact (State.charged_of_singleA hmode v).trans (if_neg h)
    · change blamed .b (s.charged x v) ∧ (s.charged x v).stations = s.stations
      rw [State.charged_of_singleB hmode, if_pos h]
      exact hblamed .b
    · exact (State.charged_of_singleB hmode v).trans (if_neg h)
  · intro goesOn ends weighed
    have hweighed (t : State) (y : Exchange) : t.weighAttempt y = weighed t y := by
      dsimp only [weighed]
      cases hv : verdict y.partA.outcome? y.partB.outcome? with
      | accepted q on =>
        rw [State.weighAttempt_of_accepted hv, State.weighed, hv]
        rfl
      | failed disagree =>
        rw [State.weighAttempt_of_failed hv, State.weighed, hv]
        rfl
    have hended {t : State} {z : Exchange} {o : LaneOutcome} (ht : t.exu.exchange = some z) (hz : z.verb = x.verb)
        (hpart : z.part lane = .ended o) (hother : z.part (otherLane lane) = x.part (otherLane lane)) :
        (goesOn → t.checkAttempt = t) ∧ (ends → t.checkAttempt = weighed t z) := by
      have hcheck := State.checkAttempt_of_ended ht (hz ▸ hverb) hpart
      rwa [hother, hweighed] at hcheck
    refine ⟨fun hpart => ?_, fun d intervals o hpart hd htx hrx => ?_⟩
    · intro y t
      have hexec : exec (.replyWindowExpiry lane) s = .next t.checkAttempt.settle := by
        rw [exec_replyWindowExpiry hx hpart, if_neg (by rcases hverb with h | h | h <;> rw [h] <;> nofun),
          State.setPart_of_exchange hx]
      have hcheck := hended (t := t) (z := y) (o := .silent) rfl (by simp [y]) (by simp [y]) (by simp [y])
      exact ⟨fun h => by rw [hexec, hcheck.1 h], fun h => by rw [hexec, hcheck.2 h]⟩
    · intro y heard
      have hexec (hjudge : x.judge (receive d.bitRate intervals) = o) :
          exec (.telegramReceived lane intervals) s =
            .next (heard.heard lane (receive d.bitRate intervals)).checkAttempt.settle := by
        have hheard : ({ s.updateLane lane (fun c =>
              { c with
                rx := .quiet
                damaged := c.damaged + if countsDamaged true (receive d.bitRate intervals) then 1 else 0 }) with
            exu.exchange := some (x.setPart lane (.ended o)) } : State) = heard := by
          dsimp only [heard]
          cases receive d.bitRate intervals with
          | none => rfl
          | some q =>
            cases q with
            | request q => rfl
            | reply q => simp [countsDamaged, y]
        rw [exec_telegramReceived hd htx hrx, State.telegram_of_own hx hpart, hjudge, hheard]
      have hjudged {r : Option Reply}
          (h : (∃ q, receive d.bitRate intervals = some (.reply q) ∧ q.address = x.address ∧ q.seq = x.seq ∧
            q.verb = x.verb ∧
              q.count = x.count ∧ o = .goodReply q ∧ r = some q) ∨
            (∃ q, receive d.bitRate intervals = some (.reply q) ∧
              (q.address ≠ x.address ∨ q.seq ≠ x.seq ∨ q.verb ≠ x.verb ∨ q.count ≠ x.count) ∧ o = .damaged ∧ r = some q) ∨
            (receive d.bitRate intervals = none ∧ o = .damaged ∧ r = none)) :
          exec (.telegramReceived lane intervals) s =
            .next (if s.msu.role = .listen then heard.overhearReply lane r else heard : State).checkAttempt.settle := by
        have hmsu : heard.msu = s.msu := by simp [heard]
        rcases h with ⟨q, hq, haddress, hseq, hv, hcount, rfl, rfl⟩ | ⟨q, hq, hother, rfl, rfl⟩ | ⟨hq, rfl, rfl⟩
        · rw [hexec (by rw [hq, Exchange.judge_of_match ⟨haddress, hseq, hv, hcount⟩]),
            State.heard_of_reply (r := some q) hq, hmsu]
        · rw [hexec (by rw [hq, Exchange.judge_of_other hother]), State.heard_of_reply (r := some q) hq, hmsu]
        · rw [hexec (by rw [hq]; rfl), State.heard_of_reply (r := none) hq, hmsu]
      have hyverb : y.verb = x.verb := Exchange.setPart_verb
      have hypart : y.part lane = .ended o := Exchange.setPart_part
      have hyother : y.part (otherLane lane) = x.part (otherLane lane) := Exchange.setPart_part_other
      refine ⟨fun h hlisten => ?_, fun q hq ho hrole => ?_, fun q hq ho => ?_, fun r h hrole => ?_⟩
      · have hunheard (r : Option Reply) :
            (if s.msu.role = .listen then heard.overhearReply lane r else heard : State) = heard := by
          split
          next hrole => exact State.overhearReply_of_none (by simp [heard, hlisten hrole]) lane r
          next => rfl
        have hexec : exec (.telegramReceived lane intervals) s = .next heard.checkAttempt.settle := by
          rcases h with ⟨q, hq, haddress, hseq, hv, hcount, ho⟩ | ⟨q, hq, hother, ho⟩ | ⟨hq, ho⟩
          · rw [hjudged (.inl ⟨q, hq, haddress, hseq, hv, hcount, ho, rfl⟩), hunheard]
          · rw [hjudged (.inr (.inl ⟨q, hq, hother, ho, rfl⟩)), hunheard]
          · rw [hjudged (.inr (.inr ⟨hq, ho, rfl⟩)), hunheard]
        have hcheck := hended (t := heard) (z := y) rfl hyverb hypart hyother
        exact ⟨fun h => by rw [hexec, hcheck.1 h], fun h => by rw [hexec, hcheck.2 h]⟩
      · intro z
        have hz : (heard.contest q.tag).exu.exchange = some z := by
          rw [State.contest_exchange_of (y := y) rfl]
          simp [z, heard, State.dir, hd]
        have hcontest := hexec (by rw [hq, ho]; rfl)
        have hcheck := hended hz (by exact hyverb) (by cases lane <;> exact hypart) (by cases lane <;> exact hyother)
        have hheard : heard.heard lane (receive d.bitRate intervals) = heard.contest q.tag := by
          have hactive : heard.msu.role = .active := by simp [heard, hrole]
          rw [hq]
          simp only [State.heard, hactive]
        rw [hheard] at hcontest
        exact ⟨fun h => by rw [hcontest, hcheck.1 h], fun h => by rw [hcontest, hcheck.2 h]⟩
      · intro told hrole
        have htold : heard.heard lane (receive d.bitRate intervals) = told := by
          have hmsu : heard.msu = s.msu := by simp [heard]
          rw [hq]
          simp only [State.heard, hmsu, told]
          cases hlisten : s.msu.role with
          | active => exact absurd hlisten hrole
          | listen => rfl
          | off => rfl
        have hexec := hexec (by rw [hq, ho]; rfl)
        rw [htold] at hexec
        have hexchange : told.exu.exchange = some y := by
          dsimp only [told]
          split
          · simp [heard]
          · rfl
        have hcheck := hended hexchange hyverb hypart hyother
        exact ⟨fun h => by rw [hexec, hcheck.1 h], fun h => by rw [hexec, hcheck.2 h]⟩
      · have hexec := hjudged h
        rw [if_pos hrole] at hexec
        have hcheck := hended (t := heard.overhearReply lane r) (z := y) (by simp [heard]) hyverb hypart hyother
        exact ⟨fun h => by rw [hexec, hcheck.1 h], fun h => by rw [hexec, hcheck.2 h]⟩

end Sys2Proof.Machine

/-! The close of a sweep's poll (R12, R22, R60, R82). -/

namespace Sys2Proof.Machine

section
variable {s : State} {x : Exchange} {o : ExchangeOutcome}

/-- Where no role waits for the close and the device is not FAULTED, the close ends nothing else (R121, R123). -/
theorem State.afterClose_of_rests (hoff : s.msu.offAtClose = false) (hfaulted : s.ctl.exchangeState ≠ .faulted) :
    s.afterClose = s := by
  unfold State.afterClose
  rw [if_neg (Bool.eq_false_iff.1 hoff)]
  exact if_neg hfaulted

theorem State.closeExchange_sweep (hclaimant : x.claimant = .sweep) (hrunning : s.ctl.exchangeState = .running)
    (hoff : s.msu.offAtClose = false) : s.closeExchange x o = (s.closed x o).sweepPollClosed o.isMiss := by
  have htold (reports : List ValueEntry) :
      (s.closed x o).told x o reports = (s.closed x o).sweepPollClosed o.isMiss := by
    simp only [State.told, hclaimant]
  rw [State.closeExchange_eq, htold]
  exact State.afterClose_of_rests (by simp [hoff]) (by simp [hrunning])

theorem State.endSweep_misses (s : State) : s.endSweep.swe.misses = s.swe.misses := by
  unfold State.endSweep
  dsimp only
  (repeat' split) <;> simp [State.finishSweep]

theorem State.walk_misses (s : State) : s.walk.swe.misses = s.swe.misses := by
  unfold State.walk
  dsimp only
  split
  · rw [State.endSweep_misses]
  · rfl

theorem State.finishAbandon_misses (s : State) : s.finishAbandon.swe.misses = s.swe.misses := by
  unfold State.finishAbandon
  (repeat' split) <;> rfl

/-- A poll that was answered is no miss (R60). -/
theorem State.sweepPollClosed_misses (s : State) : (s.sweepPollClosed false).swe.misses = s.swe.misses := by
  simp only [State.sweepPollClosed, Bool.false_eq_true, if_false]
  (repeat' split)
  · rw [State.walk_misses]
    rfl
  · rw [State.finishAbandon_misses]
    rfl
  · rfl

/-- A station's record changed: that record as told, every other as it was. -/
theorem State.station?_of_updated {t : State} {r new : StationRecord} {a : Nat}
    (ht : t.stations = s.stations.map (fun q => if q.address = r.address then new else q)) (hr : s.station? a = some r)
    (haddress : new.address = r.address) :
    t.station? a = some new ∧ ∀ b, b ≠ a → t.station? b = s.station? b := by
  have hra := State.station?_address hr
  have hfind (b : Nat) : t.station? b = (s.station? b).map (fun q => if q.address = r.address then new else q) := by
    rw [State.station?, ht]
    exact find?_map_update r.address b (fun _ => new) (fun _ _ => haddress) s.stations
  refine ⟨by rw [hfind, hr, Option.map_some, if_pos rfl], fun b hb => ?_⟩
  rw [hfind]
  cases hq : s.station? b with
  | none => rfl
  | some q => rw [Option.map_some, if_neg (by rw [State.station?_address hq, hra]; exact hb)]

/-- The state as a GOOD reply on Lane A ends its part, the lane credited (R74, R80, R91). -/
def State.answeredOnA (x : Exchange) (q : Reply) (s : State) : State :=
  ({ s.updateLane .a (fun c => { c with rx := .quiet, damaged := c.damaged + 0 }) with
      exu.exchange := some (x.setPart .a (.ended (.goodReply q))) } : State).credit .a

/-- In single mode on Lane A a matching reply ends the attempt, and with it the exchange (R80, R82, R98). -/
theorem State.telegram_of_goodReply {q : Reply} (hmode : s.dir.laneMode = .singleA) (hrole : s.msu.role = .active)
    (hx : s.exu.exchange = some x) (hverb : x.verb = .fetch) (hpartA : x.partA = .receiving) (hpartB : x.partB = .unused)
    (hmatch : q.address = x.address ∧ q.seq = x.seq ∧ q.verb = x.verb ∧ q.count = x.count) :
    s.telegram .a (some (.reply q)) =
      (s.answeredOnA x q).closeExchange (x.setPart .a (.ended (.goodReply q))) (.reply q) := by
  let y : Exchange := x.setPart .a (.ended (.goodReply q))
  let heard : State :=
    { s.updateLane .a (fun c => { c with rx := .quiet, damaged := c.damaged + 0 }) with exu.exchange := some y }
  have htelegram : s.telegram .a (some (.reply q)) = heard.weighAttempt y := by
    have hheard : heard.heard .a (some (.reply q)) = heard := by
      have hactive : heard.msu.role = .active := by simp [heard, hrole]
      simp only [State.heard, hactive]
    rw [State.telegram_of_own (lane := .a) hx hpartA, Exchange.judge_of_match hmatch]
    change (heard.heard .a (some (.reply q))).checkAttempt = _
    rw [hheard]
    exact (State.checkAttempt_of_ended (lane := .a) (y := y) rfl (.inl hverb) rfl).2 (.inl hpartB)
  have hunused : y.partB.outcome? = none := by
    change x.partB.outcome? = none
    rw [hpartB]
    rfl
  have hverdict : verdict y.partA.outcome? y.partB.outcome? = .accepted q .a := by
    rw [hunused]
    rfl
  have hweighed : heard.weighed y = s.answeredOnA x q := by
    rw [State.weighed, hverdict, hunused]
    change (s.answeredOnA x q).charged y _ = s.answeredOnA x q
    have hkept : (s.answeredOnA x q).dir.laneMode = .singleA := by
      rw [← hmode]
      simp [State.answeredOnA, State.dir]
    rw [State.charged_of_singleA hkept]
    exact if_neg nofun
  rw [htelegram, State.weighAttempt_of_accepted hverdict, hweighed]

/-- The record of a verified station after the reply to a sweep's FETCH (R15, R22). -/
theorem StationRecord.advance_answered {r : StationRecord} {q : Reply} (hclaimant : x.claimant = .sweep)
    (hcls : q.cls = .good)
    (hhealth : r.health = .online ∨ r.health = .suspect ∨ r.health = .offline) :
    (r.answered q.condition).advance x q =
      { r with
        missCount := 0, lastCondition := some q.condition, health := .online
        readCursor := (r.readCursor + x.count) % r.slotCount } := by
  have honline : (if r.health = .suspect ∨ r.health = .offline then Health.online else r.health) = .online := by
    rcases hhealth with h | h | h <;> rw [h] <;> rfl
  rw [StationRecord.advance_of_sweep hclaimant (.inl hcls), StationRecord.answered_eq, honline]

end

/-- Settles O38: the reply is GOOD on the one lane used, so the attempt closes the exchange with it. -/
theorem goodReplyClosesAPoll : Obligations.GoodReplyClosesAPoll := by
  intro s d intervals x q r hd hmode htx hrx hx hclaimant hverb hpartA hpartB hrunning hrole hoff hq haddress hseq hqverb hcount
    hcls hlength hr hverified hhealth hnamed hwindow
  let y : Exchange := x.setPart .a (.ended (.goodReply q))
  let w : State := s.answeredOnA x q
  have hcharged : w.stations = s.stations ∧ w.points = s.points ∧ w.swe = s.swe ∧ w.bar = s.bar ∧ w.msu = s.msu ∧
    w.oru = s.oru := by
    and_intros <;> simp [w, State.answeredOnA]
  obtain ⟨hwstations, hwpoints, hwswe, hwbar, hwmsu, hworu⟩ := hcharged
  have hclosed : s.telegram .a (some (.reply q)) = (w.closed y (.reply q)).sweepPollClosed false := by
    rw [State.telegram_of_goodReply (by rw [State.dir_of_directory hd, hmode]) hrole hx hverb hpartA hpartB
      ⟨haddress, hseq, hqverb.trans hverb.symm, hcount⟩]
    exact State.closeExchange_sweep hclaimant (by simp [State.answeredOnA, hrunning]) (by rw [hwmsu, hoff])
  let new : StationRecord := (r.answered q.condition).advance y q
  have hnew : new = { r with
      missCount := 0, lastCondition := some q.condition, health := .online
      readCursor := (r.readCursor + x.count) % r.slotCount } := StationRecord.advance_answered (x :=
        y) hclaimant hcls hhealth
  let u : State := w.changeRecord r new none false
  have hdeliver : (w.deliver y (.reply q)).1 = (u.conditionReply r false (readingsOf x.first q.values)).1 := by
    have hwr : w.station? y.address = some r := by
      rw [State.station?, hwstations]
      exact hr
    have hyverb : y.verb = .fetch := hverb
    simp only [State.deliver, hwr, hyverb, hcls]
    rfl
  have hlanes : (s.telegram .a (some (.reply q))).lanes = w.lanes := by
    rw [hclosed]
    simp [State.closed]
  have hstations : (s.telegram .a (some (.reply q))).stations =
      s.stations.map (fun p => if p.address = r.address then new else p) := by
    rw [hclosed, State.sweepPollClosed_stations, State.closed_stations, hdeliver]
    simp [u, hwstations]
  have hstation (b : Nat) : (s.telegram .a (some (.reply q))).settle.station? b = (s.telegram .a (some (.reply q))).station? b := by
    simp [State.station?]
  obtain ⟨hthis, hothers⟩ := State.station?_of_updated hstations hr (by rw [hnew])
  refine ⟨(s.telegram .a (some (.reply q))).settle, by rw [exec_telegramReceived (lane := .a) hd htx hrx, hq], ?_⟩
  refine ⟨?_, ?_, ?_, ?_, ?_, ?_, ?_, fun slot hslot => ?_, ?_, ?_, ?_⟩
  · simp [hclosed]
  · simp [hclosed, State.closed_bar]
  · simp [hclosed, State.closed_bar, hwbar]
  · simp [hclosed, hwmsu]
  · simp [hclosed, hworu]
  · rw [hstation, hthis, hnew]
  · exact fun b hb => (hstation b).trans (hothers b hb)
  · have hpoints : (s.telegram .a (some (.reply q))).settle.point slot =
        (u.conditionReply r false (readingsOf x.first q.values)).1.point slot := by
      rw [State.point_eq, State.point_eq, State.settle_points, hclosed, State.sweepPollClosed_points, State.closed_points,
        hdeliver]
    have hkept : u.point slot = s.point slot := by
      have hrecorded := (w.recorded_point r new hslot).2.2.1 (by rw [hnew]; nofun) (by rw [hnew]; nofun)
      rw [State.point_eq, State.changeRecord_points]
      exact hrecorded.trans (by rw [State.point_eq, hwpoints]; rfl)
    have hcount : u.swe = s.swe := by simp [u, hwswe]
    rw [hpoints, u.conditionReply_point false x.first q.values hwindow hslot, hkept, hcount, hlength, min_eq_left hnamed,
      ← Nat.add_assoc]
  · simp [hclosed, State.sweepPollClosed_misses, hwswe]
  · rw [State.settle_lanes, hlanes]
    exact congrArg LaneController.faults (State.credit_cases _ .a).1
  · rw [State.settle_lanes, hlanes]
    exact congrArg LaneController.up (State.credit_cases _ .a).1

end Sys2Proof.Machine

/-! The reply window that runs out (R13, R60, R61, R79, R80, R83, R100). -/

namespace Sys2Proof.Machine

section
variable {s : State} {x : Exchange} {lane : LaneId}

/-- The state as Lane A's window runs out: the part SILENT, the silent window counted (R80, R100). -/
def State.silencedA (x : Exchange) (s : State) : State :=
  { s with
    exu.exchange := some (x.setPart .a (.ended .silent)), lanes.silentWindows := s.lanes.silentWindows + 1 }

/-- In single mode on Lane A the window's end is the attempt's: it is retried, or closes as a miss (R79, R82, R98). -/
theorem exec_replyWindowExpiry_singleA (hmode : s.dir.laneMode = .singleA) (hx : s.exu.exchange = some x)
    (hverb : x.verb = .fetch) (hpartA : x.partA = .waiting) (hpartB : x.partB = .unused) :
    exec (.replyWindowExpiry .a) s =
      .next
        (if s.msu.role = .active ∧ x.noRetry = false ∧ x.attempt < x.attempts then
          (s.silencedA x).retry (x.setPart .a (.ended .silent))
        else (s.silencedA x).closeExchange (x.setPart .a (.ended .silent)) .miss : State).settle := by
  let y : Exchange := x.setPart .a (.ended .silent)
  let u : State := { s with exu.exchange := some y }
  have hunused : y.partB.outcome? = none := by
    change x.partB.outcome? = none
    rw [hpartB]
    rfl
  have hverdict : verdict y.partA.outcome? y.partB.outcome? = .failed false := by
    rw [hunused]
    rfl
  have hweighed : u.weighed y = s.silencedA x := by
    rw [State.weighed, hverdict, hunused]
    change (s.silencedA x).charged y _ = s.silencedA x
    rw [State.charged_of_singleA (s := s.silencedA x) hmode]
    exact if_neg nofun
  rw [exec_replyWindowExpiry (lane := .a) hx hpartA, if_neg (by rw [hverb]; nofun), State.setPart_of_exchange hx,
    (State.checkAttempt_of_ended (s := u) (lane := .a) (y := y) rfl (.inl hverb) rfl).2 (.inl hpartB),
    State.weighAttempt_of_failed hverdict, hweighed]
  rfl

/-- The miss of a sweep's poll closes the exchange (R13, R60). -/
theorem State.closed_miss_stations {r : StationRecord} (hr : s.station? x.address = some r) :
    (s.closed x .miss).stations = s.stations.map (fun q => if q.address = r.address then r.missed else q) := by
  have hdeliver : (s.deliver x .miss).1 = s.changeRecord r r.missed none false := by simp only [State.deliver, hr]
  rw [State.closed_stations, hdeliver, State.changeRecord_stations]

theorem State.endSweep_of_unreported (h : s.dir.sweepResults = false) :
    s.endSweep = ({ s with swe.sweepCount := s.swe.sweepCount + 1 } : State).finishSweep := by
  unfold State.endSweep
  exact if_neg (by simpa [State.dir] using h)

/-- A sweep's poll that closes as the last entry ends the sweep (R61). -/
theorem State.walk_of_end (h : s.swe.active.length = s.swe.cursor) : s.walk = s.endSweep := by
  have hnone : (s.swe.active.drop s.swe.cursor) = [] := List.drop_eq_nil_of_le (Nat.le_of_eq h)
  simp only [State.walk, hnone, List.takeWhile_nil, List.length_nil, Nat.add_zero]
  exact if_pos (Nat.le_of_eq h)

/-- The attempt after a silent one on Lane A, again on Lane A (R79, R98). -/
theorem State.retry_silencedA (hmode : s.dir.laneMode = .singleA) (hpartB : x.partB = .unused) :
    (s.silencedA x).retry (x.setPart .a (.ended .silent)) =
      { s with
        exu.exchange := some { x with attempt := x.attempt + 1, partA := .sending, failedA := true }
        lanes.silentWindows := s.lanes.silentWindows + 1
        lanes.a.tx := .starting (s.request x).telegram, lanes.a.rx := .quiet } := by
  let y : Exchange := x.setPart .a (.ended .silent)
  have hA : y.partA = .ended .silent := rfl
  have hB : y.partB = .unused := hpartB
  have hlanes : (s.silencedA x).retryLanes y = (true, false) := by
    have hdir : (s.silencedA x).dir.laneMode ≠ .alternate := by
      change s.dir.laneMode ≠ .alternate
      rw [hmode]
      nofun
    simp [State.retryLanes, hdir, hA, hB]
  have hfailed : (y.failedA || decide (y.partA ≠ .unused)) = true ∧
    (y.failedB || decide (y.partB ≠ .unused)) = x.failedB := by
    simp [hA, hB]
    rfl
  have hnext : ({ x with attempt := x.attempt + 1, partA := .sending, partB := .unused, failedA := true } : Exchange) =
      { x with attempt := x.attempt + 1, partA := .sending, failedA := true } := by
    rw [hpartB]
  rw [State.retry, hlanes, hfailed.1, hfailed.2, ← hnext]
  rfl

/-- A LATCH or a MARK that closes frees the Exchange Unit and brings the tables nothing (R83). -/
theorem State.closed_of_quiet {o : ExchangeOutcome} (h : o = .quiet ∨ o = .complete) :
    s.closed x o = { s with exu.exchange := none, bar.reserved := 0 } := by
  rw [State.closed, State.deliver_of_quiet (.inr h)]

theorem State.told_of_busEntry {o : ExchangeOutcome} {reports : List ValueEntry} (h : x.claimant = .busEntry) :
    s.told x o reports = s.settleEntry x o reports := by
  simp only [State.told, h]

/-- The entry of a fault is gone, so nothing is handed on (R156). -/
theorem State.settleEntry_of_none {o : ExchangeOutcome} {reports : List ValueEntry}
    (h : ∀ e ∈ s.oru.busQueue, e.exchangeOpen = false) : s.settleEntry x o reports = s := by
  have hnone : s.oru.busQueue.findIdx? (fun e => e.exchangeOpen) = none := by
    rw [List.findIdx?_eq_none_iff]
    exact h
  simp only [State.settleEntry, hnone]

/-- What the close of an exchange leaves of the Exchange Unit, the arbiter and the Mastership Unit (R103, R121, R123). -/
theorem State.closeExchange_units (s : State) (x : Exchange) (o : ExchangeOutcome) :
    (s.closeExchange x o).exu =
        { s.exu with exchange := none, overheard := if s.msu.offAtClose then none else s.exu.overheard } ∧
      (s.closeExchange x o).bar = { s.bar with reserved := 0 } ∧ (s.closeExchange x o).msu = s.mastershipAtClose := by
  rw [State.closeExchange_eq, State.afterClose_state]
  refine ⟨?_, ?_, ?_⟩
  · simp [State.closed]
  · simp [State.told_bar, State.closed_bar]
  · simp [State.mastershipAtClose]

end

/-- Settles O39: the window of a FETCH, with attempts left and without, and that of a LATCH. -/
theorem windowsExpire : Obligations.WindowsExpire := by
  refine ⟨fun s d x hd hmode hx hverb hpartA hpartB hleft hretry hrole => ?_,
    fun s d x r hd hmode hx hclaimant hverb hpartA hpartB hlast hrunning hrole hoff hr => ?_,
    fun s x lane hx hclaimant hverb hpart => ?_⟩
  · have hexec := exec_replyWindowExpiry_singleA (by rw [State.dir_of_directory hd, hmode]) hx hverb hpartA hpartB
    rw [if_pos ⟨hrole, hretry, hleft⟩] at hexec
    rw [State.retry_silencedA (by rw [State.dir_of_directory hd, hmode]) hpartB] at hexec
    exact ⟨_, hexec, by and_intros <;> simp⟩
  · have hexec := exec_replyWindowExpiry_singleA (by rw [State.dir_of_directory hd, hmode]) hx hverb hpartA hpartB
    rw [if_neg (by omega)] at hexec
    let y : Exchange := x.setPart .a (.ended .silent)
    let w : State := s.silencedA x
    let c : State := w.closed y .miss
    have hclose : w.closeExchange y .miss = c.sweepPollClosed true := State.closeExchange_sweep hclaimant hrunning hoff
    have hstations : c.stations = s.stations.map (fun q => if q.address = r.address then r.missed else q) :=
      State.closed_miss_stations (s := w) (x := y) hr
    have hswe : c.swe = s.swe := by simp [c, w, State.silencedA]
    rw [hclose] at hexec
    have hsettled : (c.sweepPollClosed true).settle.stations =
        s.stations.map (fun q => if q.address = r.address then r.missed else q) := by
      simpa using hstations
    obtain ⟨hthis, hothers⟩ := State.station?_of_updated hsettled hr rfl
    refine ⟨_, hexec, by simp [c], by simp [c, State.closed_bar], hthis, hothers,
      by simp [c, State.closed, w, State.silencedA],
      by simp [c, w, State.silencedA], by simp [c, w, State.silencedA], by simp [c, w, State.silencedA],
      by simp [c, State.closed, w, State.silencedA], by simp [c, State.closed, w, State.silencedA], fun hsweeping => ?_⟩
    let counted : State :=
      { c with swe.polls := c.swe.polls + 1, swe.misses := c.swe.misses + 1, swe.cursor := c.swe.cursor + 1 }
    have hwalk : (c.sweepPollClosed true).settle.swe = counted.walk.swe := by
      rw [State.settle_swe, State.sweepPollClosed]
      exact congrArg State.swe (if_pos (by rw [State.sweeping, hswe, hsweeping]; rfl))
    rw [hwalk]
    refine ⟨fun a ha hne hpolls => ?_, fun hend hsilent => ?_⟩
    · obtain ⟨p, hp, hheld, hhealth⟩ := hpolls
      have hfound : counted.station? a = some p :=
        ((State.station?_of_updated (t := c) hstations hr rfl).2 a hne).trans hp
      rw [State.walk_of_polled counted a (by simpa [counted, hswe] using ha) (State.skips_eq_false hfound hheld hhealth)]
      simp [counted, hswe]
    · have hdir : counted.dir = d := by
        have hxpt : c.xpt = s.xpt := by simp [c, State.closed, w, State.silencedA]
        change c.xpt.directory.getD Directory.blank = d
        rw [hxpt, hd]
        rfl
      rw [State.walk_of_end (by simpa [counted, hswe] using hend), State.endSweep_of_unreported (by rw [hdir, hsilent])]
      change { counted.swe with
        sweepCount := counted.swe.sweepCount + 1, state := .idle, cursor := 0, endWait := false
        startDue := counted.swe.startDue || decide (counted.dir.sweepPeriod = 0) } = _
      rw [hdir]
      simp only [counted, hswe]
  · intro frame
    have hexec := exec_replyWindowExpiry hx hpart
    rw [if_pos hverb] at hexec
    have hparted := State.setPart_of_exchange hx lane .closed
    let u : State := { s with exu.exchange := some (x.setPart lane .closed) }
    refine ⟨fun hother => ?_, fun hother => ?_⟩
    · have hopen : (x.setPart lane .closed).attemptOver = false := by
        rw [Exchange.attemptOver_setPart]
        rcases hother with h | h <;> rw [h] <;> rfl
      rw [hparted, State.checkAttempt_of_open (x := x.setPart lane .closed) rfl hopen] at hexec
      exact ⟨_, hexec, by and_intros <;> simp, by simp, by simp, by simp, by simp⟩
    · have hover : (x.setPart lane .closed).attemptOver = true := by
        rw [Exchange.attemptOver_setPart]
        rcases hother with h | h <;> rw [h] <;> rfl
      have hend : u.attemptEnd (x.setPart lane .closed) = u.closeExchange (x.setPart lane .closed) .quiet := by
        simp only [State.attemptEnd, Exchange.setPart_verb, hverb]
      rw [hparted, State.checkAttempt_of_over (x := x.setPart lane .closed) rfl hover, hend] at hexec
      let y : Exchange := x.setPart lane .closed
      have hyclaimant : y.claimant = .busEntry := Exchange.setPart_claimant.trans hclaimant
      have hyverb : y.verb = .latch := Exchange.setPart_verb.trans hverb
      have hclosed : u.closed y .quiet = { u with exu.exchange := none, bar.reserved := 0 } :=
        State.closed_of_quiet (.inl rfl)
      have hclose : u.closeExchange y .quiet = ((u.closed y .quiet).settleEntry y .quiet []).afterClose := by
        rw [State.closeExchange_eq, State.told_of_busEntry hyclaimant, State.deliver_of_quiet (.inr (.inl rfl))]
      obtain ⟨hexu, hbar, hmsu⟩ := u.closeExchange_units y .quiet
      refine ⟨_, hexec, ?_, by simpa using hexu, by simpa using hbar, (State.settle_msu _).trans hmsu,
        fun front e back hentry => ?_,
        fun hnone => ?_⟩
      · and_intros <;> simp [hclose, hclosed, u, y]
      · obtain ⟨t, hoRu, horu, hctl, -, -⟩ := u.closeExchange_busEntry y .quiet hyclaimant (front := front) (e := e) (back := back)
          ⟨hentry.queue, hentry.exchange, hentry.closed⟩
        rw [hyverb] at hoRu
        rw [State.settle_oru, hoRu]
        exact State.endEntry_ends horu hctl hentry.queue e .done
      · rw [State.settle_oru, hclose, State.settleEntry_of_none (by simpa [u] using hnone), State.afterClose_oru, hclosed]

end Sys2Proof.Machine

/-! Contests and marks (R117 to R119). -/

namespace Sys2Proof.Machine

section
variable {s : State} {tag : BitVec 1} {lane : LaneId}

/-- A foreign request that the device does not yield to is counted, and sets the ROLE event (R117, R176). -/
theorem State.contest_of_stays (h : ¬ (s.dir.masterTag = 1#1 ∧ tag = 0#1)) :
    ∃ changed holdTimer,
      s.contest tag =
        { s with
          msu.contestCount := s.msu.contestCount + 1, rpu.events := s.rpu.events.with .role, rpu.changed := changed
          rpu.holdTimer := holdTimer } := by
  obtain ⟨changed, holdTimer, hevent⟩ :=
    State.setEvent_eq .role { s with msu.contestCount := s.msu.contestCount + 1 }
  refine ⟨changed, holdTimer, ?_⟩
  unfold State.contest
  dsimp only
  rw [if_neg h, hevent]

/-- A device of tag 1 yields to a request of tag 0 (R118). -/
theorem State.contest_of_yields (h : s.dir.masterTag = 1#1 ∧ tag = 0#1) :
    ∃ u changed holdTimer,
      ({ s with
          msu.contestCount := s.msu.contestCount + 1, rpu.events := s.rpu.events.with .role, rpu.changed := changed
          rpu.holdTimer := holdTimer } : State).LeftTo u .contest (some tag) ∧
        s.contest tag = if s.ctl.exchangeState = .running then u.endNotActive else u := by
  let w : State := { s with msu.contestCount := s.msu.contestCount + 1 }
  obtain ⟨changed, holdTimer, hevent⟩ := w.setEvent_eq .role
  refine ⟨(w.setEvent .role).roleLeft .contest (some tag), changed, holdTimer, ?_, ?_⟩
  · rw [hevent]
    exact State.roleLeft_leftTo _ _ _
  · have hcontest : s.contest tag = (w.setEvent .role).leaveActive .contest (some tag) := if_pos h
    have hctl : (w.setEvent .role).ctl = s.ctl := w.setEvent_ctl .role
    rw [hcontest]
    split
    next hrunning => exact State.leaveActive_of_running _ _ (by rw [hctl, hrunning])
    next hnot => exact State.leaveActive_of_not_running _ _ (by rwa [hctl])

/-- A telegram outside an own reply window that is a request counts no damage (R74, R100). -/
theorem State.telegram_of_request (h : ∀ x, s.exu.exchange = some x → x.part lane ≠ .receiving) (q : Request) :
    s.telegram lane (some (.request q)) =
      (s.updateLane lane (fun c => { c with rx := .quiet })).heard lane (some (.request q)) := by
  have hown := State.receivingReply_eq_false h
  have hcounted : s.counted lane (some (.request q)) = s.updateLane lane (fun c => { c with rx := .quiet }) := by
    simp [State.counted, hown, countsDamaged]
  rw [State.telegram_eq, hown, if_neg (by nofun), hcounted]

end

/-- Settles O44: a foreign request counted, yielded to, and heard by its role; and the mark timer. -/
theorem contestsAndMarks : Obligations.ContestsAndMarks := by
  refine ⟨fun s tag hrole => ?_, fun s lane d intervals q hd htx hrx hq hown => ?_, fun s htimer hrunning hrole => ?_⟩
  · by_cases hyields : s.dir.masterTag = 1#1 ∧ tag = 0#1
    · obtain ⟨u, changed, holdTimer, hleft, hcontest⟩ := State.contest_of_yields hyields
      have hkept : (s.contest tag).msu = u.msu ∧ (s.contest tag).exu = u.exu ∧ (s.contest tag).swe = u.swe ∧
          (s.contest tag).rpu.events = u.rpu.events := by
        rw [hcontest]
        split <;> simp
      obtain ⟨hmsu, hexu, hswe, hevents⟩ := hkept
      rw [hmsu, hexu, hswe, hevents, hleft.msu, hleft.exu, hleft.stopped, hleft.events]
      refine ⟨rfl, rfl, fun _ _ => ⟨rfl, rfl, rfl, rfl, rfl, rfl, rfl, fun hrunning => ?_⟩, fun hstays => ?_⟩
      · obtain ⟨-, rfl⟩ := hyields
        exact if_pos (by simp [State.hosting, State.running, hrunning])
      · rw [hyields.1, hyields.2] at hstays
        exact absurd hstays (by decide)
    · obtain ⟨changed, holdTimer, hcontest⟩ := State.contest_of_stays hyields
      rw [hcontest]
      exact ⟨rfl, rfl, fun hmaster htag => absurd ⟨hmaster, htag⟩ hyields,
        fun _ => ⟨rfl, rfl, rfl, rfl, rfl, rfl, rfl, rfl⟩⟩
  · intro heard
    have hexec := exec_telegramReceived hd htx hrx (intervals := intervals)
    rw [hq, State.telegram_of_request hown] at hexec
    refine ⟨fun hrole => ?_, fun hrole => ?_⟩
    · rw [hexec]
      simp only [State.heard, State.updateLane_msu, hrole]
      rfl
    · rw [hexec, State.heard_of_off _ _ _ (by simp [hrole])]
  · exact if_pos ⟨htimer, by simp [State.running, hrunning], hrole⟩

end Sys2Proof.Machine

/-! The Sweep Engine's own steps (R56 to R64). -/

namespace Sys2Proof.Machine

section
variable {s : State} {a : Nat} {r : StationRecord}

theorem State.skips_iff (hr : s.station? a = some r) :
    s.skips a = true ↔
      r.health = .mismatch ∨ r.held = true ∨ (r.health = .offline ∧ s.swe.sweepCount.toNat % r.revisitEvery ≠ 0) := by
  simp [State.skips, hr, or_assoc]

/-- The state in which a start is acted upon: the swap takes place first (R54, R56). -/
def State.swapped (s : State) : State := if s.swe.pendingReady then { s with swe := s.swe.swap } else s

theorem State.swapped_eq (s : State) :
    s.swapped =
      { s with
        swe.active := if s.swe.pendingReady then s.swe.pendingList else s.swe.active
        swe.pendingList := if s.swe.pendingReady then [] else s.swe.pendingList
        swe.pendingReady := false } := by
  unfold State.swapped
  cases hready : s.swe.pendingReady with
  | true => rfl
  | false =>
    have hkept : ({ s.swe with pendingReady := false } : SweepEngine) = s.swe := by rw [← hready]
    simp only [Bool.false_eq_true, if_false]
    exact congrArg (fun swe : SweepEngine => ({ s with swe := swe } : State)) hkept.symm

theorem exec_sweepStart (hidle : s.swe.state = .idle) (hdue : s.swe.startDue = true) :
    exec .sweepStart s = if s.swapped.swe.active.isEmpty then .next s.swapped else .next s.swapped.beginSweep.settle :=
  if_pos ⟨hidle, hdue⟩

end

/-- Settles O45: the start after the swap, its walk, and the entries that a walk passes over. -/
theorem sweepStarts : Obligations.SweepStarts := by
  refine ⟨fun s hidle hdue => ?_, fun s a r hr => State.skips_iff hr⟩
  intro list rest
  have hexec := exec_sweepStart hidle hdue
  rw [s.swapped_eq] at hexec
  refine ⟨fun hempty => ?_, ?_⟩
  · rw [hexec]
    exact if_pos (List.isEmpty_iff.2 hempty)
  · intro begun
    have hstart (hsome : list ≠ []) : exec .sweepStart s = .next begun.walk.settle := by
      rw [hexec]
      exact if_neg (mt List.isEmpty_iff.1 hsome)
    refine ⟨hstart, fun a more r hlist hr hheld hhealth => ?_⟩
    have hskips : begun.skips a = false := by
      have hiff : begun.skips a = true ↔ _ := State.skips_iff (s := begun) hr
      rw [← Bool.not_eq_true, hiff]
      rintro (h | h | ⟨h, hrevisit⟩)
      · simp [h] at hhealth
      · simp [h] at hheld
      · simp only [h] at hhealth
        rcases hhealth with h' | h' | h' | ⟨-, h'⟩
        · nomatch h'
        · nomatch h'
        · nomatch h'
        · exact hrevisit h'
    have hfirst : begun.swe.active[begun.swe.cursor]? = some a := by
      change list[0]? = some a
      rw [hlist]
      rfl
    rw [hstart (by rw [hlist]; nofun), State.walk_of_polled begun a hfirst hskips]

end Sys2Proof.Machine

/-! The timers of a sweep, its claims, its walk and its end (R57 to R64). -/

namespace Sys2Proof.Machine

/-! ### The walk (R58, R61) -/

section
variable {s : State} {skipped rest : List Nat}

theorem State.walk_takes (hdrop : s.swe.active.drop s.swe.cursor = skipped ++ rest)
    (hskipped : ∀ a ∈ skipped, s.skips a = true)
    (hrest : ∀ a more, rest = a :: more → s.skips a = false) :
    (s.swe.active.drop s.swe.cursor).takeWhile s.skips = skipped := by
  have hnone : rest.takeWhile s.skips = [] := by
    cases hr : rest with
    | nil => rfl
    | cons a more => rw [List.takeWhile_cons, if_neg (by simp [hrest a more hr])]
  rw [hdrop, List.takeWhile_append_of_pos hskipped, hnone, List.append_nil]

/-- The walk stops at an entry to poll (R58). -/
theorem State.walk_of_stop {a : Nat} {more : List Nat} (hdrop : s.swe.active.drop s.swe.cursor = skipped ++ a :: more)
    (hskipped : ∀ b ∈ skipped, s.skips b = true) (hpolled : s.skips a = false) :
    s.walk = { s with swe.cursor := s.swe.cursor + skipped.length, swe.skipped := s.swe.skipped + skipped.length } := by
  have htakes := State.walk_takes hdrop hskipped fun b _ hb => by cases hb; exact hpolled
  have hlength : s.swe.cursor + skipped.length < s.swe.active.length := by
    have hcount := congrArg List.length hdrop
    simp only [List.length_drop, List.length_append, List.length_cons] at hcount
    omega
  simp only [State.walk, htakes]
  exact if_neg (Nat.not_le.2 hlength)

/-- The walk runs to the end of the list and ends the sweep (R61). -/
theorem State.walk_of_through (hdrop : s.swe.active.drop s.swe.cursor = skipped)
    (hskipped : ∀ b ∈ skipped, s.skips b = true) :
    s.walk =
      ({ s with
          swe.cursor := s.swe.cursor + skipped.length, swe.skipped :=
            s.swe.skipped + skipped.length } : State).endSweep := by
  have htakes := State.walk_takes (rest := []) (hdrop.trans (List.append_nil _).symm) hskipped nofun
  have hlength : s.swe.active.length ≤ s.swe.cursor + skipped.length := by
    have hcount := congrArg List.length hdrop
    rw [List.length_drop] at hcount
    omega
  simp only [State.walk, htakes]
  exact if_pos hlength

theorem State.endSweep_of_room (hresults : s.dir.sweepResults = true)
    (hroom : s.rpu.staging.length + s.bar.reserved < 6) :
    s.endSweep =
      ({ s with
          swe.sweepCount := s.swe.sweepCount + 1
          rpu.staging := s.rpu.staging ++ [.sweep (s.swe.result false)] } : State).finishSweep := by
  have hfree : 0 < ({ s with swe.sweepCount := s.swe.sweepCount + 1 } : State).freePlaces := s.freePlaces_pos_iff.2 hroom
  refine (if_pos (by simpa [State.dir] using hresults)).trans ((if_pos hfree).trans ?_)
  rfl

theorem State.endSweep_of_full (hresults : s.dir.sweepResults = true)
    (hfull : 6 ≤ s.rpu.staging.length + s.bar.reserved) :
    s.endSweep = { s with swe.sweepCount := s.swe.sweepCount + 1, swe.endWait := true } := by
  have hfree : ¬ 0 < ({ s with swe.sweepCount := s.swe.sweepCount + 1 } : State).freePlaces := by
    rw [State.freePlaces_pos_iff]
    exact Nat.not_lt.2 hfull
  exact (if_pos (by simpa [State.dir] using hresults)).trans (if_neg hfree)

end

/-! ### A sweep stopped (R64) -/

/-- What the abandonment of a sweep reads is the same in both states. -/
structure State.StopsAlike (s u : State) : Prop where
  swe : u.swe = s.swe
  staging : u.rpu.staging = s.rpu.staging
  bar : u.bar = s.bar
  xpt : u.xpt = s.xpt
  poll : (∃ x, u.exu.exchange = some x ∧ x.claimant = .sweep) ↔ ∃ x, s.exu.exchange = some x ∧ x.claimant = .sweep

section
variable {s t : State}

theorem State.forbidRetry_poll (s : State) :
    (∃ x, s.forbidRetry.exu.exchange = some x ∧ x.claimant = .sweep) ↔ ∃ x, s.exu.exchange = some x ∧
      x.claimant = .sweep := by
  cases hx : s.exu.exchange <;> simp [State.forbidRetry, hx]

/-- Each way into STOPPED stops the sweep of a state alike (R64, R120, R184). -/
theorem exists_stopsAlike
    (h : (s.ctl.exchangeState = .running ∧ exec .halt s = .next t) ∨
      (∃ o, s.Takes o .role ∧ byteAt o.body 0 = 2 ∧ s.msu.role = .active ∧ exec .yield s = .next t) ∨
      (∃ reason tag, t = s.leaveActive reason tag)) :
    ∃ u, s.StopsAlike u ∧ t.swe = u.stopSweep.swe ∧ t.rpu.staging = u.stopSweep.rpu.staging := by
  have hleaves (w : State) (reason : RoleReason) (tag : Option (BitVec 1)) (hswe : w.swe = s.swe)
      (hstaging : w.rpu.staging = s.rpu.staging) (hbar : w.bar = s.bar) (hxpt : w.xpt = s.xpt) (hexu : w.exu = s.exu) :
      ∃ u, s.StopsAlike u ∧ (w.leaveActive reason tag).swe = u.stopSweep.swe ∧
        (w.leaveActive reason tag).rpu.staging = u.stopSweep.rpu.staging := by
    let v : State :=
      { w with
        msu.role := .listen, msu.markTimer := false, msu.markClaim := false
        msu.windDown := some { awaitHand := w.oru.hand.windDownWaits }
        msu.roleDue := if w.hosting then
            w.msu.roleDue ++
              [{ role := .listen, previous := .active, reason := reason, shift := w.msu.shift, foreignTag := tag }]
          else w.msu.roleDue }
    refine ⟨v.forbidRetry, ⟨hswe, hstaging, hbar, hxpt, ?_⟩, ?_⟩
    · rw [v.forbidRetry_poll, ← hexu]
    · have hleft : w.roleLeft reason tag = v.forbidRetry.stopSweep := rfl
      rw [State.leaveActive_eq, hleft]
      split <;> simp
  rcases h with ⟨hrunning, hexec⟩ | ⟨o, htakes, hbody, hrole, hexec⟩ | ⟨reason, tag, rfl⟩
  · have hhalt : exec .halt s = .next s.beginDrain.settle := by
      change execHalt s = _
      simp only [execHalt, hrunning]
      rfl
    obtain rfl : s.beginDrain.settle = t := Host.Outcome.next.inj (hhalt.symm.trans hexec)
    refine ⟨s.drainBegun.forbidRetry, ⟨rfl, rfl, rfl, rfl, s.drainBegun.forbidRetry_poll⟩, ?_⟩
    rw [s.beginDrain_eq]
    simp
  · have htaken : s.takesRole .yield = some o := State.takesRole_of htakes (by simp [Order.roleRequest, hbody])
    have hrole' : s.popOrder.msu.role = .active := hrole
    let w : State := { s.popOrder with oru.hand := .yieldStaging o }
    have hyield : exec .yield s = .next (w.leaveActive .yielded none).settle := by
      change execYield s = _
      simp only [execYield, htaken, hrole']
      rfl
    obtain rfl : (w.leaveActive .yielded none).settle = t := Host.Outcome.next.inj (hyield.symm.trans hexec)
    rw [State.settle_swe, State.settle_rpu_staging]
    exact hleaves w .yielded none rfl rfl rfl rfl rfl
  · exact hleaves s reason tag rfl rfl rfl rfl rfl

end

/-- No exchange is the sweep's: no poll is open (R59). -/
theorem State.sweepPollOpen_eq_false {s : State} (h : ∀ x, s.exu.exchange = some x → x.claimant ≠ .sweep) :
    s.sweepPollOpen = false := by
  cases hx : s.exu.exchange with
  | none => simp [State.sweepPollOpen, hx]
  | some x => simp [State.sweepPollOpen, hx, h x hx]

/-- Settles O46: the period timer, the claim, the SWEEP results that wait, the walk, and the sweep stopped. -/
theorem sweepTimersAndClaims : Obligations.SweepTimersAndClaims := by
  refine ⟨fun s htimer => ⟨fun hidle => ?_, fun hsweeping => ?_⟩,
    fun s a r hsweeping hend hclaim hpoll hat hr hheld => ?_,
    fun s hhosting hend hroom => ?_, fun s hhosting hend habandoning hpoll hresults hroom => ?_,
    fun s skipped rest hdrop hskipped => ?_, fun s miss => ?_, fun s t hways => ?_⟩
  · change execPeriodTimerExpiry s = _
    simp only [execPeriodTimerExpiry, htimer, hidle, if_true]
  · let u : State :=
      { s with
        swe.periodTimer := false, swe.startDue := true, swe.late := true
        swe.overrunCount := s.swe.overrunCount + 1 }
    have hexec : exec .periodTimerExpiry s = .next (u.setEvent .overrun).settle := by
      change execPeriodTimerExpiry s = _
      simp only [execPeriodTimerExpiry, htimer, hsweeping, if_true, done_eq, u]
    obtain ⟨changed, holdTimer, hevent⟩ := u.setEvent_eq .overrun
    obtain ⟨head, bulkWait, due, attention, heq⟩ := (u.setEvent .overrun).settle_eq
    rw [heq, hevent] at hexec
    exact ⟨_, hexec, by and_intros <;> rfl⟩
  · have hclosed := State.sweepPollOpen_eq_false hpoll
    have hclaimable : s.claimable = some a := by
      simp [State.claimable, State.sweeping, hsweeping, hend, hclaim, hclosed, hat, hr, hheld]
    have hexec : exec .sweepClaim s = if 0 < s.freePlaces then .next { s with swe.claim := some a } else .next s := by
      change execSweepClaim s = _
      simp only [execSweepClaim, hclaimable]
    refine ⟨fun hroom => ?_, fun hfull => ?_⟩
    · rw [hexec, if_pos (s.freePlaces_pos_iff.2 hroom)]
    · rw [hexec, if_neg (mt s.freePlaces_pos_iff.1 (Nat.not_lt.2 hfull))]
  · have hexec : exec .sweepResultStage s = .next (s.stage (.sweep (s.swe.result false))).finishSweep.settle := by
      refine (if_pos ⟨s.hosting_of_Hosting hhosting, s.freePlaces_pos_iff.2 hroom⟩).trans ?_
      exact if_pos hend
    obtain ⟨head, bulkWait, due, attention, heq⟩ := (s.stage (.sweep (s.swe.result false))).finishSweep.settle_eq
    rw [heq, State.stage_sweep] at hexec
    exact ⟨_, hexec, by and_intros <;> rfl⟩
  · have hclosed := State.sweepPollOpen_eq_false hpoll
    have hexec : exec .sweepResultStage s = .next s.finishAbandon.settle := by
      refine (if_pos ⟨s.hosting_of_Hosting hhosting, s.freePlaces_pos_iff.2 hroom⟩).trans ?_
      exact (if_neg (by simp [hend])).trans (if_pos ⟨habandoning, hclosed⟩)
    have hfinish := (s.finishAbandon_cases.1 habandoning hclosed).2.1 hresults hroom
    obtain ⟨head, bulkWait, due, attention, heq⟩ := s.finishAbandon.settle_eq
    rw [heq, hfinish] at hexec
    exact ⟨_, hexec, by and_intros <;> rfl⟩
  · intro count idle
    refine ⟨fun a more hrest hpolled => ?_, fun hrest => ?_⟩
    · subst hrest
      exact State.walk_of_stop hdrop hskipped hpolled
    · rw [hrest, List.append_nil] at hdrop
      have hwalk := State.walk_of_through hdrop hskipped
      refine ⟨fun hsilent => ?_, fun hresults hroom => ?_, fun hresults hfull => ?_⟩
      · rw [hwalk, State.endSweep_of_unreported (by exact hsilent)]
        rfl
      · rw [hwalk, State.endSweep_of_room (by exact hresults) (by exact hroom)]
        rfl
      · rw [hwalk, State.endSweep_of_full (by exact hresults) (by exact hfull)]
  · intro counted
    refine ⟨fun hsweeping => ?_, fun hstopped habandoning hx => ?_⟩
    · exact if_pos (by simp [State.sweeping, hsweeping])
    · have hclosed : s.sweepPollClosed miss = counted.finishAbandon :=
        (if_neg (by simp [State.sweeping, hstopped])).trans (if_pos habandoning)
      obtain ⟨hsilent, hroom, hfull⟩ :=
        counted.finishAbandon_cases.1 habandoning (by simp [State.sweepPollOpen, counted, hx])
      rw [hclosed]
      exact ⟨hsilent, hroom, hfull⟩
  · intro pollOpen room waits
    obtain ⟨u, halike, hswe, hstaging⟩ := exists_stopsAlike hways
    have hcases := u.stopSweep_cases
    have hdir : u.dir = s.dir := by rw [State.dir, State.dir, halike.xpt]
    simp only [hdir, halike.swe, halike.staging, halike.bar, halike.poll] at hcases
    rw [hswe, hstaging]
    exact hcases

end Sys2Proof.Machine

/-! A TOTAL reading (R33 to R37, R41). -/

namespace Sys2Proof.Machine

section
variable {p : Point} {raw last : Word}

theorem isJump_iff {limit delta : Word} : isJump limit delta = true ↔ limit ≠ 0 ∧ limit.toNat < delta.toNat := by
  simp [isJump]

/-- The exact sum of R35. -/
def totalSum (p : Point) (raw last : Word) : Int :=
  p.image.total.toInt + shiftExact (((raw - last).toNat : Int) * p.conv.scale.toInt) p.conv.shift.toInt

/-- A number saturated is the nearest of the range. -/
theorem saturate_eq (w : Nat) (x : Int) : saturate w x = max (-2 ^ (w - 1)) (min (2 ^ (w - 1) - 1) x) := by
  have hpos : (0 : Int) < 2 ^ (w - 1) := by positivity
  unfold saturate
  split
  · omega
  · split <;> omega

theorem saturate_ne_iff (w : Nat) (x : Int) : saturate w x ≠ x ↔ x < -2 ^ (w - 1) ∨ 2 ^ (w - 1) - 1 < x := by
  have hpos : (0 : Int) < 2 ^ (w - 1) := by positivity
  rw [saturate_eq]
  omega

theorem conditionTotal_of_first (h : p.image.lastRaw = none) :
    conditionTotal p raw =
      { point := { p with image := { p.image with lastRaw := some raw } }, clipped := false, rebased := false
        change := none } := by
  simp only [conditionTotal, h]

/-- A jump rebases (R36, R41). -/
theorem conditionTotal_of_jump (h : p.image.lastRaw = some last) (hlimit : p.conv.jumpLimit ≠ 0)
    (hjump : p.conv.jumpLimit.toNat < (raw - last).toNat) :
    conditionTotal p raw =
      { point :=
          { p with image := { p.image with lastRaw := some raw, rebaseCount := min 255 (p.image.rebaseCount + 1) } }
        clipped := false, rebased := true
        change := if p.conv.notify then some (.jump, last) else none } := by
  have hjumps : isJump p.conv.jumpLimit (counterDelta raw last) = true := isJump_iff.2 ⟨hlimit, hjump⟩
  simp only [conditionTotal, h, hjumps, if_true]
  rfl

/-- Any other reading adds to the total, saturated (R35). -/
theorem conditionTotal_of_step (h : p.image.lastRaw = some last)
    (hstep : p.conv.jumpLimit = 0 ∨ (raw - last).toNat ≤ p.conv.jumpLimit.toNat) :
    conditionTotal p raw =
      { point :=
          { p with
            image.total := BitVec.ofInt 64 (saturate 64 (totalSum p raw last))
            image.value := (BitVec.ofInt 64 (saturate 64 (totalSum p raw last))).setWidth 32
            image.lastRaw := some raw
            image.clipCount :=
              if decide (saturate 64 (totalSum p raw last) ≠ totalSum p raw last) then min 65535 (p.image.clipCount + 1)
              else p.image.clipCount }
        clipped := decide (saturate 64 (totalSum p raw last) ≠ totalSum p raw last), rebased := false
        change := none } := by
  have hsteps : isJump p.conv.jumpLimit (counterDelta raw last) = false := by
    rw [← Bool.not_eq_true, isJump_iff]
    rintro ⟨hlimit, hjump⟩
    exact hstep.elim hlimit (Nat.not_le.2 hjump)
  simp only [conditionTotal, h, hsteps, Bool.false_eq_true, if_false]
  rfl

theorem conditionTotal_conv (p : Point) (raw : Word) : (conditionTotal p raw).point.conv = p.conv := by
  unfold conditionTotal
  split
  · rfl
  · dsimp only
    split <;> rfl

theorem conditionPoint_of_total (count : Word) (h : p.conv.mode = .total) :
    conditionPoint count p raw =
      { conditionTotal p raw with point.image := (conditionTotal p raw).point.image.accept count } := by
  simp only [conditionPoint, h]

theorem conditionPoint_conv (count raw : Word) (p : Point) : (conditionPoint count p raw).point.conv = p.conv := by
  cases h : p.conv.mode with
  | instant => rw [conditionPoint_of_instant count raw p h]; rfl
  | total => rw [conditionPoint_of_total count h]; exact conditionTotal_conv p raw
  | flag => rw [conditionPoint_of_flag count raw p h]; rfl

end

/-- Settles O48: the first reading, a jump, and any other reading; then the quality and the age that all readings take. -/
theorem totalReading : Obligations.TotalReading := by
  refine ⟨fun p raw last => ⟨conditionTotal_of_first, conditionTotal_of_jump, fun hlast hstep => ?_⟩,
    fun count raw p => ⟨rfl, rfl, conditionPoint_conv count raw p⟩, fun count raw p h => conditionPoint_of_total count h⟩
  intro sum r
  have hr : r = _ := conditionTotal_of_step hlast hstep
  have hclipped : r.clipped = decide (saturate 64 sum ≠ sum) := by rw [hr]; rfl
  refine ⟨by rw [hr], by rw [hr], by rw [hr], by rw [hr], by rw [hr], ?_, by rw [hr], ?_, by rw [hr]⟩
  · have htotal : r.point.image.total.toInt = saturate 64 sum := by
      rw [hr]
      exact toInt_ofInt_saturate (by decide) _
    rw [htotal, saturate_eq]
    norm_num
  · rw [hclipped, decide_eq_true_iff, saturate_ne_iff]
    norm_num

end Sys2Proof.Machine

/-! The check of a telegram, and a telegram as received (R68 to R74, R191). -/

namespace Sys2Proof.Machine

/-! ### The check (R71) -/

/-- A bit equal to the register's top bit shifts the register and no more. -/
theorem checkStep_msb (register : Half) : checkStep register register.msb = register <<< 1 := by
  simp [checkStep]

theorem checkStep_eq (register : Half) (bit : Bool) :
    checkStep register bit = if register.msb = bit then register <<< 1 else (register <<< 1) ^^^ 0x8005#16 := by
  unfold checkStep
  cases register.msb <;> cases bit <;> rfl

/-- The check's own bits, fed back, shift it out. -/
theorem foldl_checkStep_own (register : Half) (n : Nat) :
    ((List.range n).map (fun k => (register <<< k).msb)).foldl checkStep register = register <<< n := by
  induction n with
  | zero => simp
  | succ n ih =>
    rw [List.range_succ, List.map_append, List.foldl_append, ih]
    change checkStep (register <<< n) (register <<< n).msb = _
    rw [checkStep_msb, BitVec.shiftLeft_add]

theorem bitsOfBytes_beHalf (register : Half) :
    bitsOfBytes (beHalf register) = (List.range 16).map (fun k => (register <<< k).msb) := by
  simp [bitsOfBytes, beHalf, bitsOfByte, List.range_succ, BitVec.msb_eq_getLsbD_last]

theorem check_append (bytes more : List Byte) :
    check (bytes ++ more) = (bitsOfBytes more).foldl checkStep (check bytes) := by
  simp [check, bitsOfBytes, List.flatMap_append, List.foldl_append]

theorem check_withCheck (bytes : List Byte) : check (withCheck bytes) = 0 := by
  rw [withCheck, check_append, bitsOfBytes_beHalf, foldl_checkStep_own]
  exact BitVec.shiftLeft_eq_zero (by decide)

theorem bitsOfByte_eq (b : Byte) : bitsOfByte b = (List.range 8).map (fun k => b.getLsbD (7 - k)) := rfl

/-! ### Intervals and cells (R68, R70) -/

theorem classify_iff (rate : BitRate) (ns : Nat) :
    (classify rate.bitTime ns = .half ↔ rate.bitTime ≤ 4 * ns ∧ 4 * ns < 3 * rate.bitTime) ∧
      (classify rate.bitTime ns = .whole ↔ 3 * rate.bitTime ≤ 4 * ns ∧ 4 * ns ≤ 5 * rate.bitTime) ∧
      (classify rate.bitTime ns = .error ↔
        4 * ns < rate.bitTime ∨ (5 * rate.bitTime < 4 * ns ∧ 2 * ns ≤ 5 * rate.bitTime)) := by
  have hpos : 0 < rate.bitTime := by cases rate <;> decide
  unfold classify
  refine ⟨?_, ?_, ?_⟩
  all_goals
    (repeat' split) <;> simp <;> omega

/-- A cell as it may be heard: one whole, or two halves (R70). -/
def IsCell (bitTime : Nat) (c : List Nat) : Prop :=
  (∃ w, c = [w] ∧ classify bitTime w = .whole) ∨
    (∃ h k, c = [h, k] ∧ classify bitTime h = .half ∧ classify bitTime k = .half)

theorem cellBits_isCell {bitTime : Nat} {c : List Nat} (h : IsCell bitTime c) (rest : List Nat) :
    cellBits bitTime false (c ++ rest) = (cellBits bitTime false rest).map (decide (c.length = 1) :: ·) := by
  rcases h with ⟨w, rfl, hw⟩ | ⟨h, k, rfl, hh, hk⟩
  · simp [cellBits, hw]
  · simp [cellBits, hh, hk]

theorem cellBits_isCells {bitTime : Nat} {cells : List (List Nat)} (h : ∀ c ∈ cells, IsCell bitTime c) (rest : List Nat) :
    cellBits bitTime false (cells.flatten ++ rest) =
      (cellBits bitTime false rest).map (cells.map (fun c => decide (c.length = 1)) ++ ·) := by
  induction cells with
  | nil => simp
  | cons c cells ih =>
    obtain ⟨hc, hcells⟩ := List.forall_mem_cons.1 h
    rw [List.flatten_cons, List.append_assoc, cellBits_isCell hc, ih hcells, Option.map_map]
    rfl

/-- Only whole bytes are bytes (R70). -/
theorem bytesOfBits_length {bits : List Bool} {bytes : List Byte} (h : bytesOfBits bits = some bytes) :
    bits.length % 8 = 0 := by
  fun_induction bytesOfBits bits generalizing bytes with
  | case1 => rfl
  | case2 b7 b6 b5 b4 b3 b2 b1 b0 rest ih =>
    obtain ⟨more, hmore, -⟩ := Option.map_eq_some_iff.1 h
    have hrest := ih hmore
    simp only [List.length_cons]
    omega
  | case3 => exact absurd h nofun

/-! ### The fields of a telegram (R72 to R74, R191) -/

theorem parseFields_isSome_iff (fields : List Byte) :
    (parseFields fields).isSome ↔ soundRequest fields ∨ soundReply fields := by
  cases fields with
  | nil => simp [parseFields, soundRequest, soundReply, byteAt]
  | cons b0 rest =>
    have hfirst : byteAt (b0 :: rest) 0 = b0 := rfl
    have hmsb : b0.msb = true ↔ 128 ≤ b0.toNat := by simp [BitVec.msb_eq_decide]
    cases hb : b0.msb with
    | true =>
      have hnot : ¬ soundRequest (b0 :: rest) := by
        rintro ⟨-, hrange, -⟩
        rw [hfirst] at hrange
        have := hmsb.1 hb
        omega
      have hparse : parseFields (b0 :: rest) = (parseReply (b0 :: rest)).map .reply := if_pos hb
      rw [hparse, Option.isSome_map, parseReply_isSome_iff (b0 :: rest) (by rw [hfirst, hb]), or_iff_right hnot]
    | false =>
      have hnot : ¬ soundReply (b0 :: rest) := by
        rintro ⟨hreply, -⟩
        rw [hfirst] at hreply
        simp [hmsb.2 hreply] at hb
      have hparse : parseFields (b0 :: rest) = (parseRequest (b0 :: rest)).map .request := if_neg (by simp [hb])
      rw [hparse, Option.isSome_map, parseRequest_isSome_iff (b0 :: rest) (by rw [hfirst, hb]), or_iff_left hnot]

theorem withCheck_length (fields : List Byte) : (withCheck fields).length = fields.length + 2 := by
  simp [withCheck, beHalf]

/-- Field bytes that arrive with their check are parsed (R74). -/
theorem parseTelegram_withCheck {fields : List Byte} (h : fields.length ≤ 36) :
    parseTelegram (withCheck fields) = parseFields fields := by
  have hlength := withCheck_length fields
  have htake : (withCheck fields).take ((withCheck fields).length - 2) = fields := by
    rw [hlength, Nat.add_sub_cancel, withCheck, List.take_left]
  have hdrop : (withCheck fields).drop ((withCheck fields).length - 2) = beHalf (check fields) := by
    rw [hlength, Nat.add_sub_cancel, withCheck, List.drop_left]
  unfold parseTelegram
  rw [htake, hdrop]
  refine if_pos ⟨?_, ?_, rfl⟩
  · rw [hlength]
    exact Nat.add_le_add_right h 2
  · rw [hlength]
    exact Nat.le_add_left 2 _

/-- Bytes whose last two are not the check of the rest are damaged (R74). -/
theorem parseTelegram_eq_none {bytes : List Byte} (h : 38 < bytes.length ∨ ∀ fields, bytes ≠ withCheck fields) :
    parseTelegram bytes = none := by
  refine if_neg ?_
  rintro ⟨hlength, -, hcheck⟩
  rcases h with h | h
  · exact absurd hlength (Nat.not_le.2 h)
  · refine h (bytes.take (bytes.length - 2)) ?_
    rw [withCheck, ← hcheck, List.take_append_drop]

theorem parseTelegram_isSome_iff (bytes : List Byte) :
    (parseTelegram bytes).isSome ↔
      bytes.length ≤ 38 ∧ ∃ fields, bytes = withCheck fields ∧ (soundRequest fields ∨ soundReply fields) := by
  by_cases hsound : bytes.length ≤ 38 ∧ ∃ fields, bytes = withCheck fields
  · obtain ⟨hlength, fields, rfl⟩ := hsound
    rw [withCheck_length] at hlength
    have hunique (more : List Byte) (h : withCheck fields = withCheck more) : fields = more := by
      have hsame : fields.length = more.length := by
        have hcount := congrArg List.length h
        rw [withCheck_length, withCheck_length] at hcount
        omega
      exact (List.append_inj h hsame).1
    rw [parseTelegram_withCheck (by omega), parseFields_isSome_iff, withCheck_length]
    refine ⟨fun h => ⟨hlength, fields, rfl, h⟩, ?_⟩
    rintro ⟨-, more, hmore, h⟩
    rwa [hunique more hmore]
  · have hnone : parseTelegram bytes = none := by
      refine parseTelegram_eq_none ?_
      by_cases hlength : bytes.length ≤ 38
      · exact .inr fun fields hfields => hsound ⟨hlength, fields, hfields⟩
      · exact .inl (Nat.not_le.1 hlength)
    rw [hnone]
    refine iff_of_false nofun ?_
    rintro ⟨hlength, fields, hfields, -⟩
    exact hsound ⟨hlength, fields, hfields⟩

theorem receive_of_bits {rate : BitRate} {intervals : List Nat} {bits : Option (List Bool)}
    (h : cellBits rate.bitTime false intervals = bits) :
    receive rate intervals = (bits.bind bytesOfBits).bind parseTelegram := by
  rw [receive, telegramBytes, h]

/-- Settles O50: the check, the cells, the intervals' classes, and what a receiver makes of cells and of what follows
them. -/
theorem checkOfATelegram : Obligations.CheckOfATelegram := by
  refine ⟨⟨by decide +kernel, by decide +kernel, check_withCheck, rfl, fun bytes b => ?_, fun bytes => rfl⟩,
    ⟨rfl, rfl, rfl, fun bitTime bytes => ?_⟩, ⟨rfl, rfl⟩, classify_iff, fun rate cells hcells => ?_⟩
  · rw [check_append]
    simp only [bitsOfBytes, List.flatMap_cons, List.flatMap_nil, List.append_nil, bitsOfByte_eq, List.foldl_map,
      checkStep_eq]
  · simp only [waveform, bitsOfBytes, List.flatMap_assoc, bitsOfByte_eq, List.flatMap_map, cellOfBit]
  · intro bits
    have hbits (rest : List Nat) :
        cellBits rate.bitTime false (cells.flatten ++ rest) = (cellBits rate.bitTime false rest).map (bits ++ ·) :=
      cellBits_isCells hcells rest
    have hnone {rest : List Nat} (h : cellBits rate.bitTime false rest = none) : receive rate (cells.flatten ++ rest) = none := by
      rw [receive_of_bits (hbits rest), h]
      rfl
    have hall : receive rate cells.flatten = (bytesOfBits bits).bind parseTelegram := by
      have hend := hbits []
      rw [List.append_nil] at hend
      rw [receive_of_bits hend]
      simp [cellBits]
    refine ⟨fun ns rest herror => hnone ?_, fun ns hhalf => hnone ?_, fun ns next rest hhalf hnext => hnone ?_,
      fun hlength => ?_,
      fun bytes hbytes => ?_⟩
    · simp [cellBits, herror]
    · simp [cellBits, hhalf]
    · cases hclass : classify rate.bitTime next with
      | half => exact absurd hclass hnext
      | whole | error | quiet => simp [cellBits, hhalf, hclass]
    · rw [hall]
      cases hbytes : bytesOfBits bits with
      | none => rfl
      | some bytes => exact absurd (bytesOfBits_length hbytes) hlength
    · have hread : bytesOfBits bits = some bytes := by
        rw [hbytes]
        exact bytesOfBits_bitsOfBytes bytes
      rw [hall, hread]
      exact parseTelegram_isSome_iff bytes

end Sys2Proof.Machine

/-! A telegram is received as it was sent (R68 to R74). -/

namespace Sys2Proof.Machine

/-! ### The field bytes as numbers (R72, R73) -/

theorem append_toNat {m n : Nat} (hi : BitVec m) (lo : BitVec n) : (hi ++ lo).toNat = 2 ^ n * hi.toNat + lo.toNat := by
  rw [BitVec.toNat_append, ← Nat.shiftLeft_add_eq_or_of_lt lo.isLt, Nat.shiftLeft_eq, Nat.mul_comm]

theorem beWord_eq (v : Word) :
    beWord v =
      [BitVec.ofNat 8 (v.toNat / 0x1000000), BitVec.ofNat 8 (v.toNat / 0x10000), BitVec.ofNat 8 (v.toNat / 0x100),
        BitVec.ofNat 8 v.toNat] := by
  have hbyte (i : Nat) : v.extractLsb' i 8 = BitVec.ofNat 8 (v.toNat / 2 ^ i) := by
    apply BitVec.eq_of_toNat_eq
    rw [BitVec.extractLsb'_toNat, BitVec.toNat_ofNat, Nat.shiftRight_eq_div_pow]
  have hlow : v.extractLsb' 0 8 = BitVec.ofNat 8 v.toNat := by
    rw [hbyte, Nat.pow_zero, Nat.div_one]
  rw [beWord, hbyte 24, hbyte 16, hbyte 8, hlow]
  rfl

theorem flatMap_beWord_length (values : List Word) : (values.flatMap beWord).length = 4 * values.length := by
  induction values with
  | nil => rfl
  | cons v values ih =>
    rw [List.flatMap_cons, List.length_append, ih, List.length_cons]
    simp only [beWord, List.length_cons, List.length_nil]
    omega

theorem Verb.code_range (v : Verb) : 1 ≤ v.code ∧ v.code ≤ 5 := by cases v <;> decide

theorem ReplyClass.code_range (c : ReplyClass) : 1 ≤ c.code ∧ c.code ≤ 3 := by cases c <;> decide

/-- Byte 0 of a telegram: the direction above the address (R72, R73). -/
theorem addressByte_toNat (direction : BitVec 1) {address : Nat} (h : address ≤ 127) :
    (direction ++ BitVec.ofNat 7 address : Byte).toNat = 128 * direction.toNat + address := by
  refine (append_toNat direction (BitVec.ofNat 7 address)).trans ?_
  rw [BitVec.toNat_ofNat, Nat.mod_eq_of_lt (by omega)]
  rfl

/-- Byte 1 of a request: the tag, the verb and the count (R72). -/
theorem verbByte_toNat (tag : BitVec 1) (verb : Verb) {count : Nat} (h : count ≤ 15) :
    (tag ++ BitVec.ofNat 3 verb.code ++ BitVec.ofNat 4 count : Byte).toNat = 128 * tag.toNat + 16 * verb.code + count :=
      by
  have hverb := verb.code_range
  refine (append_toNat (tag ++ BitVec.ofNat 3 verb.code) (BitVec.ofNat 4 count)).trans ?_
  rw [append_toNat, BitVec.toNat_ofNat, BitVec.toNat_ofNat, Nat.mod_eq_of_lt (a := verb.code) (by omega),
    Nat.mod_eq_of_lt (a := count) (by omega)]
  omega

/-- Byte 2 of a request: the sequence and the first channel (R72). -/
theorem seqByte_toNat (seq : BitVec 3) {first : Nat} (h : first ≤ 31) :
    (seq ++ BitVec.ofNat 5 first : Byte).toNat = 32 * seq.toNat + first := by
  refine (append_toNat seq (BitVec.ofNat 5 first)).trans ?_
  rw [BitVec.toNat_ofNat, Nat.mod_eq_of_lt (by omega)]
  rfl

/-- Byte 1 of a reply: the verb echo, the class and the sequence (R73). -/
theorem classByte_toNat (verb : Verb) (cls : ReplyClass) (seq : BitVec 3) :
    (BitVec.ofNat 3 verb.code ++ BitVec.ofNat 2 cls.code ++ seq : Byte).toNat = 32 * verb.code + 8 * cls.code + seq.toNat := by
  have hverb := verb.code_range
  have hcls := cls.code_range
  refine (append_toNat (BitVec.ofNat 3 verb.code ++ BitVec.ofNat 2 cls.code) seq).trans ?_
  rw [append_toNat, BitVec.toNat_ofNat, BitVec.toNat_ofNat, Nat.mod_eq_of_lt (a := verb.code) (by omega),
    Nat.mod_eq_of_lt (a := cls.code) (by omega)]
  omega

theorem eq_ofNat_of_toNat {b : Byte} {n : Nat} (h : b.toNat = n) : b = BitVec.ofNat 8 n := by
  rw [← h]
  exact (BitVec.ofNat_toNat 8 b).symm.trans (by simp)

/-! ### A request received (R72, R74) -/

section
variable {q : Request}

theorem Request.telegram_eq (haddress : q.address ≤ 127) (hfirst : q.first ≤ 31) (hcount : q.count ≤ 15) :
    q.telegram =
      withCheck
        ([BitVec.ofNat 8 q.address, BitVec.ofNat 8 (128 * q.tag.toNat + 16 * q.verb.code + q.count),
            BitVec.ofNat 8 (32 * q.seq.toNat + q.first)] ++ q.values.flatMap beWord) := by
  have h0 : (0#1 ++ BitVec.ofNat 7 q.address : Byte) = BitVec.ofNat 8 q.address :=
    eq_ofNat_of_toNat ((addressByte_toNat 0#1 haddress).trans (Nat.zero_add _))
  rw [Request.telegram, h0, eq_ofNat_of_toNat (verbByte_toNat q.tag q.verb hcount),
    eq_ofNat_of_toNat (seqByte_toNat q.seq hfirst)]

/-- Sound field bytes of a request are parsed back to it (R72, R74, R191). -/
theorem parseRequest_fields {b0 b1 b2 : Byte} (h0 : b0.toNat = q.address)
    (h1 : b1.toNat = 128 * q.tag.toNat + 16 * q.verb.code + q.count) (h2 : b2.toNat = 32 * q.seq.toNat + q.first)
    (haddress : q.address ≤ 127) (hfirst : q.first ≤ 31) (hcount : q.count ≤ 15)
    (hsound : (pairingOk q.address q.verb && requestCountOk q.verb q.count && valuesFit q.verb q.count q.values) = true) :
    parseRequest (b0 :: b1 :: b2 :: q.values.flatMap beWord) = some q := by
  have hverb := q.verb.code_range
  have htag := q.tag.isLt
  have hseq := q.seq.isLt
  have eaddress : (b0.extractLsb' 0 7).toNat = q.address := by
    rw [extractLsb_toNat, h0]
    omega
  have etag : b1.extractLsb' 7 1 = q.tag := BitVec.eq_of_toNat_eq (by rw [extractLsb_toNat, h1]; omega)
  have everb : verbOf (b1.extractLsb' 4 3).toNat = some q.verb := by
    rw [verbOf_eq_some_iff, extractLsb_toNat, h1]
    omega
  have ecount : (b1.extractLsb' 0 4).toNat = q.count := by
    rw [extractLsb_toNat, h1]
    omega
  have eseq : b2.extractLsb' 5 3 = q.seq := BitVec.eq_of_toNat_eq (by rw [extractLsb_toNat, h2]; omega)
  have efirst : (b2.extractLsb' 0 5).toNat = q.first := by
    rw [extractLsb_toNat, h2]
    omega
  simp only [parseRequest, everb, beWords_flatMap, eaddress, etag, ecount, eseq, efirst, hsound, if_true]

/-- A byte below 128 begins a request, and one from 128 a reply (R72, R73). -/
theorem parseFields_of_request {b0 : Byte} (h : b0.toNat ≤ 127) (rest : List Byte) :
    parseFields (b0 :: rest) = (parseRequest (b0 :: rest)).map .request := by
  have hmsb : b0.msb = false := by
    rw [BitVec.msb_eq_decide]
    exact decide_eq_false (by omega)
  simp only [parseFields, hmsb, Bool.false_eq_true, if_false]

theorem parseFields_of_reply {b0 : Byte} (h : 128 ≤ b0.toNat) (rest : List Byte) :
    parseFields (b0 :: rest) = (parseReply (b0 :: rest)).map .reply := by
  have hmsb : b0.msb = true := by
    rw [BitVec.msb_eq_decide]
    exact decide_eq_true (by omega)
  simp only [parseFields, hmsb, if_true]

theorem receive_waveform (rate : BitRate) {fields : List Byte} (h : fields.length ≤ 36) :
    receive rate (waveform rate.bitTime (withCheck fields)) = parseFields fields := by
  rw [receive, telegramBytes_waveform, Option.bind_some, parseTelegram_withCheck h]

/-- The pairing, the count and the values of a request within the defined sets (R74, R191). -/
theorem Request.sound (hlow : 1 ≤ q.address) (hall : q.address = 126 → q.verb = .latch)
    (hnobody : q.address = 127 ↔ q.verb = .mark) (hone : 1 ≤ q.count) (height : q.count ≤ 8)
    (hstore : q.verb = .store → q.values.length = q.count) (hother : q.verb ≠ .store → q.values = []) :
    (pairingOk q.address q.verb && requestCountOk q.verb q.count && valuesFit q.verb q.count q.values) = true := by
  have hpairing : pairingOk q.address q.verb = true := by
    unfold pairingOk
    rw [if_neg (by omega)]
    by_cases h126 : q.address = Config.allStations
    · rw [if_pos h126, hall h126]
      rfl
    · rw [if_neg h126]
      by_cases h127 : q.address = Config.nobody
      · rw [if_pos h127, hnobody.1 h127]
        rfl
      · rw [if_neg h127]
        exact decide_eq_true (mt hnobody.2 h127)
  have hcount : requestCountOk q.verb q.count = true := by
    simp [requestCountOk, hone, height]
  have hvalues : valuesFit q.verb q.count q.values = true := by
    unfold valuesFit
    split
    next hverb => exact decide_eq_true (hstore hverb)
    next hverb => rw [hother hverb]; rfl
  rw [hpairing, hcount, hvalues]
  rfl

end

/-- Settles O51: the bytes of a request, and its way through the line back to the request. -/
theorem requestsAreReceivedAsSent : Obligations.RequestsAreReceivedAsSent := by
  refine ⟨fun q haddress hfirst hcount => ?_,
    fun rate q hlow haddress hall hnobody hfirst hone height hstore hother => ?_⟩
  · intro verb
    have hverb : verb = q.verb.code := by
      dsimp only [verb]
      cases q.verb <;> rfl
    rw [Request.telegram_eq haddress hfirst hcount, hverb, List.flatMap_congr fun v _ => beWord_eq v]
  · have hlength : ([0#1 ++ BitVec.ofNat 7 q.address, q.tag ++ BitVec.ofNat 3 q.verb.code ++ BitVec.ofNat 4 q.count,
        q.seq ++ BitVec.ofNat 5 q.first] ++ q.values.flatMap beWord : List Byte).length ≤ 36 := by
      rw [List.length_append, flatMap_beWord_length]
      by_cases hverb : q.verb = .store
      · rw [hstore hverb]
        simp only [List.length_cons, List.length_nil]
        omega
      · rw [hother hverb]
        simp
    have hdirection := addressByte_toNat 0#1 haddress
    rw [Request.telegram, receive_waveform rate hlength]
    refine (parseFields_of_request (by rw [hdirection]; simpa using haddress) _).trans ?_
    refine congrArg (Option.map Telegram.request) (parseRequest_fields (hdirection.trans (Nat.zero_add _))
      (verbByte_toNat q.tag q.verb (by omega)) (seqByte_toNat q.seq hfirst) haddress hfirst (by omega)
      (Request.sound hlow hall hnobody hone height hstore hother))

/-! ### A reply received (R73, R74) -/

section
variable {r : Reply}

theorem Reply.telegram_eq (haddress : r.address ≤ 127) :
    r.telegram =
      withCheck
        ([BitVec.ofNat 8 (128 + r.address), BitVec.ofNat 8 (32 * r.verb.code + 8 * r.cls.code + r.seq.toNat),
            BitVec.ofNat 8 r.count, r.condition] ++ r.body) := by
  rw [Reply.telegram, eq_ofNat_of_toNat (addressByte_toNat 1#1 haddress),
    eq_ofNat_of_toNat (classByte_toNat r.verb r.cls r.seq)]
  rfl

/-- The body of a reply, fixed by its verb echo and class (R73, R191). -/
structure Reply.SoundBody (r : Reply) : Prop where
  fetch : r.cls = .good → r.verb = .fetch → r.values.length = r.count ∧ r.identity = none
  query : r.cls = .good → r.verb = .query →
    r.values = [] ∧ ∃ kind channels, r.identity = some (kind, channels) ∧ 1 ≤ channels ∧ channels ≤ 32
  empty : r.cls ≠ .good ∨ r.verb = .store → r.values = [] ∧ r.identity = none

theorem Reply.body_of_identity {kind : Byte} {channels : Nat} (hvalues : r.values = [])
    (h : r.identity = some (kind, channels)) :
    r.body = [kind, BitVec.ofNat 8 channels] := by
  simp [Reply.body, hvalues, h]

theorem Reply.body_of_values (h : r.identity = none) : r.body = r.values.flatMap beWord := by
  simp [Reply.body, h]

theorem Reply.body_length (hverb : r.verb = .fetch ∨ r.verb = .store ∨ r.verb = .query) (hcount : r.count ≤ 8)
    (h : r.SoundBody) : r.body.length ≤ 32 := by
  have hempty (h : r.values = [] ∧ r.identity = none) : r.body.length ≤ 32 := by
    rw [Reply.body_of_values h.2, h.1]
    exact Nat.zero_le _
  by_cases hcls : r.cls = .good
  · rcases hverb with hv | hv | hv
    · obtain ⟨hlength, hidentity⟩ := h.fetch hcls hv
      rw [Reply.body_of_values hidentity, flatMap_beWord_length]
      omega
    · exact hempty (h.empty (.inr hv))
    · obtain ⟨hvalues, kind, channels, hidentity, -⟩ := h.query hcls hv
      rw [Reply.body_of_identity hvalues hidentity]
      simp
  · exact hempty (h.empty (.inl hcls))

theorem parseReplyBody_body (hverb : r.verb = .fetch ∨ r.verb = .store ∨ r.verb = .query) (h : r.SoundBody) :
    parseReplyBody r.verb r.cls r.count r.body = some (r.values, r.identity) := by
  have hempty (h : r.values = [] ∧ r.identity = none) : r.body = [] := by
    rw [Reply.body_of_values h.2, h.1]
    rfl
  by_cases hcls : r.cls = .good
  · rcases hverb with hv | hv | hv
    · obtain ⟨hlength, hidentity⟩ := h.fetch hcls hv
      unfold parseReplyBody
      rw [if_pos ⟨hcls, hv⟩, Reply.body_of_values hidentity, beWords_flatMap, hidentity]
      exact if_pos hlength
    · have hnone := h.empty (.inr hv)
      unfold parseReplyBody
      rw [if_neg (by simp [hv]), if_neg (by simp [hv]), hempty hnone, hnone.1, hnone.2]
      rfl
    · obtain ⟨hvalues, kind, channels, hidentity, hlow, hhigh⟩ := h.query hcls hv
      have hchannels : (BitVec.ofNat 8 channels).toNat = channels := by
        rw [BitVec.toNat_ofNat]
        omega
      unfold parseReplyBody
      rw [if_neg (by simp [hv]), if_pos ⟨hcls, hv⟩, Reply.body_of_identity hvalues hidentity, hvalues, hidentity]
      dsimp only
      rw [hchannels]
      exact if_pos ⟨hlow, hhigh⟩
  · have hnone := h.empty (.inl hcls)
    unfold parseReplyBody
    rw [if_neg (by simp [hcls]), if_neg (by simp [hcls]), hempty hnone, hnone.1, hnone.2]
    rfl

/-- Sound field bytes of a reply are parsed back to it (R73, R74, R191). -/
theorem parseReply_fields {b0 b1 b2 : Byte} (h0 : b0.toNat = 128 + r.address)
    (h1 : b1.toNat = 32 * r.verb.code + 8 * r.cls.code + r.seq.toNat) (h2 : b2.toNat = r.count) (hlow : 1 ≤ r.address)
    (hhigh : r.address ≤ 125) (hverb : r.verb = .fetch ∨ r.verb = .store ∨ r.verb = .query) (hone : 1 ≤ r.count)
    (height : r.count ≤ 8) (hbody : r.SoundBody) : parseReply (b0 :: b1 :: b2 :: r.condition :: r.body) = some r := by
  have hcode := r.verb.code_range
  have hclass := r.cls.code_range
  have hseq := r.seq.isLt
  have eaddress : (b0.extractLsb' 0 7).toNat = r.address := by
    rw [extractLsb_toNat, h0]
    omega
  have everb : verbOf (b1.extractLsb' 5 3).toNat = some r.verb := by
    rw [verbOf_eq_some_iff, extractLsb_toNat, h1]
    omega
  have ecls : classOf (b1.extractLsb' 3 2).toNat = some r.cls := by
    rw [classOf_eq_some_iff, extractLsb_toNat, h1]
    omega
  have eseq : b1.extractLsb' 0 3 = r.seq := BitVec.eq_of_toNat_eq (by rw [extractLsb_toNat, h1]; omega)
  have hsound : (decide (1 ≤ r.address) && decide (r.address ≤ Config.maxStationAddress) && decide (r.verb ≠ .latch) &&
      decide (r.verb ≠ .mark) && decide (1 ≤ r.count) && decide (r.count ≤ 8)) = true := by
    have hmax : r.address ≤ Config.maxStationAddress := hhigh
    rcases hverb with h | h | h <;> simp [h, hlow, hmax, hone, height]
  simp only [parseReply, everb, ecls, eaddress, eseq, h2, hsound, if_true, parseReplyBody_body hverb hbody,
    Option.map_some]

end

/-- Settles O52: the bytes of a reply, and its way through the line back to the reply. -/
theorem repliesAreReceivedAsSent : Obligations.RepliesAreReceivedAsSent := by
  refine ⟨fun r haddress => ?_, fun rate r hlow hhigh hverb hone height hfetch hquery hempty => ?_⟩
  · intro verb cls
    have hverb : verb = r.verb.code := by
      dsimp only [verb]
      cases r.verb <;> rfl
    have hcls : cls = r.cls.code := by
      dsimp only [cls]
      cases r.cls <;> rfl
    rw [Reply.telegram_eq haddress, hverb, hcls, List.append_assoc, Reply.body,
      List.flatMap_congr fun v _ => beWord_eq v] <;> rfl
  · have hbody : r.SoundBody := ⟨hfetch, hquery, hempty⟩
    have hdirection := addressByte_toNat 1#1 (address := r.address) (by omega)
    have hlength : ([1#1 ++ BitVec.ofNat 7 r.address, BitVec.ofNat 3 r.verb.code ++ BitVec.ofNat 2 r.cls.code ++ r.seq,
        BitVec.ofNat 8 r.count, r.condition] ++ r.body : List Byte).length ≤ 36 := by
      have hshort := Reply.body_length hverb height hbody
      rw [List.length_append]
      simp only [List.length_cons, List.length_nil]
      omega
    rw [Reply.telegram, receive_waveform rate hlength]
    refine (parseFields_of_reply (by rw [hdirection]; exact Nat.le_add_right 128 _) _).trans ?_
    have hcount : (BitVec.ofNat 8 r.count).toNat = r.count := by
      rw [BitVec.toNat_ofNat]
      omega
    exact congrArg (Option.map Telegram.reply)
      (parseReply_fields hdirection (classByte_toNat r.verb r.cls r.seq) hcount hlow hhigh hverb hone height hbody)

end Sys2Proof.Machine
